-- ==== Sys2Proof/Word.lean ====
section
/-! DEFINITION. The word types of the Covimar 3120's frames and records (Chapter 10). -/

namespace Sys2Proof

/-- A byte of a frame or of a table entry. -/
abbrev Byte := BitVec 8

/-- A two-byte field. -/
abbrev Half := BitVec 16

/-- A four-byte field: sweep numbers and generations. -/
abbrev Word := BitVec 32

/-- The 16-byte tag of UPDATE-SEAL (R170). -/
abbrev Tag := BitVec 128

end Sys2Proof
end

