-- ==== Sys2Proof/Syntax.lean ====
section
/-! DEFINITION. The commands of the block: one constructor per row of spec/opcode_table.json. -/

namespace Sys2Proof

/-- The three contactors (R96). -/
inductive Contactor where
  | pos | neg | pre
  deriving DecidableEq, Repr

/-- The commands and events that change the 3120. `params` are the parameter bytes of the MANAGE payload, after the
command code (10.3, R208); `rx` are the bytes received, in frame order. -/
inductive Instr where
  /-- EXCHANGE_BEGIN (R187): falling edge of chip-select. -/
  | exchangeBegin
  /-- EXCHANGE_END (R189): rising edge of chip-select after the bytes `rx` were clocked in. -/
  | exchangeEnd (rx : List Byte)
  /-- UNKNOWN_COMMAND (R195): a MANAGE frame whose code names no command. -/
  | unknownCommand (code : Byte)
  /-- IDENTIFY (R196). -/
  | identify
  /-- READ_STATUS (R197): section. -/
  | readStatus (params : List Byte)
  /-- READ_EVENTS (R202): channel. -/
  | readEvents (params : List Byte)
  /-- SET_EVENTS (R203): enable set, channel map. -/
  | setEvents (params : List Byte)
  /-- HUB_RESET (R204). -/
  | hubReset
  /-- SWEEP_START (R4). -/
  | sweepStart
  /-- SWEEP_STOP (R5). -/
  | sweepStop
  /-- CHAIN_GATE (R46): masks. -/
  | chainGate (params : List Byte)
  /-- ENUMERATE (R40). -/
  | enumerate
  /-- SET_PROFILE (R53): profile. -/
  | setProfile (params : List Byte)
  /-- READ_SAMPLES (R74): first index, count, form. -/
  | readSamples (params : List Byte)
  /-- READ_PACK (R75). -/
  | readPack
  /-- READ_TRIP (R86). -/
  | readTrip
  /-- CLEAR_TRIP (R91). -/
  | clearTrip
  /-- CLOSE (R101). -/
  | closeContactors
  /-- OPEN (R107). -/
  | openContactors
  /-- READ_CAPTURE (R136): capture id, first step. -/
  | readCapture (params : List Byte)
  /-- SLEEP (R141). -/
  | sleep
  /-- UPDATE_BEGIN (R164): table set, generation. -/
  | updateBegin (params : List Byte)
  /-- UPDATE_WINDOW (R166): table, first, last. -/
  | updateWindow (params : List Byte)
  /-- UPDATE_WRITE (R167): control, field select, entries. -/
  | updateWrite (params : List Byte)
  /-- UPDATE_SEAL (R170): tag. -/
  | updateSeal (params : List Byte)
  /-- UPDATE_ACTIVATE (R176). -/
  | updateActivate
  /-- UPDATE_ABORT (R180). -/
  | updateAbort
  /-- LOCK_FLOOR (R183). -/
  | lockFloor
  /-- CLEAR_TAMPER (R182). -/
  | clearTamper
  /-- READ_TABLE (R184): table, page, source, first entry, count. -/
  | readTable (params : List Byte)
  /-- POWER_ON_RESET (R162): supply rise or brown-out. -/
  | powerOnReset
  /-- HARD_RESET (R185): RESET_N. -/
  | hardReset
  /-- LINK_WAKE (R152): chip-select falls while the Controller Port is unpowered. -/
  | linkWake
  /-- WAKE_IN (R152): rising edge of WAKE_IN. -/
  | wakeIn
  /-- TAMPER_IN (R181): the debounced TAMPER_IN becomes asserted. -/
  | tamperIn
  /-- SYNC_IN (R8): rising edge of SYNC_IN. -/
  | syncIn
  /-- SYNC_WAIT_EXPIRY (R8): the wait count reaches its limit. -/
  | syncWaitExpiry
  /-- SLOT_DUE (R10): the sweep counter reaches a slot's offset. -/
  | slotDue
  /-- QUIET_WINDOW_START (R13): the sweep counter reaches QS. -/
  | quietWindowStart
  /-- DEFERRED_SLOTS_DUE (R13): the sweep counter reaches QE + 1. -/
  | deferredSlotsDue
  /-- SWEEP_END (R7): the sweep counter reaches the period. -/
  | sweepEnd
  /-- BROADCAST_SENT (R28): the last byte of a broadcast frame is sent. -/
  | broadcastSent
  /-- ANSWER_RECEIVED (R31): a complete answer frame has arrived. -/
  | answerReceived (rx : List Byte)
  /-- RESPONSE_WINDOW_CLOSE (R30): the window closes; `begun` says whether an answer had begun to arrive. -/
  | responseWindowClose (begun : Bool)
  /-- ANSWER_LENGTH_BAD (R30): the length field of an answer arrives with the value `length`. -/
  | answerLengthBad (length : Byte)
  /-- STRAY_FRAME (R33): a chain frame arrives while no answer is awaited. -/
  | strayFrame (rx : List Byte)
  /-- CAPTURE_STEP_DUE (R126): the top context's ticks remaining reach 0. -/
  | captureStepDue
  /-- ENDED_CONTEXT_LEAVES (R133): an ended top context leaves the stack. -/
  | endedContextLeaves
  /-- FEEDBACK_DEBOUNCED (R97): a feedback input has held a new level for 1 ms. -/
  | feedbackDebounced (contactor : Contactor) (closed : Bool)
  /-- PRECHARGE_TIMEOUT (R105). -/
  | prechargeTimeout
  /-- DEFER_TIMER_EXPIRY (R109). -/
  | deferTimerExpiry
  /-- DWELL_TIMER_EXPIRY (R110). -/
  | dwellTimerExpiry
  /-- WELD_TIMER_EXPIRY (R112). -/
  | weldTimerExpiry
  /-- DISAGREEMENT_TIMER_EXPIRY (R114). -/
  | disagreementTimerExpiry (contactor : Contactor)
  /-- SILENCE_TIMER_EXPIRY (R115). -/
  | silenceTimerExpiry
  /-- DRAIN_COMPLETE (R142): the drain conditions hold. -/
  | drainComplete
  /-- DRAIN_TIMER_EXPIRY (R142). -/
  | drainTimerExpiry
  /-- WATCH_TIMER_EXPIRY (R148). -/
  | watchTimerExpiry
  /-- CHAIN_SETTLE_END (R149, R154): the 2 ms chain settle ends. -/
  | chainSettleEnd
  /-- OSCILLATOR_STARTED (R154). -/
  | oscillatorStarted
  /-- VERIFY_END (R173): VERIFYING ends. -/
  | verifyEnd
  /-- COMMIT_END (R177): the commit reaches its end; `readBack` says whether every part read back as written. -/
  | commitEnd (readBack : Bool)
  /-- NOTICE_ADMITTED (R200): a NOTICE enters the Upstream Queue. -/
  | noticeAdmitted
  /-- TAMPER_IN_DEASSERTED (R182): the debounced TAMPER_IN becomes deasserted. -/
  | tamperInDeasserted
  deriving DecidableEq, Repr

end Sys2Proof
end

