-- ==== Sys2Proof/Decode.lean ====
section
/-! DEFINITION. The opcode table gives no bits for any row: no word spells a command. -/

namespace Sys2Proof

/-- The command that a word spells by the table's bits. No row of spec/opcode_table.json gives bits, so none. The
commands of the Controller Port come as frames, which `Sys2Proof.Machine.parseFrame` and `Sys2Proof.Machine.command` read. -/
def decodeTableWord (_nbits _w : Nat) : Option Instr := none

end Sys2Proof
end

