-- ==== Sys2Proof/Config.lean ====
section
/-! DEFINITION. What one 3120 fixes and the manual does not give: opaque constants, so that nothing can be proved of their values. -/

namespace Sys2Proof.Config

/-- Picks the silicon revision written when the part is made, a number from 1 to 255 (R196). -/
opaque siliconRevisionIndex : Fin 255

/-- The silicon revision that IDENTIFY returns (R196). -/
def siliconRevision : Byte := BitVec.ofNat 8 (siliconRevisionIndex.val + 1)

/-- The Tag Unit's keyed function with its provisioning secret inside, over the bytes of the sealed content (R173). -/
opaque keyedTag : List Byte → Tag

/-- FREE VALUE (log 9). The ratio code, 0 to 4095, that the part takes when an AUX answer carries a code above 4095, which R57 and R58 do not speak of. -/
opaque overrangeRatio : Half → Fin 4096

/-- FREE VALUE (log 18). The page, 0 to 3, that a READ-TABLE reply shows for a table without pages, by the page byte of the command. -/
opaque unpagedPage : Nat → Fin 4

/-- FREE VALUE (log 5). The outcome of the next choice between two orders that the manual allows at one instant. -/
opaque choice : Nat → Bool

end Sys2Proof.Config
end

