-- ==== Sys2Proof/Machine/Tables.lean ====
section
/-! DEFINITION. The eight tables as plain data, each field at its layout's width (10.5), and the blank image. A stage may hold
any value a frame can carry (R167), so the fields are the raw ones; the meanings read them through Machine/Ops.lean. -/

namespace Sys2Proof.Machine

/-- The eight tables, in the order of section 8.1. -/
inductive Table where
  | chainMap | cellMap | limits | floor | thermal | sweep | contactor | watch
  deriving DecidableEq, Repr

/-- CHAIN_MAP header (index 0): response window in 10 µs, lost threshold, classes and holds. -/
structure ChainHeader where
  window : Byte
  lostThreshold : Byte
  classes : Byte
  deriving DecidableEq, Repr

/-- CELL_MAP entry: populated (bit 7) and class (bits 3 to 0), gain trim, offset trim. -/
structure CellEntry where
  flags : Byte
  gain : Half
  offset : Half
  deriving DecidableEq, Repr

/-- LIMITS class record (R51). -/
structure LimitRecord where
  ovTrip : Half
  ovWarn : Half
  uvWarn : Half
  uvTrip : Half
  vHyst : Half
  vPersist : Byte
  otTrip : Half
  otWarn : Half
  utWarn : Half
  utTrip : Half
  tHyst : Byte
  tPersist : Byte
  deriving DecidableEq, Repr

/-- FLOOR class record (R51). -/
structure FloorRecord where
  ovTrip : Half
  uvTrip : Half
  vPersist : Byte
  otTrip : Half
  utTrip : Half
  tPersist : Byte
  deriving DecidableEq, Repr

/-- THERMAL breakpoint (R56). -/
structure Breakpoint where
  code : Half
  temp : Half
  deriving DecidableEq, Repr

/-- SWEEP header (index 0) (R1). `modes`: bit 0 DOUBLE, 1 quiet enable, 2 LOCKED, 3 mirror enable. -/
structure SweepHeader where
  period : Half
  modes : Byte
  quietStart : Half
  quietEnd : Half
  sumTolerance : Half
  slotCount : Byte
  deriving DecidableEq, Repr

/-- SWEEP slot (1 to 16) (section 1.1). -/
structure SweepSlot where
  offset : Half
  kind : Byte
  divider : Byte
  fixedFirst : Byte
  fixedLast : Byte
  rotFirst : Byte
  rotLast : Byte
  rotCount : Byte
  deriving DecidableEq, Repr

/-- A capture program field: count, interval. -/
structure ProgramField where
  count : Byte
  interval : Byte
  deriving DecidableEq, Repr

/-- CONTACTOR record (section 5.2). `silenceLimit` is in 10 ms; `responseMap`: bit 0 LIMIT_PROFILE HARD, bit 1 MONITOR_LOST HARD. -/
structure ContactorRecord where
  preTimeout : Half
  preRatio : Byte
  feedbackTime : Byte
  openDwell : Byte
  breakLimit : Half
  deferLimit : Half
  weldTime : Half
  weldRatio : Byte
  silenceLimit : Byte
  responseMap : Byte
  precharge : ProgramField
  close : ProgramField
  opening : ProgramField
  trip : ProgramField
  deriving DecidableEq, Repr

/-- WATCH record (section 7.3). -/
structure WatchRecord where
  interval : Half
  rangeFirst : Byte
  rangeLast : Byte
  ov : Half
  uv : Half
  ot : Half
  ut : Half
  persistence : Byte
  deriving DecidableEq, Repr

/-- One image: the eight tables and the generation (R159). -/
structure Image where
  chainHeader : ChainHeader
  positions : Vector Byte 24
  cells : Vector CellEntry 480
  limits : Vector LimitRecord 64
  floor : Vector FloorRecord 16
  thermal : Vector Breakpoint 9
  sweepHeader : SweepHeader
  slots : Vector SweepSlot 16
  contactor : ContactorRecord
  watch : WatchRecord
  generation : Word
  deriving DecidableEq, Repr

/-- The blank class record of every profile page (R51). -/
def LimitRecord.blank : LimitRecord where
  ovTrip := 43000
  ovWarn := 42000
  uvWarn := 30000
  uvTrip := 25000
  vHyst := 200
  vPersist := 3
  otTrip := 600
  otWarn := 550
  utWarn := BitVec.ofInt 16 (-200)
  utTrip := BitVec.ofInt 16 (-300)
  tHyst := 20
  tPersist := 3

/-- The blank class record of the floor page (R51). -/
def FloorRecord.blank : FloorRecord where
  ovTrip := 44000
  uvTrip := 22000
  vPersist := 5
  otTrip := 700
  utTrip := BitVec.ofInt 16 (-400)
  tPersist := 5

/-- A sweep slot entry of the blank image. DESIGN CHOICE (log 7): the blank slot count is 0 and the manual does not say what
the sixteen entries above it hold. -/
def SweepSlot.blank : SweepSlot where
  offset := 0
  kind := 0
  divider := 0
  fixedFirst := 0
  fixedLast := 0
  rotFirst := 0
  rotLast := 0
  rotCount := 0

/-- The blank image (R1, R27, R49, R51, R56, R98, R122, R146, R159). -/
def Image.blank : Image where
  chainHeader := { window := 50, lostThreshold := 3, classes := 0x14 }
  positions := Vector.replicate 24 0
  cells := Vector.replicate 480 { flags := 0, gain := 0, offset := 0 }
  limits := Vector.replicate 64 LimitRecord.blank
  floor := Vector.replicate 16 FloorRecord.blank
  thermal := #v[⟨400, 1250⟩, ⟨800, 900⟩, ⟨1200, 650⟩, ⟨1600, 450⟩, ⟨2000, 280⟩, ⟨2400, 120⟩,
    ⟨2800, BitVec.ofInt 16 (-30)⟩, ⟨3200, BitVec.ofInt 16 (-200)⟩, ⟨3600, BitVec.ofInt 16 (-400)⟩]
  sweepHeader :=
    { period := 100, modes := 0, quietStart := 0, quietEnd := 0, sumTolerance := 0, slotCount := 0 }
  slots := Vector.replicate 16 SweepSlot.blank
  contactor :=
    { preTimeout := 500, preRatio := 243, feedbackTime := 50, openDwell := 20, breakLimit := 200,
      deferLimit := 500, weldTime := 200, weldRatio := 26, silenceLimit := 50, responseMap := 3,
      precharge := ⟨0, 1⟩, close := ⟨0, 1⟩, opening := ⟨0, 1⟩, trip := ⟨0, 1⟩ }
  watch :=
    { interval := 0, rangeFirst := 1, rangeLast := 24, ov := 42500, uv := 27000, ot := 600,
      ut := BitVec.ofInt 16 (-300), persistence := 2 }
  generation := 0

end Sys2Proof.Machine
end

