-- ==== Sys2Proof/Machine/State.lean ====
section
/-! DEFINITION. The state of the 3120, block by block as the manual owns it, the reasons a step can stop, and the state after a
POWER-ON reset of a new part. -/

namespace Sys2Proof.Machine

/-- No command of this machine faults: what the part cannot do it answers with a refusal reason, a HOLD_OFF or a trip. -/
inductive Fault where
  deriving DecidableEq, Repr

/-- Reasons for which a command has no meaning in the model. -/
inductive Refusal where
  /-- Safe. Raised by an arm of `exec` whose command has no meaning yet; no arm raises it. -/
  | notModelled (mnemonic : String)
  deriving DecidableEq, Repr

/-! ### Frames -/

/-- A frame but for its length and check, which follow from it (10.1, R207). -/
structure Frame where
  address : Byte
  kind : Byte
  flags : Byte
  payload : List Byte
  deriving DecidableEq, Repr

/-- The exchange in progress (R187). -/
inductive Exchange where
  /-- The Controller Port is powered and sends `out`. -/
  | carrying (out : Frame)
  /-- The port was or became unpowered: every byte reads as all ones and the incoming frame is not received (R145). -/
  | dark
  deriving DecidableEq, Repr

/-! ### Stamps, trips and protection -/

/-- A stamp (R59, R68, R80). -/
inductive Stamp where
  | absent
  | sweep (number : Word)
  | watch (count : Half)
  | capture (id : Half) (step : Nat)
  deriving DecidableEq, Repr

/-- The protection states, in rising severity (R78). -/
inductive Protection where
  | normal | alert | safeOpen
  deriving DecidableEq, Repr

/-- The eight trip causes (R80). -/
inductive TripCause where
  | limitFloor | limitProfile | monitorLost | contactorFeedback | weld | controllerSilence
  | prechargeTimeout | watchLimit
  deriving DecidableEq, Repr

/-- A response (R81). -/
inductive Response where
  | soft | hard
  deriving DecidableEq, Repr

/-- The power states with their phases (R139): `drain` and `chainSleep` are the phases of ENTERING_SLEEP, `wakingDark` is
WAKING until the oscillator has started and `wakingLit` WAKING from then on. -/
inductive Power where
  | active | drain | chainSleep | deepSleep | wakingDark | wakingLit
  deriving DecidableEq, Repr

/-- A trip as it is handed to the Protection Unit (R80). -/
structure Trip where
  cause : TripCause
  position : Option Nat
  channel : Option Nat
  value : Option Int
  stamp : Stamp
  generation : Word
  profile : Fin 4
  deriving DecidableEq, Repr

/-- The trip record when it is not empty (R85). -/
structure TripRecord where
  first : Trip
  power : Power
  firstResponse : Response
  laterCount : Nat
  latestCause : Option TripCause
  level : Response
  resetSince : Bool
  deriving DecidableEq, Repr

/-- The Protection Unit's state (R78, R85). -/
structure ProtectionUnit where
  state : Protection
  record : Option TripRecord
  deriving DecidableEq, Repr

/-! ### Sample Evaluator -/

/-- The status of a channel record; the pack sense record uses all but FAULT (R60, R68). -/
inductive Status where
  | none | fresh | held | stale | fault
  deriving DecidableEq, Repr

/-- The warn state (R63). -/
inductive Warn where
  | clear | high | low
  deriving DecidableEq, Repr

/-- A channel record (R59). -/
structure Channel where
  value : Int
  raw : Half
  stamp : Stamp
  status : Status
  clamped : Bool
  warn : Warn
  counter : Nat
  tripped : Bool
  deriving DecidableEq, Repr

/-- The empty record (R50). -/
def Channel.empty : Channel where
  value := 0
  raw := 0
  stamp := .absent
  status := .none
  clamped := false
  warn := .clear
  counter := 0
  tripped := false

/-- The pack sense record (R68). -/
structure PackSense where
  vPack : Half
  vLink : Half
  iPack : Half
  trigger : Byte
  fromCapture : Bool
  stamp : Stamp
  status : Status
  deriving DecidableEq, Repr

/-- The Sample Evaluator's state (R53, R59, R68, R69). -/
structure Evaluator where
  channels : Vector Channel 480
  pack : PackSense
  profile : Fin 4
  pendingProfile : Option (Fin 4)
  /-- V_PACK of the last matched SENSE answer of the current sweep (R69). -/
  matchedVPack : Option Half
  deriving DecidableEq, Repr

/-! ### Sweep Engine -/

/-- The engine states (R3). -/
inductive Engine where
  | stopped | running | stopping | waitingSync
  deriving DecidableEq, Repr

/-- The flags of a sweep record (R23). -/
structure SweepFlags where
  overrun : Bool
  convertHeld : Bool
  deferred : Bool
  mirrorGap : Bool
  disturbed : Bool
  syncLost : Bool
  sumChecked : Bool
  sumMismatch : Bool
  deriving DecidableEq, Repr

/-- All flags clear. -/
def SweepFlags.none : SweepFlags := ⟨false, false, false, false, false, false, false, false⟩

/-- A sweep record (R23). -/
structure SweepRecord where
  number : Word
  generation : Word
  profile : Fin 4
  flags : SweepFlags
  deriving DecidableEq, Repr

/-- The kinds of a sweep read (R17). -/
inductive ReadKind where
  | cells | aux | sense
  deriving DecidableEq, Repr

/-- An entry of the read list (R17). -/
structure ReadEntry where
  position : Nat
  kind : ReadKind
  deriving DecidableEq, Repr

/-- An entry of the trigger list: the slot it came from, 0 to 15, and whether it is held (R11, R12). -/
structure TriggerEntry where
  slot : Nat
  held : Bool
  deriving DecidableEq, Repr

/-- How far the quiet window of the sweep has come: before QS was taken, between, and after QE + 1 was taken (R13). -/
inductive QuietPhase where
  | before | inside | after
  deriving DecidableEq, Repr

/-- The Sweep Engine's state (R2, R3, R11, R16, R17, R23, R24). -/
structure SweepEngine where
  engine : Engine
  number : Word
  counter : Nat
  waitCount : Nat
  rotation : Vector Nat 16
  reads : List ReadEntry
  triggers : List TriggerEntry
  /-- The slots, 0 to 15, deferred to QE + 1, in table order (R13). -/
  deferredSlots : List Nat
  /-- MODEL (log 32): how many slots of the table the sweep has passed. -/
  slotsPassed : Nat
  /-- MODEL (log 32). -/
  quiet : QuietPhase
  record : Option SweepRecord
  last : Option SweepRecord
  /-- The reading of the timebase, in whole ticks (R2, log 14). -/
  ticks : Nat
  /-- The length of the tick in progress, in 10 µs: a change of tick mode lets it complete at this length (R2). -/
  tickSpan : Nat
  /-- Time to the end of the tick in progress, in 10 µs (R2). -/
  tickLeft : Nat
  deriving DecidableEq, Repr

/-! ### Chain Port and Chain Arbiter -/

/-- The requesters (R43). -/
inductive Requester where
  | forward | sweep | capture | watch | enumerate
  deriving DecidableEq, Repr

/-- The chain states (R39). -/
inductive ChainState where
  | unnumbered | numbering | numbered | mismatch
  deriving DecidableEq, Repr

/-- The record of the transaction in flight (R28). -/
structure Transaction where
  requester : Requester
  frame : Frame
  /-- The position addressed, or none for a broadcast. -/
  target : Option Nat
  /-- The answer kind expected; none accepts any chain-side kind (R29, R31). -/
  expect : Option Byte
  /-- The response window in force, in 10 µs (R27). -/
  window : Byte
  /-- The outcome will be discarded: a sweep read whose sweep has ended (R19), or a forwarded frame after the drain timer's expiry (R142). -/
  discard : Bool
  /-- The capture context that requested it (R128). -/
  context : Option Half
  deriving DecidableEq, Repr

/-- The enumeration record (R42), with the FAULTY mark kept (log 20). -/
structure EnumRecord where
  count : Nat
  kinds : List Byte
  faulty : Bool
  deriving DecidableEq, Repr

/-- The Chain Port's state (R28, R34, R35, R39, R40). -/
structure ChainPort where
  inFlight : Option Transaction
  linkPowered : Bool
  state : ChainState
  enumRecord : EnumRecord
  /-- The address counter k of the enumeration in progress, 0 before the release frame is sent (R40). -/
  enumNext : Nat
  /-- The kinds reported so far, position 1 first (R41). -/
  enumKinds : List Byte
  misses : Vector Nat 24
  lost : Vector Bool 24
  deriving DecidableEq, Repr

/-- The Chain Arbiter's state (R45, R46). -/
structure Arbiter where
  maskForward : Bool
  maskSweep : Bool
  lastGranted : Option Requester
  highPointer : Option Requester
  lowPointer : Option Requester
  highCount : Nat
  lowTurnDue : Bool
  deriving DecidableEq, Repr

/-! ### Contactor Sequencer -/

/-- The contactor states (R99). -/
inductive ContactorState where
  | opened | precharging | closing | closed | opening | weldCheck | faulted
  deriving DecidableEq, Repr

/-- Results of a close sequence (R100). -/
inductive CloseResult where
  | closed | withdrawn | cancelled | interrupted | timedOut | forced
  deriving DecidableEq, Repr

/-- Causes of an open sequence (R100). -/
inductive OpenCause where
  | request | interrupt | timeout | trip
  deriving DecidableEq, Repr

/-- Results of an open sequence (R100). -/
inductive OpenResult where
  | opened | welded | feedbackFault
  deriving DecidableEq, Repr

/-- The last close record (R100). -/
structure CloseRecord where
  result : CloseResult
  prechargeMs : Option Nat
  sweep : Word
  deriving DecidableEq, Repr

/-- An open sequence in progress (R100). -/
structure OpenSequence where
  cause : OpenCause
  underLoad : Bool
  deferMs : Option Nat
  deriving DecidableEq, Repr

/-- The last open record (R100). -/
structure OpenRecord where
  sequence : OpenSequence
  result : OpenResult
  sweep : Word
  deriving DecidableEq, Repr

/-- One Bool for each contactor: a drive (set when driven closed) or a feedback reading (set when it reads closed). -/
structure Triple where
  pos : Bool
  neg : Bool
  pre : Bool
  deriving DecidableEq, Repr

/-- The Contactor Sequencer's state (R96 to R100, R103, R104, R108, R113). A timer is the instant of `now` at which it expires. -/
structure Sequencer where
  state : ContactorState
  drive : Triple
  feedback : Triple
  closePending : Bool
  openPending : Bool
  prechargeTimer : Option Nat
  silenceTimer : Option Nat
  /-- Runs during a deferral (R108). -/
  deferTimer : Option Nat
  dwellTimer : Option Nat
  weldTimer : Option Nat
  disagreePos : Option Nat
  disagreeNeg : Option Nat
  disagreePre : Option Nat
  /-- The instant of the entry to PRECHARGING (R103). -/
  prechargeStart : Nat
  /-- The precharge time kept on entry to CLOSING, in ms (R104). -/
  prechargeMs : Option Nat
  /-- The instant at which the deferral began (R108). -/
  deferStart : Nat
  /-- The count of consecutive qualifying records (R104). -/
  qualifying : Nat
  /-- The open sequence in progress (R100). -/
  openSequence : Option OpenSequence
  lastClose : Option CloseRecord
  lastOpen : Option OpenRecord
  deriving DecidableEq, Repr

/-! ### Capture Unit -/

/-- The capture programs (section 6.1). -/
inductive Program where
  | precharge | close | opening | trip
  deriving DecidableEq, Repr

/-- The step state of a context (R125). -/
inductive StepState where
  | none | due | inFlight
  deriving DecidableEq, Repr

/-- A capture context (R125). -/
structure Context where
  program : Program
  id : Half
  count : Nat
  interval : Nat
  nextStep : Nat
  ticksRemaining : Nat
  step : StepState
  waiting : Bool
  started : Nat
  late : Bool
  underLoad : Bool
  ended : Bool
  /-- The number of the step in flight and the offset taken at its grant (R127, R128). -/
  flightStep : Nat
  flightOffset : Nat
  /-- A pop has uncovered the ended context while a step of it was in flight: it leaves when that step ends (R133). -/
  leaving : Bool
  deriving DecidableEq, Repr

/-- A capture record (R134). -/
structure CaptureRecord where
  id : Half
  program : Program
  step : Nat
  offset : Nat
  vPack : Half
  vLink : Half
  iPack : Half
  late : Bool
  missed : Bool
  underLoad : Bool
  deriving DecidableEq, Repr

/-- The pending-capture set: for each program, absent or present with its under-load mark (R131). -/
structure PendingSet where
  precharge : Option Bool
  close : Option Bool
  opening : Option Bool
  trip : Option Bool
  deriving DecidableEq, Repr

/-- The Capture Unit's state (R123 to R125, R131, R135). The top of the stack is the head of the list. -/
structure CaptureUnit where
  stack : List Context
  pendingSet : PendingSet
  nextId : Half
  /-- Oldest record first. -/
  buffer : List CaptureRecord
  deriving DecidableEq, Repr

/-! ### Power Manager -/

/-- The wake sources (R152). -/
inductive WakeSource where
  | link | wakeIn | tamper | watchLimit | watchLost
  deriving DecidableEq, Repr

/-- The frames the WATCH requester sends (R143, R149, R154, R157). -/
inductive WatchFrame where
  | chainWake | trigger | readCells (position : Nat) | readAux (position : Nat) | chainSleep
  deriving DecidableEq, Repr

/-- The wake record (R153). -/
structure WakeRecord where
  first : Option WakeSource
  cycles : Half
  seconds : Word
  deriving DecidableEq, Repr

/-- The Power Manager's state (R139, R141, R148 to R153). A timer is the instant of `now` at which it expires. -/
structure PowerManager where
  power : Power
  drainTimer : Option Nat
  watchTimer : Option Nat
  /-- The 2 ms chain settle (R149, R154). -/
  settleTimer : Option Nat
  /-- The frames WATCH has still to send, first one first. -/
  frames : List WatchFrame
  /-- A watch cycle is in progress (R149). -/
  cycle : Bool
  /-- The READ_CELLS of the position being read ended ANSWERED (R151). -/
  cellsAnswered : Bool
  watchCount : Half
  persistence : Vector Nat 480
  noAnswer : Vector Nat 24
  /-- A wake source is kept and begins WAKING later (R152). -/
  wakeKept : Bool
  record : WakeRecord
  /-- The instant of the entry to DEEP_SLEEP (R144). -/
  sleepStart : Nat
  deriving DecidableEq, Repr

/-! ### Update Engine and Table Store -/

/-- The update states (R163). -/
inductive UpdateState where
  | idle | staging | verifying | sealed | committing | armed | locked
  deriving DecidableEq, Repr

/-- The last result of an update (R165). -/
inductive UpdateResult where
  | none | sealed | rejectedStructure | rejectedTag | commitFailed | activated | aborted
  | abortedTamper
  deriving DecidableEq, Repr

/-- The non-volatile slots (R161). -/
inductive SlotId where
  | a | b
  deriving DecidableEq, Repr

/-- The stage and the table set of the update (R165). Its generation is the staged generation. -/
structure Stage where
  image : Image
  set : Byte
  deriving DecidableEq, Repr

/-- A window of UPDATE-WINDOW with the cursor in it; the two are set and cleared together (R165, R166). -/
structure Window where
  table : Table
  first : Nat
  last : Nat
  /-- The entry the next written entry goes to; `last + 1` when the window is full (R167). -/
  cursor : Nat
  deriving DecidableEq, Repr

/-- An open write (R169). -/
structure OpenWrite where
  merge : Bool
  select : Half
  deriving DecidableEq, Repr

/-- The Update Engine's state (R163, R165, R170, R174, R181, R183). -/
structure UpdateEngine where
  state : UpdateState
  stage : Option Stage
  window : Option Window
  openWrite : Option OpenWrite
  tag : Option Tag
  target : Option SlotId
  /-- The image being committed, composed when the commit begins (R177). -/
  commit : Option Image
  /-- The tamper latch became set since the commit began (R177). -/
  commitTampered : Bool
  lastResult : UpdateResult
  rejected : Option (Table × Nat)
  mismatches : Nat
  tamperLatch : Bool
  floorLock : Bool
  /-- The debounced reading of TAMPER_IN: asserted (R181). -/
  tamperReading : Bool
  deriving DecidableEq, Repr

/-- The Table Store's state (R159, R161). A slot without its valid mark is `none` (log 23). -/
structure TableStore where
  live : Image
  liveSlot : Option SlotId
  slotA : Option Image
  slotB : Option Image
  deriving DecidableEq, Repr

/-! ### Controller Port, Frame Router, Notice Unit -/

/-- The Controller Port's and the Frame Router's state (R187, R190, R191, R193). -/
structure Link where
  exchange : Option Exchange
  answerSlot : Option Frame
  forward : List Frame
  upstream : List Frame
  reserved : Nat
  deriving DecidableEq, Repr

/-- The Notice Unit's state (R198 to R200). Sets are event sets (10.2); a set bit of `map` maps its source to URGENT. -/
structure NoticeUnit where
  pending : Half
  enable : Half
  map : Half
  owedUrgent : Bool
  owedRoutine : Bool
  deriving DecidableEq, Repr

/-! ### The whole state -/

/-- The state of the 3120. -/
structure State where
  /-- The commands that wait, first in, first out. -/
  pending : List Instr
  /-- MODEL (log 5): which free choice comes next. -/
  choices : Nat
  /-- MODEL (log 1): the part's own timebase, in 10 µs. -/
  now : Nat
  tables : TableStore
  update : UpdateEngine
  sweep : SweepEngine
  chain : ChainPort
  arbiter : Arbiter
  evaluator : Evaluator
  protection : ProtectionUnit
  sequencer : Sequencer
  capture : CaptureUnit
  power : PowerManager
  link : Link
  notice : NoticeUnit
  deriving DecidableEq, Repr

/-- Every field at the value a POWER-ON reset of a new part gives it (R25, R47, R76, R93, R120, R137, R157, R185, R205), with the
CHAIN_WAKE broadcast of R157 still to be granted. -/
def State.unstarted : State where
  pending := []
  choices := 0
  now := 0
  tables := { live := Image.blank, liveSlot := none, slotA := none, slotB := none }
  update :=
    { state := .idle, stage := none, window := none, openWrite := none, tag := none,
      target := none, commit := none, commitTampered := false, lastResult := .none,
      rejected := none, mismatches := 0, tamperLatch := false, floorLock := false,
      tamperReading := false }
  sweep :=
    { engine := .stopped, number := 0, counter := 0, waitCount := 0,
      rotation := Vector.replicate 16 0, reads := [], triggers := [], deferredSlots := [],
      slotsPassed := 0, quiet := .before, record := none, last := none, ticks := 0,
      tickSpan := 10, tickLeft := 10 }
  chain :=
    { inFlight := none, linkPowered := true, state := .unnumbered,
      enumRecord := { count := 0, kinds := [], faulty := false }, enumNext := 0, enumKinds := [],
      misses := Vector.replicate 24 0, lost := Vector.replicate 24 false }
  arbiter :=
    { maskForward := false, maskSweep := false, lastGranted := none, highPointer := none,
      lowPointer := none, highCount := 0, lowTurnDue := false }
  evaluator :=
    { channels := Vector.replicate 480 Channel.empty
      pack :=
        { vPack := 0, vLink := 0, iPack := 0, trigger := 0, fromCapture := false,
          stamp := .absent, status := .none }
      profile := 0, pendingProfile := none, matchedVPack := none }
  protection := { state := .normal, record := none }
  sequencer :=
    { state := .opened, drive := ⟨false, false, false⟩, feedback := ⟨false, false, false⟩,
      closePending := false, openPending := false, prechargeTimer := none, silenceTimer := none,
      deferTimer := none, dwellTimer := none, weldTimer := none, disagreePos := none,
      disagreeNeg := none, disagreePre := none, prechargeStart := 0, prechargeMs := none,
      deferStart := 0, qualifying := 0, openSequence := none, lastClose := none,
      lastOpen := none }
  capture :=
    { stack := [], pendingSet := { precharge := none, close := none, opening := none, trip := none },
      nextId := 0, buffer := [] }
  power :=
    { power := .active, drainTimer := none, watchTimer := none, settleTimer := none,
      frames := [.chainWake], cycle := false, cellsAnswered := false, watchCount := 0,
      persistence := Vector.replicate 480 0, noAnswer := Vector.replicate 24 0,
      wakeKept := false, record := { first := none, cycles := 0, seconds := 0 },
      sleepStart := 0 }
  link := { exchange := none, answerSlot := none, forward := [], upstream := [], reserved := 0 }
  notice :=
    { pending := 0, enable := 0x7FFF, map := 0x003F, owedUrgent := false, owedRoutine := false }

/-- The machine right after a POWER-ON reset of a new part (log 6): the values of `State.unstarted`, with the reset's first
transaction, the CHAIN_WAKE broadcast of R157, granted to WATCH, which is LOW in the blank Chain Map (R45). -/
def State.reset : State :=
  { State.unstarted with
    chain.inFlight := some
      { requester := .watch, frame := { address := 31, kind := 0x0E, flags := 3, payload := [] },
        target := none, expect := none, window := 50, discard := false, context := none }
    arbiter.lastGranted := some .watch
    arbiter.lowPointer := some .watch
    power.frames := [] }

end Sys2Proof.Machine
end

