-- ==== Sys2Proof/Machine/Ops.lean ====
section
/-! DEFINITION. Shared operations: tables of fixed length, bytes, time, what the live image says, and free choices. -/

namespace Sys2Proof.Machine

/-! ### Tables of fixed length -/

/-- The entry at index `i`, or `d` outside the table. -/
def look {α : Type} {n : Nat} (v : Vector α n) (d : α) (i : Nat) : α := v[i]?.getD d

/-- The table with the entry at index `i` replaced; unchanged when `i` lies outside it. -/
def put {α : Type} {n : Nat} (v : Vector α n) (i : Nat) (x : α) : Vector α n := v.setIfInBounds i x

/-- Every entry replaced by `f index entry`. -/
def remap {α β : Type} {n : Nat} (f : Nat → α → β) (v : Vector α n) : Vector β n := v.mapIdx f

/-! ### Bytes -/

/-- The two bytes of a field, most significant first (Chapter 10). -/
def halfBytes (x : Half) : List Byte := [x.extractLsb' 8 8, x.extractLsb' 0 8]

/-- The four bytes of a field, most significant first (Chapter 10). -/
def wordBytes (x : Word) : List Byte :=
  [x.extractLsb' 24 8, x.extractLsb' 16 8, x.extractLsb' 8 8, x.extractLsb' 0 8]

/-- A byte of value `n`. -/
def byteOf (n : Nat) : Byte := BitVec.ofNat 8 n

/-- A two-byte field of value `n`. -/
def halfOf (n : Nat) : Half := BitVec.ofNat 16 n

/-- 1 when set, 0 when clear, at bit `i` of a byte. -/
def bitAt (b : Bool) (i : Nat) : Byte := if b then byteOf (2 ^ i) else 0

/-- The number that bytes make, most significant first. -/
def beNat (bytes : List Byte) : Nat := bytes.foldl (fun n b => n * 256 + b.toNat) 0

/-- The byte at index `i`, when there is one. -/
def byteAt? (bytes : List Byte) (i : Nat) : Option Byte := bytes[i]?

/-- The two-byte field at index `i`, when both bytes are there. -/
def halfAt? (bytes : List Byte) (i : Nat) : Option Half :=
  match bytes[i]?, bytes[i + 1]? with
  | some h, some l => some (h ++ l)
  | _, _ => none

/-- The four-byte field at index `i`, when its bytes are there. -/
def wordAt? (bytes : List Byte) (i : Nat) : Option Word :=
  match halfAt? bytes i, halfAt? bytes (i + 2) with
  | some h, some l => some (h ++ l)
  | _, _ => none

/-- The two-byte field at index `i` of an answer's payload, 0 for bytes not there. -/
def halfAt (bytes : List Byte) (i : Nat) : Half := bytes.getD i 0 ++ bytes.getD (i + 1) 0

/-! ### Time: `now` counts 10 µs (00, Time; log 1) -/

/-- Milliseconds in units of `now`. -/
def ms (n : Nat) : Nat := n * 100

/-- Seconds in units of `now`. -/
def seconds (n : Nat) : Nat := n * 100000

/-- The instant at which a timer started now with `d` units expires. -/
def after (s : State) (d : Nat) : Option Nat := some (s.now + d)

/-- A timer has reached its expiry. -/
def expired (s : State) (timer : Option Nat) : Bool :=
  match timer with
  | some t => t ≤ s.now
  | none => false

/-! ### The power state (R139) -/

/-- The Controller Port is powered: ACTIVE, the drain phase, and WAKING once the oscillator has started (R139, R187). -/
def portPowered (s : State) : Bool :=
  match s.power.power with
  | .active | .drain | .wakingLit => true
  | .chainSleep | .deepSleep | .wakingDark => false

/-- ENTERING_SLEEP, in either phase. -/
def enteringSleep (s : State) : Bool :=
  match s.power.power with
  | .drain | .chainSleep => true
  | .active | .deepSleep | .wakingDark | .wakingLit => false

/-- WAKING, before or after the oscillator has started. -/
def waking (s : State) : Bool :=
  match s.power.power with
  | .wakingDark | .wakingLit => true
  | .active | .drain | .chainSleep | .deepSleep => false

/-! ### What the live image says -/

/-- The live image (R159). -/
def live (s : State) : Image := s.tables.live

/-- The kind byte of a position, ABSENT outside 1 to 24 (section 2.1). -/
def positionKind (img : Image) (p : Nat) : Byte :=
  if p = 0 then 0 else look img.positions 0 (p - 1)

/-- The position's kind is CELL_MONITOR (10.2). -/
def isMonitor (img : Image) (p : Nat) : Bool := positionKind img p == 1

/-- The positions 1 to 24. -/
def allPositions : List Nat := List.range' 1 24

/-- The position whose kind is PACK_SENSE, when there is one (R14). -/
def packPosition (img : Image) : Option Nat := allPositions.find? fun p => positionKind img p == 2

/-- The channel index of a channel of a position (00, Channel index). -/
def channelIndex (p c : Nat) : Nat := (p - 1) * 20 + c

/-- The channel number that an index names. -/
def channelOf (i : Nat) : Nat := i % 20

/-- The position that an index names. -/
def positionOf (i : Nat) : Nat := i / 20 + 1

/-- A channel number of an auxiliary input (00, Channels). -/
def isAux (c : Nat) : Bool := decide (16 ≤ c)

/-- The CELL_MAP entry of a channel index. -/
def cellEntry (img : Image) (i : Nat) : CellEntry := look img.cells { flags := 0, gain := 0, offset := 0 } i

/-- The entry is populated (10.5). -/
def populated (e : CellEntry) : Bool := e.flags.getLsbD 7

/-- The limit class of the entry (10.5). -/
def classOf (e : CellEntry) : Nat := (e.flags &&& 0x0F).toNat

/-- A channel is evaluated: populated, at a CELL_MONITOR position (R49). -/
def evaluated (img : Image) (i : Nat) : Bool :=
  decide (i < 480) && populated (cellEntry img i) && isMonitor img (positionOf i)

/-- The class record of a profile page (section 8.1). -/
def limitRecord (img : Image) (profile cls : Nat) : LimitRecord :=
  look img.limits LimitRecord.blank (profile * 16 + cls)

/-- The class record of the floor page. -/
def floorRecord (img : Image) (cls : Nat) : FloorRecord := look img.floor FloorRecord.blank cls

/-- The tick of the live header in units of `now`: 100 µs, or 200 µs in DOUBLE (R2). -/
def tickLength (img : Image) : Nat := if img.sweepHeader.modes.getLsbD 0 then 20 else 10

/-- A tick of the live tick mode begins (R2). -/
def beginTick (s : State) : State :=
  { s with sweep.tickSpan := tickLength (live s), sweep.tickLeft := tickLength (live s) }

/-- A new image is live: a tick that begins at this instant, none of which has run, takes the new length, and one already begun
completes at its old length (R2, log 14). -/
def retick (s : State) : State := if s.sweep.tickLeft = s.sweep.tickSpan then beginTick s else s

/-- Quiet enable (section 1.1). -/
def quietEnabled (img : Image) : Bool := img.sweepHeader.modes.getLsbD 1

/-- Sync mode LOCKED (section 1.1). -/
def lockedMode (img : Image) : Bool := img.sweepHeader.modes.getLsbD 2

/-- Mirror enable (section 1.1). -/
def mirrorEnabled (img : Image) : Bool := img.sweepHeader.modes.getLsbD 3

/-- The slot count of the header (R1). -/
def slotCount (img : Image) : Nat := img.sweepHeader.slotCount.toNat

/-- The slot at index `i`, 0 to 15 (slots 1 to 16 of the manual). -/
def sweepSlot (img : Image) (i : Nat) : SweepSlot := look img.slots SweepSlot.blank i

/-- The table's bit in a table set (10.2). -/
def Table.code : Table → Nat
  | .chainMap => 0
  | .cellMap => 1
  | .limits => 2
  | .floor => 3
  | .thermal => 4
  | .sweep => 5
  | .contactor => 6
  | .watch => 7

/-- The eight tables in the order of section 8.1. -/
def allTables : List Table := [.chainMap, .cellMap, .limits, .floor, .thermal, .sweep, .contactor, .watch]

/-- The table set holds the table (10.2). -/
def holds (set : Byte) (t : Table) : Bool := set.getLsbD t.code

/-- The table set touches the safety set CHAIN_MAP, CELL_MAP, LIMITS, FLOOR, CONTACTOR (section 8.1). -/
def touchesSafety (set : Byte) : Bool := set &&& 0x4F != 0

/-- An activation touching the safety set is COMMITTING or ARMED (R101, R103). -/
def safetyActivation (s : State) : Bool :=
  match s.update.state, s.update.stage with
  | .committing, some g => touchesSafety g.set
  | .armed, some g => touchesSafety g.set
  | _, _ => false

/-- The position is LOST (R36). -/
def isLost (s : State) (p : Nat) : Bool := if p = 0 then false else look s.chain.lost false (p - 1)

/-- The live Chain Map has a PACK_SENSE position and it is not LOST (R101, R103). -/
def packSenseUsable (s : State) : Bool :=
  match packPosition (live s) with
  | some p => !isLost s p
  | none => false

/-- A sweep is in progress: RUNNING or STOPPING (R3). -/
def sweeping (s : State) : Bool :=
  match s.sweep.engine with
  | .running | .stopping => true
  | .stopped | .waitingSync => false

/-! ### Free choices (log 5) -/

/-- Spend one free choice: the next value of the opaque `Config.choice`. -/
def takeChoice (s : State) : Bool × State := (Config.choice s.choices, { s with choices := s.choices + 1 })

end Sys2Proof.Machine
end

