-- ==== Sys2Proof/Machine/Flags.lean ====
section
/-! DEFINITION. Codes and flags of Chapter 10: state codes, the status byte, stamps, sweep flags, event sets; and the Notice
Unit's rule for raising an event (section 9.6). -/

namespace Sys2Proof.Machine

/-! ### Codes (10.2) -/

/-- The power state code. -/
def Power.code : Power → Byte
  | .active => 0
  | .drain | .chainSleep => 1
  | .deepSleep => 2
  | .wakingDark | .wakingLit => 3

/-- The protection state code. -/
def Protection.code : Protection → Byte
  | .normal => 0
  | .alert => 1
  | .safeOpen => 2

/-- The contactor state code. -/
def ContactorState.code : ContactorState → Byte
  | .opened => 0
  | .precharging => 1
  | .closing => 2
  | .closed => 3
  | .opening => 4
  | .weldCheck => 5
  | .faulted => 6

/-- The Sweep Engine state code. -/
def Engine.code : Engine → Byte
  | .stopped => 0
  | .running => 1
  | .stopping => 2
  | .waitingSync => 3

/-- The chain state code. -/
def ChainState.code : ChainState → Byte
  | .unnumbered => 0
  | .numbering => 1
  | .numbered => 2
  | .mismatch => 3

/-- The update state code. -/
def UpdateState.code : UpdateState → Byte
  | .idle => 0
  | .staging => 1
  | .verifying => 2
  | .sealed => 3
  | .committing => 4
  | .armed => 5
  | .locked => 6

/-- The last result code. -/
def UpdateResult.code : UpdateResult → Byte
  | .none => 0
  | .sealed => 1
  | .rejectedStructure => 2
  | .rejectedTag => 3
  | .commitFailed => 4
  | .activated => 5
  | .aborted => 6
  | .abortedTamper => 7

/-- The trip cause code. -/
def TripCause.code : TripCause → Byte
  | .limitFloor => 1
  | .limitProfile => 2
  | .monitorLost => 3
  | .contactorFeedback => 4
  | .weld => 5
  | .controllerSilence => 6
  | .prechargeTimeout => 7
  | .watchLimit => 8

/-- The wake source code. -/
def WakeSource.code : WakeSource → Byte
  | .link => 1
  | .wakeIn => 2
  | .tamper => 3
  | .watchLimit => 4
  | .watchLost => 5

/-- The close result code. -/
def CloseResult.code : CloseResult → Byte
  | .closed => 1
  | .withdrawn => 2
  | .cancelled => 3
  | .interrupted => 4
  | .timedOut => 5
  | .forced => 6

/-- The open cause code. -/
def OpenCause.code : OpenCause → Byte
  | .request => 1
  | .interrupt => 2
  | .timeout => 3
  | .trip => 4

/-- The open result code. -/
def OpenResult.code : OpenResult → Byte
  | .opened => 1
  | .welded => 2
  | .feedbackFault => 3

/-- The capture program code. -/
def Program.code : Program → Byte
  | .precharge => 0
  | .close => 1
  | .opening => 2
  | .trip => 3

/-- The read kind code. -/
def ReadKind.code : ReadKind → Byte
  | .cells => 0
  | .aux => 1
  | .sense => 2

/-- The channel status code. -/
def Status.code : Status → Byte
  | .none => 0
  | .fresh => 1
  | .held => 2
  | .stale => 3
  | .fault => 4

/-- The warn state code. -/
def Warn.code : Warn → Byte
  | .clear => 0
  | .high => 1
  | .low => 2

/-- The live slot code: none 0, A 1, B 2 (10.3). -/
def liveSlotCode : Option SlotId → Byte
  | none => 0
  | some .a => 1
  | some .b => 2

/-- The table that a code names (10.2). -/
def tableOfCode (b : Byte) : Option Table := allTables[b.toNat]?

/-- The status byte of a channel: status in bits 2 to 0, CLAMPED bit 3, warn state bits 5 and 4, tripped bit 6 (10.2). -/
def statusByte (c : Channel) : Byte :=
  c.status.code ||| bitAt c.clamped 3 ||| (c.warn.code <<< 4) ||| bitAt c.tripped 6

/-- The five bytes of a stamp (10.2). -/
def Stamp.bytes : Stamp → List Byte
  | .absent => [0, 0, 0, 0, 0]
  | .sweep n => 1 :: wordBytes n
  | .watch n => [2, 0, 0] ++ halfBytes n
  | .capture id step => [3] ++ halfBytes id ++ [byteOf step, 0]

/-- The byte of a sweep record's flags (10.2). -/
def SweepFlags.byte (f : SweepFlags) : Byte :=
  bitAt f.overrun 0 ||| bitAt f.convertHeld 1 ||| bitAt f.deferred 2 ||| bitAt f.mirrorGap 3 |||
    bitAt f.disturbed 4 ||| bitAt f.syncLost 5 ||| bitAt f.sumChecked 6 ||| bitAt f.sumMismatch 7

/-- A byte with a bit for each contactor: POS bit 0, NEG bit 1, PRE bit 2 (10.3). -/
def Triple.byte (t : Triple) : Byte := bitAt t.pos 0 ||| bitAt t.neg 1 ||| bitAt t.pre 2

/-- At least one is set. -/
def Triple.any (t : Triple) : Bool := t.pos || t.neg || t.pre

/-- The one of a contactor. -/
def Triple.get (t : Triple) : Contactor → Bool
  | .pos => t.pos
  | .neg => t.neg
  | .pre => t.pre

/-- The one of a contactor replaced. -/
def Triple.set (t : Triple) (c : Contactor) (b : Bool) : Triple :=
  match c with
  | .pos => { t with pos := b }
  | .neg => { t with neg := b }
  | .pre => { t with pre := b }

/-- The byte of a pending-capture set: bit p for program p (10.2). -/
def PendingSet.byte (p : PendingSet) : Byte :=
  bitAt p.precharge.isSome 0 ||| bitAt p.close.isSome 1 ||| bitAt p.opening.isSome 2 |||
    bitAt p.trip.isSome 3

/-! ### Sweep record flags (R23) -/

/-- Set flags of the current sweep record; nothing when no sweep is in progress (R23). -/
def markSweep (f : SweepFlags → SweepFlags) (s : State) : State :=
  { s with sweep.record := s.sweep.record.map fun r => { r with flags := f r.flags } }

/-! ### Events (section 9.6) -/

/-- The fifteen event sources (R198). -/
inductive Event where
  | limitTrip | monitorLost | contactorFault | controllerSilence | tamper | wake | limitWarn
  | sumMismatch | sweepOverrun | syncLost | contactorDone | captureDone | captureLate
  | chainResult | updateResult
  deriving DecidableEq, Repr

/-- The source's bit in an event set (10.2). -/
def Event.index : Event → Nat
  | .limitTrip => 0
  | .monitorLost => 1
  | .contactorFault => 2
  | .controllerSilence => 3
  | .tamper => 4
  | .wake => 5
  | .limitWarn => 6
  | .sumMismatch => 7
  | .sweepOverrun => 8
  | .syncLost => 9
  | .contactorDone => 10
  | .captureDone => 11
  | .captureLate => 12
  | .chainResult => 13
  | .updateResult => 14

/-- The event set of one source. -/
def Event.bit (e : Event) : Half := BitVec.twoPow 16 e.index

/-- The request set of a channel: pending, enabled and mapped to it (R199). -/
def requestSet (n : NoticeUnit) (urgent : Bool) : Half :=
  n.pending &&& n.enable &&& (if urgent then n.map else ~~~n.map)

/-- ALERT_OUT is asserted while the request set of URGENT is not empty (R199). -/
def alertOut (s : State) : Bool := requestSet s.notice true != 0

/-- The notice-owed mark after a request set went from `before` to `now` (R200). -/
def owedAfter (owed : Bool) (before now : Half) : Bool :=
  if now = 0 then false else if before = 0 then true else owed

/-- Replace pending flags, enable set and channel map, with the notice-owed marks following (R199, R200). -/
def reformNotice (old : NoticeUnit) (pending enable map : Half) : NoticeUnit :=
  let new := { old with pending := pending, enable := enable, map := map }
  { new with
    owedUrgent := owedAfter old.owedUrgent (requestSet old true) (requestSet new true)
    owedRoutine := owedAfter old.owedRoutine (requestSet old false) (requestSet new false) }

/-- Raise an event: its pending flag is set (R198). -/
def raise (e : Event) (s : State) : State :=
  { s with notice := reformNotice s.notice (s.notice.pending ||| e.bit) s.notice.enable s.notice.map }

end Sys2Proof.Machine
end

