-- ==== Sys2Proof/Machine/Capture.lean ====
section
/-! DEFINITION. The Capture Unit's shared operations (Chapter 6): programs, the stack, steps, records and the pending set. -/

namespace Sys2Proof.Machine

/-- A program of the live CONTACTOR table (R122). -/
def programField (img : Image) : Program → ProgramField
  | .precharge => img.contactor.precharge
  | .close => img.contactor.close
  | .opening => img.contactor.opening
  | .trip => img.contactor.trip

/-- The entry of a program in the pending set: absent, or its under-load mark (R131). -/
def PendingSet.get (p : PendingSet) : Program → Option Bool
  | .precharge => p.precharge
  | .close => p.close
  | .opening => p.opening
  | .trip => p.trip

/-- The entry of a program replaced. -/
def PendingSet.put (p : PendingSet) (g : Program) (e : Option Bool) : PendingSet :=
  match g with
  | .precharge => { p with precharge := e }
  | .close => { p with close := e }
  | .opening => { p with opening := e }
  | .trip => { p with trip := e }

/-- A record joins the buffer; past 64 the oldest leaves (R135). -/
def writeCapture (r : CaptureRecord) (s : State) : State :=
  let b := s.capture.buffer ++ [r]
  { s with capture.buffer := if 64 < b.length then b.drop 1 else b }

/-- Whole ticks from the context's push to now, stopping at 65535 (R127, R134). -/
def offsetOf (c : Context) (s : State) : Nat := min 65535 (s.sweep.ticks - c.started)

/-- A record of a context's step with no good answer (R128, R129). -/
def missedRecord (c : Context) (step offset : Nat) : CaptureRecord where
  id := c.id
  program := c.program
  step := step
  offset := offset
  vPack := 0
  vLink := 0
  iPack := 0
  late := c.late
  missed := true
  underLoad := c.underLoad

/-- A step of the top context falls due: a step that was waiting is given up (R129), the new one waits in its place, and the
next is timed (R126). -/
def stepFallsDue (s : State) : State :=
  match s.capture.stack with
  | [] => s
  | c :: rest =>
    let s :=
      if c.step = .due ∨ c.waiting then
        writeCapture (missedRecord c (c.nextStep - 1) (offsetOf c s)) s
      else s
    let c :=
      { c with
        waiting := decide (c.step = .inFlight)
        step := if c.step = .inFlight then .inFlight else .due
        nextStep := c.nextStep + 1
        ticksRemaining := if c.nextStep + 1 < c.count then c.interval else 0 }
    { s with capture.stack := c :: rest }

/-- Push a run of a program on the stack: it takes the next id, whose old records leave the buffer, and its step 0 falls due
(R122, R124, R125, R135). -/
def pushContext (p : Program) (underLoad late : Bool) (s : State) : State :=
  let f := programField (live s) p
  let id := s.capture.nextId
  let c : Context :=
    { program := p, id := id, count := f.count.toNat, interval := f.interval.toNat, nextStep := 0,
      ticksRemaining := 0, step := .none, waiting := false, started := s.sweep.ticks, late := late,
      underLoad := underLoad, ended := false, flightStep := 0, flightOffset := 0, leaving := false }
  stepFallsDue
    { s with
      capture.stack := c :: s.capture.stack
      capture.nextId := id + 1
      capture.buffer := s.capture.buffer.filter fun r => r.id != id }

/-- A contactor event reported by the Sequencer is ignored, starts a run, or joins the pending set (R123, R131). -/
def captureEvent (p : Program) (underLoad : Bool) (s : State) : State :=
  if (programField (live s) p).count = 0 then s
  else if s.capture.stack.length < 4 then pushContext p underLoad false s
  else
    let mark := match s.capture.pendingSet.get p with
      | some m => m || underLoad
      | none => underLoad
    raise .captureLate
      { s with capture.pendingSet := s.capture.pendingSet.put p (some mark) }

/-- Serve the pending set at a pop, in the given order: a program of count 0 is dropped, the first other is pushed LATE. The
Bool says whether a run was pushed (R132). -/
def servePending : List Program → State → Bool × State
  | [], s => (false, s)
  | p :: ps, s =>
    match s.capture.pendingSet.get p with
    | none => servePending ps s
    | some underLoad =>
      let s := { s with capture.pendingSet := s.capture.pendingSet.put p none }
      if (programField (live s) p).count = 0 then servePending ps s
      else (true, pushContext p underLoad true s)

/-- The order in which a pop serves the pending set (R132). -/
def pendingOrder : List Program := [.trip, .opening, .close, .precharge]

/-- What follows a pop: a pending run is pushed, or the uncovered context becomes the top, and leaves in its turn when it is
ended and has no step in flight (R130, R132, R133). The first argument bounds the pops at one instant by the stack's depth. -/
def servePop : Nat → State → State
  | 0, s => s
  | n + 1, s =>
    match servePending pendingOrder s with
    | (true, s) => s
    | (false, s) =>
      match s.capture.stack with
      | [] => s
      | c :: rest =>
        if !c.ended then s
        else if c.step = .inFlight then { s with capture.stack := { c with leaving := true } :: rest }
        else servePop n { s with capture.stack := rest }

/-- The top context leaves the stack and the pop is served. -/
def popTop (s : State) : State :=
  let s := { s with capture.stack := s.capture.stack.tail }
  servePop (s.capture.stack.length + 1) s

/-- The ended top context leaves now: it has no step in flight, and its ticks have run out or a pop has uncovered it. One whose ticks run
out while its step is in flight leaves at the end of that step (R133, log 40). -/
def leavesNow (s : State) : Bool :=
  match s.capture.stack with
  | [] => false
  | c :: _ => c.ended && c.step != .inFlight && (c.ticksRemaining == 0 || c.leaving)

/-- A context after PRECHARGING was left: a PRECHARGE run is ended and drops its DUE or waiting step (R133). -/
def endContext (c : Context) : Context :=
  if c.program = .precharge then
    { c with ended := true, waiting := false, step := if c.step = .due then .none else c.step }
  else c

/-- The Sequencer reports that PRECHARGING has been left (R133). -/
def prechargingLeft (s : State) : State :=
  let s :=
    { s with
      capture.stack := s.capture.stack.map endContext
      capture.pendingSet.precharge := none }
  if leavesNow s then popTop s else s

/-- The context with an id, when it is on the stack. -/
def contextOf (id : Half) (s : State) : Option Context := s.capture.stack.find? fun c => c.id == id

/-- The context with an id replaced. -/
def updateContext (id : Half) (f : Context → Context) (s : State) : State :=
  { s with capture.stack := s.capture.stack.map fun c => if c.id = id then f c else c }

/-- The context with an id is the top of the stack. -/
def isTop (id : Half) (s : State) : Bool :=
  match s.capture.stack with
  | [] => false
  | c :: _ => c.id == id

/-- A complete context, and no other, leaves the stack wherever it stands, CAPTURE_DONE is raised and the pop is served (R130, log 15). -/
def popComplete (id : Half) (s : State) : State :=
  let wasTop := isTop id s
  let s := raise .captureDone { s with capture.stack := s.capture.stack.eraseP fun c => c.id == id }
  if wasTop then servePop (s.capture.stack.length + 1) s
  else (servePending pendingOrder s).2

/-- After a step has left its record: a waiting step becomes DUE, and a context that is complete, or an ended one that may leave,
leaves the stack (R128 steps 3 and 4, R130, R133, log 16). -/
def finishStep (id : Half) (s : State) : State :=
  let s := updateContext id (fun c =>
    { c with step := if c.waiting then .due else .none, waiting := false }) s
  match contextOf id s with
  | none => s
  | some c =>
    if c.ended then if isTop id s && leavesNow s then popTop s else s
    else if c.nextStep = c.count ∧ c.step = .none then popComplete id s
    else s

/-- The capture record of a step whose transaction has ended (R128 step 1). `answer` is the payload of an ANSWERED SENSE answer. -/
def recordStep (id : Half) (answer : Option (List Byte)) (s : State) : State :=
  match contextOf id s with
  | none => s
  | some c =>
    let m := missedRecord c c.flightStep c.flightOffset
    match answer with
    | none => writeCapture m s
    | some p =>
      writeCapture
        { m with vPack := halfAt p 0, vLink := halfAt p 2, iPack := halfAt p 4, missed := false } s

/-- The CAPTURE requester is raised: the top context has a DUE step (R126, R43). -/
def captureRaised (s : State) : Bool :=
  match s.capture.stack with
  | [] => false
  | c :: _ => c.step == .due

/-- The next step of the top context falls due: its ticks remaining are 0 and steps are left (R126). A push taken at that instant before
the row covers the context, whose step then falls due when it is the top again (DESIGN CHOICE, log 42). -/
def stepDueNow (s : State) : Bool :=
  match s.capture.stack with
  | [] => false
  | c :: _ => !c.ended && c.ticksRemaining == 0 && decide (c.nextStep < c.count)

/-- One tick of the timebase counts down the top context (R126). -/
def tickCapture (s : State) : State :=
  match s.capture.stack with
  | [] => s
  | c :: rest => { s with capture.stack := { c with ticksRemaining := c.ticksRemaining - 1 } :: rest }

end Sys2Proof.Machine
end

