-- ==== Sys2Proof/Machine/Sequencer.lean ====
section
/-! DEFINITION. The Contactor Sequencer's shared operations (Chapter 5): drives and their supervision, the close and open
sequences, switch points, the judging of pack sense records, and the forced opening. -/

namespace Sys2Proof.Machine

/-! ### Supervision of the feedbacks (R113) -/

/-- A disagreement timer after a change: stopped on agreement, running on when it ran, started otherwise. -/
def disagreeAfter (timer : Option Nat) (agrees : Bool) (start : Nat) : Option Nat :=
  if agrees then none
  else match timer with
    | some t => some t
    | none => some start

/-- The disagreement timers follow the drives, the readings, the contactor state and the power state: they are stopped in
FAULTED and outside ACTIVE (R113, R118). -/
def superviseFeedback (s : State) : State :=
  let q := s.sequencer
  if q.state = .faulted ∨ s.power.power ≠ .active then
    { s with
      sequencer.disagreePos := none
      sequencer.disagreeNeg := none
      sequencer.disagreePre := none }
  else
    let start := s.now + ms (live s).contactor.feedbackTime.toNat
    { s with
      sequencer.disagreePos := disagreeAfter q.disagreePos (q.drive.pos == q.feedback.pos) start
      sequencer.disagreeNeg := disagreeAfter q.disagreeNeg (q.drive.neg == q.feedback.neg) start
      sequencer.disagreePre := disagreeAfter q.disagreePre (q.drive.pre == q.feedback.pre) start }

/-- Set the three drives at one instant (R96). -/
def setDrives (d : Triple) (s : State) : State := superviseFeedback { s with sequencer.drive := d }

/-- All outputs open. -/
def allOpen : Triple := ⟨false, false, false⟩

/-- The contactor state is OPEN or FAULTED. -/
def openOrFaulted (s : State) : Bool :=
  match s.sequencer.state with
  | .opened | .faulted => true
  | .precharging | .closing | .closed | .opening | .weldCheck => false

/-! ### Records (R100) -/

/-- Write the last close record. -/
def writeClose (r : CloseResult) (prechargeMs : Option Nat) (s : State) : State :=
  { s with
    sequencer.lastClose := some { result := r, prechargeMs := prechargeMs, sweep := s.sweep.number } }

/-- End the open sequence in progress, when there is one, with a result. -/
def writeOpen (r : OpenResult) (s : State) : State :=
  match s.sequencer.openSequence with
  | none => s
  | some q =>
    { s with
      sequencer.lastOpen := some { sequence := q, result := r, sweep := s.sweep.number }
      sequencer.openSequence := none }

/-- Begin an open sequence. -/
def beginOpenSequence (q : OpenSequence) (s : State) : State :=
  { s with sequencer.openSequence := some q }

/-! ### States -/

/-- Enter WELD_CHECK and start the weld timer (R112). -/
def enterWeldCheck (s : State) : State :=
  superviseFeedback
    { s with
      sequencer.state := .weldCheck
      sequencer.weldTimer := after s (ms (live s).contactor.weldTime.toNat) }

/-- Enter FAULTED: the weld timer and the disagreement timers stop (R113, R116). -/
def enterFaulted (s : State) : State :=
  superviseFeedback { s with sequencer.state := .faulted, sequencer.weldTimer := none }

/-- The weld check passes: OPEN, OPENED, CONTACTOR_DONE (R112). -/
def weldPassed (s : State) : State :=
  raise .contactorDone <| writeOpen .opened <|
    superviseFeedback { s with sequencer.state := .opened, sequencer.weldTimer := none }

/-- The part cancels a close-pending mark: WITHDRAWN and CONTACTOR_DONE (R102). -/
def withdrawClose (s : State) : State :=
  raise .contactorDone <| writeClose .withdrawn none { s with sequencer.closePending := false }

/-- OPENING moves to WELD_CHECK when NEG_DRV is open and all three feedbacks read open (R110). -/
def tryWeldCheck (s : State) : State :=
  if s.sequencer.state = .opening ∧ s.sequencer.drive.neg = false ∧ s.sequencer.feedback = allOpen then
    enterWeldCheck s
  else s

/-- The dwell ends: NEG_DRV opens (R110). -/
def openNegative (s : State) : State :=
  tryWeldCheck (setDrives { s.sequencer.drive with neg := false } { s with sequencer.dwellTimer := none })

/-- An opening from CLOSED with cause REQUEST: POS_DRV opens, the dwell runs, the OPEN event is reported (R110). -/
def beginOpening (underLoad : Bool) (deferMs : Option Nat) (s : State) : State :=
  let dwell := (live s).contactor.openDwell.toNat
  let s := setDrives { s.sequencer.drive with pos := false } s
  let s :=
    { s with
      sequencer.silenceTimer := none
      sequencer.deferTimer := none
      sequencer.dwellTimer := after s (ms dwell)
      sequencer.state := .opening }
  let s := beginOpenSequence { cause := .request, underLoad := underLoad, deferMs := deferMs } s
  let s := captureEvent .opening underLoad s
  if dwell = 0 then openNegative s else s

/-! ### Switch points -/

/-- The tests a pending close must pass at its switch point (R103). -/
def closeAllowed (s : State) : Bool :=
  decide (s.protection.state ≠ .safeOpen) && decide (s.power.power = .active) &&
    decide (s.chain.state = .numbered) && packSenseUsable s && !safetyActivation s

/-- NEG_DRV and PRE_DRV are driven and PRECHARGING begins (R103). -/
def beginPrecharge (s : State) : State :=
  let t := (live s).contactor
  let s := setDrives ⟨false, true, true⟩ s
  let s :=
    { s with
      sequencer.prechargeTimer := after s (ms t.preTimeout.toNat)
      sequencer.silenceTimer := after s (ms (t.silenceLimit.toNat * 10))
      sequencer.prechargeStart := s.now
      sequencer.prechargeMs := none
      sequencer.qualifying := 0
      sequencer.state := .precharging }
  captureEvent .precharge false s

/-- A record on which the current can be judged and is at or below break_limit (R108, R109). -/
def currentBreakable (s : State) : Bool :=
  let p := s.evaluator.pack
  (p.status == .fresh || p.status == .held) &&
    decide (p.iPack.toInt.natAbs ≤ (live s).contactor.breakLimit.toNat)

/-- A deferral begins; a defer_limit of 0 expires at once, so the opening is made under load (R108, R109). -/
def beginDeferral (s : State) : State :=
  let limit := (live s).contactor.deferLimit.toNat
  if limit = 0 then beginOpening true (some 0) s
  else
    { s with
      sequencer.deferTimer := after s (ms limit)
      sequencer.deferStart := s.now }

/-- The Sweep Engine offers a switch point: a pending close starts or is withdrawn, a pending open opens or is deferred, and
without a mark the offer is ignored (R22, R103, R108). -/
def switchPoint (s : State) : State :=
  if s.sequencer.closePending then
    if closeAllowed s then beginPrecharge { s with sequencer.closePending := false }
    else withdrawClose s
  else if s.sequencer.openPending then
    let s := { s with sequencer.openPending := false }
    if currentBreakable s then beginOpening false none s else beginDeferral s
  else s

/-! ### Judging a new pack sense record -/

/-- The record qualifies for the end of precharge (R104). -/
def qualifies (s : State) : Bool :=
  let p := s.evaluator.pack
  (p.status == .fresh || p.status == .held) && decide (0 < p.vPack.toNat) &&
    decide (p.vPack.toNat * (live s).contactor.preRatio.toNat ≤ p.vLink.toNat * 256)

/-- POS_FB reads closed in CLOSING: PRE_DRV opens and CLOSED is reached (R106). -/
def reachClosed (s : State) : State :=
  let s := setDrives { s.sequencer.drive with pre := false } s
  let s := { s with sequencer.state := .closed }
  raise .contactorDone (writeClose .closed s.sequencer.prechargeMs s)

/-- CLOSING waits for POS_FB to read closed: at a change of the reading, and at the entry to CLOSING when it reads closed already
(R106, log 35). -/
def tryClosed (s : State) : State := if s.sequencer.feedback.pos then reachClosed s else s

/-- The second qualifying record: POS_DRV is driven and CLOSING begins (R104), and ends at once when POS_FB reads closed (R106). The
test of step 1 holds in every state a run reaches; where it fails nothing is driven (log 26). -/
def prechargeComplete (s : State) : State :=
  if s.protection.state ≠ .safeOpen ∧ s.power.power = .active then
    let s := setDrives ⟨true, true, true⟩ s
    let s :=
      { s with
        sequencer.prechargeTimer := none
        sequencer.prechargeMs := some ((s.now - s.sequencer.prechargeStart) / 100)
        sequencer.state := .closing }
    tryClosed (captureEvent .close false (prechargingLeft s))
  else s

/-- The record shows the link collapsed (R112). A weld_ratio of 0 judges no record. -/
def weldRatioMet (s : State) : Bool :=
  let p := s.evaluator.pack
  (p.status == .fresh || p.status == .held) &&
    decide (p.vLink.toNat * 256 < p.vPack.toNat * (live s).contactor.weldRatio.toNat)

/-- Whole milliseconds since an instant. -/
def msSince (start : Nat) (s : State) : Nat := (s.now - start) / 100

/-- A new pack sense record is handed to the Sequencer (R104, R109, R112). -/
def judgeRecord (s : State) : State :=
  match s.sequencer.state with
  | .precharging =>
    if qualifies s then
      let s := { s with sequencer.qualifying := s.sequencer.qualifying + 1 }
      if 2 ≤ s.sequencer.qualifying then prechargeComplete s else s
    else { s with sequencer.qualifying := 0 }
  | .closed =>
    if s.sequencer.deferTimer.isSome && currentBreakable s then
      beginOpening false (some (msSince s.sequencer.deferStart s)) s
    else s
  | .weldCheck => if weldRatioMet s then weldPassed s else s
  | .opened | .closing | .opening | .faulted => s

/-! ### Openings that await no switch point -/

/-- The common end of an opening during a close, by OPEN (R111) or by the precharge timeout (R105): outputs open, timers stop, the
close record is written, WELD_CHECK begins, and the OPEN event is reported with its open sequence. -/
def breakOffClose (r : CloseResult) (cause : OpenCause) (s : State) : State :=
  let wasPrecharging := decide (s.sequencer.state = .precharging)
  let s := setDrives allOpen s
  let s :=
    { s with
      sequencer.prechargeTimer := none
      sequencer.silenceTimer := none }
  let s := writeClose r (if wasPrecharging then none else s.sequencer.prechargeMs) s
  let s := enterWeldCheck s
  let s := if wasPrecharging then prechargingLeft s else s
  let s := captureEvent .opening false s
  beginOpenSequence { cause := cause, underLoad := false, deferMs := none } s

/-- The current sweep record gets DISTURBED while the engine is RUNNING or STOPPING (R23, R116). -/
def reportDisturbed (s : State) : State :=
  if sweeping s then markSweep (fun f => { f with disturbed := true }) s else s

/-- The forced opening (R116, steps 1 to 6). A timer that it stops at the instant of its expiry still raises its trip, where the order is
that of another block's trip (R83, takeOutsideTrip). -/
def forceOpen (cause : TripCause) (s : State) : State :=
  let was := s.sequencer.state
  let s := setDrives allOpen s
  let s :=
    { s with
      sequencer.closePending := false
      sequencer.openPending := false
      sequencer.prechargeTimer := none
      sequencer.silenceTimer := none
      sequencer.deferTimer := none
      sequencer.dwellTimer := none }
  let s := match was with
    | .precharging => writeClose .forced none s
    | .closing => writeClose .forced s.sequencer.prechargeMs s
    | .opened | .closed | .opening | .weldCheck | .faulted => s
  let s := reportDisturbed s
  let s := if cause = .contactorFeedback then enterFaulted s else enterWeldCheck s
  let s := if was = .precharging then prechargingLeft s else s
  let s := captureEvent .trip false s
  let s := beginOpenSequence { cause := .trip, underLoad := false, deferMs := none } s
  if cause = .contactorFeedback then writeOpen .feedbackFault s else s

/-- FAULTED for a CONTACTOR_FEEDBACK trip that finds nothing to open: an open sequence in progress ends in FEEDBACK_FAULT (R116). -/
def faultIfFeedback (cause : TripCause) (s : State) : State :=
  if cause = .contactorFeedback then writeOpen .feedbackFault (enterFaulted s) else s

/-- The HARD open order acts on the contactor state (R84, R116). -/
def openOrder (cause : TripCause) (s : State) : State :=
  match s.sequencer.state with
  | .opened =>
    let s :=
      if s.sequencer.closePending then writeClose .forced none { s with sequencer.closePending := false }
      else s
    faultIfFeedback cause s
  | .precharging | .closing | .closed => forceOpen cause s
  | .opening => if s.sequencer.drive.neg then forceOpen cause s else faultIfFeedback cause s
  | .weldCheck => faultIfFeedback cause s
  | .faulted => s

end Sys2Proof.Machine
end

