-- ==== Sys2Proof/Machine/Protection.lean ====
section
/-! DEFINITION. The Protection Unit's taking of a trip (Chapter 4). -/

namespace Sys2Proof.Machine

/-- The response to a cause: fixed for six, from the live response map for LIMIT_PROFILE and MONITOR_LOST (R81, R82). -/
def responseTo (img : Image) : TripCause → Response
  | .limitFloor | .contactorFeedback | .weld | .controllerSilence => .hard
  | .prechargeTimeout | .watchLimit => .soft
  | .limitProfile => if img.contactor.responseMap.getLsbD 0 then .hard else .soft
  | .monitorLost => if img.contactor.responseMap.getLsbD 1 then .hard else .soft

/-- The trip record after a trip (R87). -/
def recordTrip (old : Option TripRecord) (t : Trip) (r : Response) (power : Power) : TripRecord :=
  match old with
  | none =>
    { first := t, power := power, firstResponse := r, laterCount := 0, latestCause := none, level := r,
      resetSince := false }
  | some o =>
    { o with
      laterCount := min 255 (o.laterCount + 1)
      latestCause := some t.cause
      level := if r = .hard then .hard else o.level }

/-- The protection state after a trip (R78). -/
def protectionAfter (p : Protection) : Response → Protection
  | .hard => .safeOpen
  | .soft => match p with
    | .normal | .alert => .alert
    | .safeOpen => .safeOpen

/-- The Protection Unit takes a trip: response, trip record, protection state, and for a HARD response the open order (R83, steps 1 to 4). -/
def takeTrip (t : Trip) (s : State) : State :=
  let r := responseTo (live s) t.cause
  let s :=
    { s with
      protection.record := some (recordTrip s.protection.record t r s.power.power)
      protection.state := protectionAfter s.protection.state r }
  if r = .hard then openOrder t.cause s else s

/-- A trip of a cause that carries no position, channel or value, with the sweep number as its stamp (R80). -/
def plainTrip (cause : TripCause) (s : State) : Trip where
  cause := cause
  position := none
  channel := none
  value := none
  stamp := .sweep s.sweep.number
  generation := (live s).generation
  profile := s.evaluator.profile

/-! ### Trips that the Contactor Sequencer raises -/

/-- The PRECHARGE_TIMEOUT trip, with CONTACTOR_FAULT (R105 step 6). -/
def tripPrecharge (s : State) : State := raise .contactorFault (takeTrip (plainTrip .prechargeTimeout s) s)

/-- The CONTACTOR_FEEDBACK trip of one timer, with CONTACTOR_FAULT (R114). -/
def tripFeedback (s : State) : State := raise .contactorFault (takeTrip (plainTrip .contactorFeedback s) s)

/-- The CONTROLLER_SILENCE trip, with its event (R115). -/
def tripSilence (s : State) : State := raise .controllerSilence (takeTrip (plainTrip .controllerSilence s) s)

/-- The disagreement timer of a contactor. -/
def disagreeTimer (s : State) : Contactor → Option Nat
  | .pos => s.sequencer.disagreePos
  | .neg => s.sequencer.disagreeNeg
  | .pre => s.sequencer.disagreePre

/-- The number of disagreement timers that expire at this instant: each raises a trip (R114, log 39). -/
def expiredDisagreements (s : State) : Nat :=
  ([Contactor.pos, .neg, .pre].filter fun c => expired s (disagreeTimer s c)).length

/-! ### Trips of the other blocks -/

/-- A timer that expires at this instant and that a trip's open order has stopped. -/
def stoppedExpired (was : State) (before after : Option Nat) : Bool := expired was before && after.isNone

/-- The precharge timer, in PRECHARGING, is one. -/
def prechargeStopped (was s : State) : Bool :=
  decide (was.sequencer.state = .precharging) && stoppedExpired was was.sequencer.prechargeTimer s.sequencer.prechargeTimer

/-- A disagreement timer is one. -/
def disagreementStopped (was s : State) : Bool :=
  [Contactor.pos, .neg, .pre].any fun c => stoppedExpired was (disagreeTimer was c) (disagreeTimer s c)

/-- The silence timer is one. -/
def silenceStopped (was s : State) : Bool :=
  stoppedExpired was was.sequencer.silenceTimer s.sequencer.silenceTimer

/-- The expiry of this instant that the order has stopped raises its trip after the one just taken, so that the two are counted as they are
when the expiry comes first (R83). Of several, the first in the order of an idle step stands, as it stops the rest (log 41). -/
def takeStoppedExpiry (was s : State) : State :=
  if prechargeStopped was s then tripPrecharge s
  else if disagreementStopped was s then Nat.repeat tripFeedback (expiredDisagreements was) s
  else if silenceStopped was s then tripSilence s
  else s

/-- The Protection Unit takes a trip that a block other than the Contactor Sequencer raises, and the Sequencer's own trip of the same
instant after it (R83). -/
def takeOutsideTrip (t : Trip) (s : State) : State := takeStoppedExpiry s (takeTrip t s)

end Sys2Proof.Machine
end

