-- ==== Sys2Proof/Machine/Formats.lean ====
section
/-! DEFINITION. Frames and their check (10.1, R207), and the entry layouts of the tables (10.5). -/

namespace Sys2Proof.Machine

/-! ### The check (R207) -/

/-- One bit into the check register: shift left, and combine with 0x1021 when the bit that leaves differs from the bit taken. -/
def checkBit (r : Half) (bit : Bool) : Half :=
  if r.msb != bit then (r <<< 1) ^^^ 0x1021 else r <<< 1

/-- One byte, most significant bit first. -/
def checkByte (r : Half) (b : Byte) : Half :=
  [7, 6, 5, 4, 3, 2, 1, 0].foldl (fun r i => checkBit r (b.getLsbD i)) r

/-- The check of the bytes from the address to the last payload byte. -/
def check (bytes : List Byte) : Half := bytes.foldl checkByte 0xFFFF

/-- The bytes the check is formed over. -/
def Frame.body (f : Frame) : List Byte :=
  [f.address, f.kind, f.flags, byteOf f.payload.length] ++ f.payload

/-- The frame as it is sent (10.1). -/
def Frame.bytes (f : Frame) : List Byte := f.body ++ halfBytes (check f.body)

/-- The first whole frame of the received bytes, with its check as received: none while the header, the payload its length field
gives or the check is incomplete, or when the length field exceeds 32. Bytes after it are ignored (R188). -/
def wholeFrame? (rx : List Byte) : Option (Frame × Half) :=
  match rx with
  | a :: k :: f :: n :: rest =>
    if n.toNat ≤ 32 ∧ n.toNat + 2 ≤ rest.length then
      some ({ address := a, kind := k, flags := f, payload := rest.take n.toNat }, halfAt rest n.toNat)
    else none
  | _ => none

/-- A whole frame whose check is correct (R207). -/
def goodFrame? (rx : List Byte) : Option Frame :=
  match wholeFrame? rx with
  | some (f, c) => if check f.body = c then some f else none
  | none => none

/-! ### Entry layouts (10.5) -/

/-- The number of entries of a table (section 8.1). -/
def Table.size : Table → Nat
  | .chainMap => 25
  | .cellMap => 480
  | .limits => 64
  | .floor => 16
  | .thermal => 9
  | .sweep => 17
  | .contactor => 1
  | .watch => 1

/-- The widths in bytes of the fields of an entry, in layout order. -/
def fieldWidths (t : Table) (i : Nat) : List Nat :=
  match t with
  | .chainMap => if i = 0 then [1, 1, 1] else [1]
  | .cellMap => [1, 2, 2]
  | .limits => [2, 2, 2, 2, 2, 1, 2, 2, 2, 2, 1, 1]
  | .floor => [2, 2, 1, 2, 2, 1]
  | .thermal => [2, 2]
  | .sweep => if i = 0 then [2, 1, 2, 2, 2, 1] else [2, 1, 1, 1, 1, 1, 1, 1]
  | .contactor => [2, 1, 1, 1, 2, 2, 2, 1, 1, 1, 2, 2, 2, 2]
  | .watch => [2, 1, 1, 2, 2, 2, 2, 1]

/-- The bytes of an entry. -/
def entryWidth (t : Table) (i : Nat) : Nat := (fieldWidths t i).foldl (· + ·) 0

/-- The big-endian bytes of a field value of the given width. -/
def fieldBytes (width value : Nat) : List Byte :=
  if width = 1 then [byteOf value] else halfBytes (halfOf value)

/-- The bytes of field values in a layout. -/
def packFields (widths values : List Nat) : List Byte := (widths.zipWith fieldBytes values).flatten

/-- The field values of an entry's bytes. -/
def unpackFields : List Nat → List Byte → List Nat
  | [], _ => []
  | w :: ws, bytes => beNat (bytes.take w) :: unpackFields ws (bytes.drop w)

/-- Count and interval as one two-byte field (10.5, fields 10 to 13 of CONTACTOR). -/
def ProgramField.value (p : ProgramField) : Nat := p.count.toNat * 256 + p.interval.toNat

/-- A two-byte field as count and interval. -/
def ProgramField.ofValue (n : Nat) : ProgramField := { count := byteOf (n / 256), interval := byteOf n }

/-- The field values of a table's entry in an image, in layout order. -/
def entryFields (img : Image) (t : Table) (i : Nat) : List Nat :=
  match t with
  | .chainMap =>
    if i = 0 then
      [img.chainHeader.window.toNat, img.chainHeader.lostThreshold.toNat,
        img.chainHeader.classes.toNat]
    else [(positionKind img i).toNat]
  | .cellMap =>
    let e := cellEntry img i
    [e.flags.toNat, e.gain.toNat, e.offset.toNat]
  | .limits =>
    let r := look img.limits LimitRecord.blank i
    [r.ovTrip.toNat, r.ovWarn.toNat, r.uvWarn.toNat, r.uvTrip.toNat, r.vHyst.toNat,
      r.vPersist.toNat, r.otTrip.toNat, r.otWarn.toNat, r.utWarn.toNat, r.utTrip.toNat,
      r.tHyst.toNat, r.tPersist.toNat]
  | .floor =>
    let r := floorRecord img i
    [r.ovTrip.toNat, r.uvTrip.toNat, r.vPersist.toNat, r.otTrip.toNat, r.utTrip.toNat,
      r.tPersist.toNat]
  | .thermal =>
    let b := look img.thermal { code := 0, temp := 0 } i
    [b.code.toNat, b.temp.toNat]
  | .sweep =>
    if i = 0 then
      let h := img.sweepHeader
      [h.period.toNat, h.modes.toNat, h.quietStart.toNat, h.quietEnd.toNat, h.sumTolerance.toNat,
        h.slotCount.toNat]
    else
      let g := sweepSlot img (i - 1)
      [g.offset.toNat, g.kind.toNat, g.divider.toNat, g.fixedFirst.toNat, g.fixedLast.toNat,
        g.rotFirst.toNat, g.rotLast.toNat, g.rotCount.toNat]
  | .contactor =>
    let r := img.contactor
    [r.preTimeout.toNat, r.preRatio.toNat, r.feedbackTime.toNat, r.openDwell.toNat,
      r.breakLimit.toNat, r.deferLimit.toNat, r.weldTime.toNat, r.weldRatio.toNat,
      r.silenceLimit.toNat, r.responseMap.toNat, r.precharge.value, r.close.value,
      r.opening.value, r.trip.value]
  | .watch =>
    let r := img.watch
    [r.interval.toNat, r.rangeFirst.toNat, r.rangeLast.toNat, r.ov.toNat, r.uv.toNat, r.ot.toNat,
      r.ut.toNat, r.persistence.toNat]

/-- The image with a table's entry replaced by field values in layout order. Bits that the layout does not assign are stored as 0 (10.5, log 25). -/
def setEntry (img : Image) (t : Table) (i : Nat) (v : List Nat) : Image :=
  let b (k : Nat) : Byte := byteOf (v.getD k 0)
  let h (k : Nat) : Half := halfOf (v.getD k 0)
  let p (k : Nat) : ProgramField := ProgramField.ofValue (v.getD k 0)
  match t with
  | .chainMap =>
    if i = 0 then
      { img with chainHeader := { window := b 0, lostThreshold := b 1, classes := b 2 } }
    else { img with positions := put img.positions (i - 1) (b 0) }
  | .cellMap =>
    { img with cells := put img.cells i { flags := b 0 &&& 0x8F, gain := h 1, offset := h 2 } }
  | .limits =>
    { img with
      limits := put img.limits i
        { ovTrip := h 0, ovWarn := h 1, uvWarn := h 2, uvTrip := h 3, vHyst := h 4,
          vPersist := b 5, otTrip := h 6, otWarn := h 7, utWarn := h 8, utTrip := h 9,
          tHyst := b 10, tPersist := b 11 } }
  | .floor =>
    { img with
      floor := put img.floor i
        { ovTrip := h 0, uvTrip := h 1, vPersist := b 2, otTrip := h 3, utTrip := h 4,
          tPersist := b 5 } }
  | .thermal => { img with thermal := put img.thermal i { code := h 0, temp := h 1 } }
  | .sweep =>
    if i = 0 then
      { img with
        sweepHeader :=
          { period := h 0, modes := b 1 &&& 0x0F, quietStart := h 2, quietEnd := h 3,
            sumTolerance := h 4, slotCount := b 5 } }
    else
      { img with
        slots := put img.slots (i - 1)
          { offset := h 0, kind := b 1, divider := b 2, fixedFirst := b 3, fixedLast := b 4,
            rotFirst := b 5, rotLast := b 6, rotCount := b 7 } }
  | .contactor =>
    { img with
      contactor :=
        { preTimeout := h 0, preRatio := b 1, feedbackTime := b 2, openDwell := b 3,
          breakLimit := h 4, deferLimit := h 5, weldTime := h 6, weldRatio := b 7,
          silenceLimit := b 8, responseMap := b 9 &&& 0x03, precharge := p 10, close := p 11,
          opening := p 12, trip := p 13 } }
  | .watch =>
    { img with
      watch :=
        { interval := h 0, rangeFirst := b 1, rangeLast := b 2, ov := h 3, uv := h 4, ot := h 5,
          ut := h 6, persistence := b 7 } }

/-- The bytes of a table's entry (10.5). -/
def entryBytes (img : Image) (t : Table) (i : Nat) : List Byte :=
  packFields (fieldWidths t i) (entryFields img t i)

/-- MERGE: the selected fields of `new` replace those of `old` (R168). -/
def mergeFields (select : Half) (old new : List Nat) : List Nat :=
  (old.zip new).mapIdx fun k p => if select.getLsbD k then p.2 else p.1

/-- The image with one table replaced by another image's (R177). -/
def withTable (img src : Image) (t : Table) : Image :=
  match t with
  | .chainMap => { img with chainHeader := src.chainHeader, positions := src.positions }
  | .cellMap => { img with cells := src.cells }
  | .limits => { img with limits := src.limits }
  | .floor => { img with floor := src.floor }
  | .thermal => { img with thermal := src.thermal }
  | .sweep => { img with sweepHeader := src.sweepHeader, slots := src.slots }
  | .contactor => { img with contactor := src.contactor }
  | .watch => { img with watch := src.watch }

end Sys2Proof.Machine
end

