-- ==== Sys2Proof/Machine/Router.lean ====
section
/-! DEFINITION. The Frame Router's queues and the frames that go up (sections 9.3 to 9.6, 10.3). -/

namespace Sys2Proof.Machine

/-- The Upstream Queue's free count: 16 minus held minus reserved (R193). -/
def freeCount (s : State) : Nat := 16 - s.link.upstream.length - s.link.reserved

/-- A frame enters the Upstream Queue at the tail. -/
def enqueue (f : Frame) (s : State) : State := { s with link.upstream := s.link.upstream ++ [f] }

/-- A frame enters the Upstream Queue in a reservation made for it (R193). -/
def enqueueReserved (f : Frame) (s : State) : State :=
  enqueue f { s with link.reserved := s.link.reserved - 1 }

/-- TAINT while the protection state is SAFE_OPEN (R89). -/
def taint (s : State) : Byte := bitAt (decide (s.protection.state = .safeOpen)) 7

/-- A MIRROR frame: ORIGIN sweep, and TAINT as R89 gives (R72, 10.3). -/
def mirrorFrame (payload : List Byte) (s : State) : Frame where
  address := 0
  kind := 0x63
  flags := taint s ||| 1
  payload := payload

/-- The NOTICE of a channel with its request set (10.3). -/
def noticeFrame (urgent : Bool) (s : State) : Frame where
  address := 0
  kind := 0x62
  flags := 0
  payload := (if urgent then 0 else 1) :: halfBytes (requestSet s.notice urgent)

/-- The frame is a NOTICE of the channel. -/
def isNotice (urgent : Bool) (f : Frame) : Bool :=
  f.kind == 0x62 && f.payload.head? == some (if urgent then 0 else 1)

/-- The channel's notice-owed mark (R200). -/
def owed (urgent : Bool) (s : State) : Bool := if urgent then s.notice.owedUrgent else s.notice.owedRoutine

/-- A NOTICE of the channel may enter the Upstream Queue now (R200). -/
def noticeAdmissible (urgent : Bool) (s : State) : Bool :=
  owed urgent s && decide (1 ≤ freeCount s) && !s.link.upstream.any (isNotice urgent) &&
    (decide (s.power.power = .active) || decide (s.power.power = .drain))

/-- The channel's NOTICE enters and clears its mark, when it may (R200). -/
def admitNotice (urgent : Bool) (s : State) : State :=
  if noticeAdmissible urgent s then
    let s := enqueue (noticeFrame urgent s) s
    if urgent then { s with notice.owedUrgent := false } else { s with notice.owedRoutine := false }
  else s

/-- URGENT first, then ROUTINE (R200, R201). -/
def admitNotices (s : State) : State := admitNotice false (admitNotice true s)

/-- The MIRROR enters when at least five entries are free, and is dropped with MIRROR_GAP otherwise (R73, R194). -/
def placeMirror (payload : List Byte) (s : State) : State :=
  if 5 ≤ freeCount s then enqueue (mirrorFrame payload s) s
  else markSweep (fun f => { f with mirrorGap := true }) s

/-- The NOTICE that may enter next does: URGENT before ROUTINE (R200, R201). -/
def admitNext (s : State) : State := if noticeAdmissible true s then admitNotice true s else admitNotice false s

/-- The NOTICEs taken before a MIRROR that is offered at the same instant: while one is admissible, a free choice says whether it is
taken first (R194, R200, log 5). The first argument bounds them by the number of channels. -/
def noticesBefore : Nat → State → State
  | 0, s => s
  | n + 1, s =>
    if noticeAdmissible true s || noticeAdmissible false s then
      let (noticeFirst, s) := takeChoice s
      if noticeFirst then noticesBefore n (admitNext s) else s
    else s

/-- A MIRROR is offered: it meets the free count that the NOTICEs taken before it leave, none, URGENT alone or both (R194, R200, log 5). -/
def offerMirror (payload : List Byte) (s : State) : State := placeMirror payload (noticesBefore 2 s)

/-- The outcomes of an addressed transaction (R31); ANSWERED carries the answer. -/
inductive Ending where
  | answered (f : Frame)
  | noAnswer
  | badAnswer
  deriving DecidableEq, Repr

/-- The CHAIN_ANSWER of a forwarded transaction (R192, 10.1). -/
def chainAnswer (position : Nat) (e : Ending) (s : State) : Frame :=
  match e with
  | .answered f =>
    { address := byteOf position, kind := 0x40 + f.kind, flags := taint s ||| 4, payload := f.payload }
  | .noAnswer =>
    { address := byteOf position, kind := 0x40, flags := taint s ||| bitAt true 5 ||| 4, payload := [] }
  | .badAnswer =>
    { address := byteOf position, kind := 0x40, flags := taint s ||| bitAt true 4 ||| 4, payload := [] }

/-! ### Replies (9.5, 10.3) -/

/-- Refusal reasons (9.5); `safeOpen` is PROTECTED. -/
inductive Reason where
  | state | busy | range | sequence | locked | contactors | tamper | safeOpen | chain
  | generation
  deriving DecidableEq, Repr

/-- The refusal reason code (10.2). -/
def Reason.code : Reason → Byte
  | .state => 1
  | .busy => 2
  | .range => 3
  | .sequence => 4
  | .locked => 5
  | .contactors => 6
  | .tamper => 7
  | .safeOpen => 8
  | .chain => 9
  | .generation => 10

/-- The outcome of a management command with its data (9.5). -/
inductive Reply where
  | done (data : List Byte) (more : Bool)
  | accepted
  | refused (reason : Reason) (data : List Byte)
  deriving DecidableEq, Repr

/-- DONE without data. -/
def Reply.ok : Reply := .done [] false

/-- The payload of a reply after the command code (10.3). -/
def Reply.payload : Reply → List Byte
  | .done d _ => 0 :: d
  | .accepted => [1]
  | .refused r d => [2, r.code] ++ d

/-- The flags of a reply: MORE alone (R195). -/
def Reply.flags : Reply → Byte
  | .done _ more => bitAt more 6
  | .accepted | .refused _ _ => 0

/-- The MANAGE_REPLY frame (10.1, 10.3). -/
def replyFrame (code : Byte) (r : Reply) : Frame where
  address := 0
  kind := 0x61
  flags := r.flags
  payload := code :: r.payload

/-! ### Holding off (R189, R190) -/

/-- HOLD_OFF reasons (R189); `safeOpen` is PROTECTED. -/
inductive HoldOff where
  | queueFull | noRoom | waking | chain | safeOpen | badFrame
  deriving DecidableEq, Repr

/-- The HOLD_OFF reason code (10.2). -/
def HoldOff.code : HoldOff → Byte
  | .queueFull => 1
  | .noRoom => 2
  | .waking => 3
  | .chain => 4
  | .safeOpen => 5
  | .badFrame => 6

/-- Place the HOLD_OFF for a discarded frame in the link answer slot (R189, R190). -/
def holdOff (r : HoldOff) (address kind : Byte) (s : State) : State :=
  { s with
    link.answerSlot := some { address := 0, kind := 0x64, flags := 0, payload := [r.code, address, kind] } }

/-- The acceptance of a frame: one entry is reserved, and a running silence timer restarts (R115, R189). -/
def acceptFrame (s : State) : State :=
  { s with
    link.reserved := s.link.reserved + 1
    sequencer.silenceTimer :=
      if s.sequencer.silenceTimer.isSome then after s (ms ((live s).contactor.silenceLimit.toNat * 10))
      else none }

end Sys2Proof.Machine
end

