-- ==== Sys2Proof/Machine/Evaluator.lean ====
section
/-! DEFINITION. The Sample Evaluator: correction, interpolation, judging, the pack sense record, the sum check and the mirrors
(Chapter 3). -/

namespace Sys2Proof.Machine

/-! ### Correction (R55) and interpolation (R56 to R58) -/

/-- A reading formed from a code: a sensor fault, or a value with its CLAMPED flag. -/
inductive Reading where
  | fault
  | value (v : Int) (clamped : Bool)
  deriving DecidableEq, Repr

/-- The corrected value of a cell code with gain trim `g` and offset trim `o` (R55). -/
def correctCell (r : Nat) (g o : Int) : Reading :=
  let p : Int := r * (1000000 + g)
  let c := (p + 500000) / 1000000 + o
  if c < 0 then .value 0 true
  else if 65535 < c then .value 65535 true
  else .value c false

/-- `n / d` rounded to the nearest integer, halves away from zero, for a positive `d` (R58). -/
def roundAway (n : Int) (d : Nat) : Int :=
  let m : Int := ((2 * n.natAbs + d) / (2 * d) : Nat)
  if n < 0 then -m else m

/-- Breakpoint `i` of a curve. -/
def breakpoint (img : Image) (i : Nat) : Breakpoint := look img.thermal { code := 0, temp := 0 } i

/-- The segment that holds a code: the breakpoint i with code_i ≤ r < code_(i+1), 7 at the latest (R58). -/
def segment (img : Image) (r : Nat) : Nat :=
  ((List.range 7).find? fun i => decide (r < (breakpoint img (i + 1)).code.toNat)).getD 7

/-- The curve value of a code between the ends of the curve (R58 step 2). -/
def interpolate (img : Image) (r : Nat) : Int :=
  let i := segment img r
  let lo := breakpoint img i
  let hi := breakpoint img (i + 1)
  lo.temp.toInt +
    roundAway ((r - lo.code.toNat : Int) * (hi.temp.toInt - lo.temp.toInt)) (hi.code.toNat - lo.code.toNat)

/-- The ratio code the part takes: a code above 4095 is a free value (log 9). -/
def ratioCode (code : Half) : Nat :=
  if code.toNat ≤ 4095 then code.toNat else (Config.overrangeRatio code).val

/-- The temperature of a ratio code with offset trim `o`, or a sensor fault for 0 and 4095 (R57, R58). -/
def correctAux (img : Image) (r : Nat) (o : Int) : Reading :=
  if r = 0 ∨ r = 4095 then .fault
  else
    let first := breakpoint img 0
    let last := breakpoint img 8
    let (curve, atEnd) :=
      if r ≤ first.code.toNat then (first.temp.toInt, true)
      else if last.code.toNat ≤ r then (last.temp.toInt, true)
      else (interpolate img r, false)
    let t := curve + o
    if first.temp.toInt < t then .value first.temp.toInt true
    else if t < last.temp.toInt then .value last.temp.toInt true
    else .value t atEnd

/-- The raw code kept for a channel: the code as received, or for an auxiliary channel the ratio code taken. -/
def rawCode (i : Nat) (code : Half) : Half := if isAux (channelOf i) then halfOf (ratioCode code) else code

/-- The reading of an evaluated channel's code under an image (R55, R57, R58). -/
def readingOf (img : Image) (i : Nat) (code : Half) : Reading :=
  let e := cellEntry img i
  if isAux (channelOf i) then correctAux img (ratioCode code) e.offset.toInt
  else correctCell code.toNat e.gain.toInt e.offset.toInt

/-! ### Effective values (R52) -/

/-- The effective values of a channel under a profile, with the floor's own trip thresholds (R52, R65). -/
structure Effective where
  overTrip : Int
  underTrip : Int
  overWarn : Int
  underWarn : Int
  hyst : Int
  persist : Nat
  floorOver : Int
  floorUnder : Int
  deriving DecidableEq, Repr

/-- The effective values of channel index `i` under profile `p` (R52). -/
def effective (img : Image) (p : Fin 4) (i : Nat) : Effective :=
  let c := classOf (cellEntry img i)
  let l := limitRecord img p.val c
  let f := floorRecord img c
  if isAux (channelOf i) then
    let above := min l.otTrip.toInt f.otTrip.toInt
    let under := max l.utTrip.toInt f.utTrip.toInt
    { overTrip := above, underTrip := under, overWarn := min l.otWarn.toInt above,
      underWarn := max l.utWarn.toInt under, hyst := l.tHyst.toNat,
      persist := min l.tPersist.toNat f.tPersist.toNat, floorOver := f.otTrip.toInt,
      floorUnder := f.utTrip.toInt }
  else
    let above : Int := min (l.ovTrip.toNat : Int) f.ovTrip.toNat
    let under : Int := max (l.uvTrip.toNat : Int) f.uvTrip.toNat
    { overTrip := above, underTrip := under, overWarn := min (l.ovWarn.toNat : Int) above,
      underWarn := max (l.uvWarn.toNat : Int) under, hyst := l.vHyst.toNat,
      persist := min l.vPersist.toNat f.vPersist.toNat, floorOver := f.ovTrip.toNat,
      floorUnder := f.uvTrip.toNat }

/-! ### The channel record -/

/-- The channel record of an index. -/
def channelAt (s : State) (i : Nat) : Channel := look s.evaluator.channels Channel.empty i

/-- The channel record of an index replaced. -/
def setChannel (i : Nat) (c : Channel) (s : State) : State :=
  { s with evaluator.channels := put s.evaluator.channels i c }

/-- The record takes a reading: value and CLAMPED are held on a sensor fault (R55, R57, R58, R60). -/
def storeReading (c : Channel) (reading : Reading) (raw : Half) (stamp : Stamp) : Channel :=
  match reading with
  | .fault => { c with raw := raw, stamp := stamp, status := .fault }
  | .value v clamped =>
    { c with value := v, clamped := clamped, raw := raw, stamp := stamp, status := .fresh }

/-- A sensor fault that the channel was not in already raises LIMIT_WARN (R57). -/
def raiseNewFault (before : Status) (reading : Reading) (s : State) : State :=
  if reading = .fault ∧ before ≠ .fault then raise .limitWarn s else s

/-- The warn state after a sample, the tests in the order of the table (R63). -/
def warnAfter (w : Warn) (v above under hyst : Int) : Warn :=
  match w with
  | .clear => if above < v then .high else if v < under then .low else .clear
  | .high => if v < under then .low else if v ≤ above - hyst then .clear else .high
  | .low => if above < v then .high else if under + hyst ≤ v then .clear else .low

/-- Moving to HIGH or LOW from another state raises LIMIT_WARN (R63). -/
def warnRaises (before now : Warn) : Bool := now != .clear && now != before

/-- The sample is beyond trip (R64). -/
def beyondTrip (e : Effective) : Reading → Bool
  | .fault => true
  | .value v _ => decide (e.overTrip < v) || decide (v < e.underTrip)

/-- The sample lies beyond a floor trip threshold (R65, R151). -/
def beyondFloor (e : Effective) : Reading → Bool
  | .fault => false
  | .value v _ => decide (e.floorOver < v) || decide (v < e.floorUnder)

/-- The persistence rule: count to 15 or clear, with the tripped mark (R64). -/
def countSample (c : Channel) (beyond : Bool) : Channel :=
  if beyond then { c with counter := min 15 (c.counter + 1) }
  else { c with counter := 0, tripped := false }

/-- The value a limit trip carries: absent for a sensor fault (R65). -/
def tripValue : Reading → Option Int
  | .fault => none
  | .value v _ => some v

/-- The profile of the current sweep record, or the active one when no sweep is in progress (R62). -/
def sweepProfile (s : State) : Fin 4 :=
  match s.sweep.record with
  | some r => r.profile
  | none => s.evaluator.profile

/-- The generation of the current sweep record, or the live one (R62). -/
def sweepGeneration (s : State) : Word :=
  match s.sweep.record with
  | some r => r.generation
  | none => (live s).generation

/-- One channel of a sweep answer: correction, record, warn, persistence and trip rules (R62 to R65). A channel that is not
evaluated is discarded (R49). -/
def evaluateChannel (p c : Nat) (code : Half) (s : State) : State :=
  let i := channelIndex p c
  if !evaluated (live s) i then s
  else
    let e := effective (live s) (sweepProfile s) i
    let old := channelAt s i
    let reading := readingOf (live s) i code
    let rec1 := storeReading old reading (rawCode i code) (.sweep s.sweep.number)
    let s := raiseNewFault old.status reading s
    let warn := match reading with
      | .fault => rec1.warn
      | .value v _ => warnAfter rec1.warn v e.overWarn e.underWarn e.hyst
    let s := if warnRaises rec1.warn warn then raise .limitWarn s else s
    let rec2 := countSample { rec1 with warn := warn } (beyondTrip e reading)
    let trips := decide (e.persist ≤ rec2.counter) && !rec2.tripped
    let s := setChannel i { rec2 with tripped := rec2.tripped || trips } s
    if trips then
      raise .limitTrip <|
        takeOutsideTrip
          { cause := if beyondFloor e reading then .limitFloor else .limitProfile
            position := some p
            channel := some c
            value := tripValue reading
            stamp := .sweep s.sweep.number
            generation := sweepGeneration s
            profile := sweepProfile s } s
    else s

/-- The codes of an answer's payload, two bytes each. -/
def codesOf (n : Nat) (payload : List Byte) : List Half := (List.range n).map fun k => halfAt payload (2 * k)

/-- The channels of a read kind: first channel and number (R62). -/
def channelsOf : ReadKind → Nat × Nat
  | .cells => (0, 16)
  | .aux => (16, 4)
  | .sense => (0, 0)

/-- Apply a channel operation to each code of an answer, in channel order (R62). -/
def eachChannel (f : Nat → Nat → Half → State → State) (p : Nat) (kind : ReadKind) (payload : List Byte)
    (s : State) : State :=
  let (first, n) := channelsOf kind
  ((codesOf n payload).zipIdx first).foldl (fun s ch => f p ch.2 ch.1 s) s

/-! ### Mirrors (R72, R73) -/

/-- A channel in a mirror: value and status byte; a channel that is not evaluated shows zeros (R72). -/
def mirrorChannel (s : State) (i : Nat) : List Byte :=
  if evaluated (live s) i then
    let c := channelAt s i
    halfBytes (BitVec.ofInt 16 c.value) ++ [statusByte c]
  else [0, 0, 0]

/-- A mirror of `n` channels from channel `first` of a position (10.3). -/
def mirrorPayload (p : Nat) (kindByte : Byte) (first n : Nat) (s : State) : List Byte :=
  [byteOf p, kindByte] ++ wordBytes s.sweep.number ++
    ((List.range' first n).map fun c => mirrorChannel s (channelIndex p c)).flatten

/-- The mirror of a CELLS or AUX answer is formed and offered when mirroring is enabled, the first half first (R72, R73). -/
def mirrorAnswer (p : Nat) (kind : ReadKind) (s : State) : State :=
  if !mirrorEnabled (live s) then s
  else match kind with
    | .cells =>
      let s := offerMirror (mirrorPayload p 0 0 8 s) s
      offerMirror (mirrorPayload p 0x80 8 8 s) s
    | .aux => offerMirror (mirrorPayload p 1 16 4 s) s
    | .sense => s

/-- A CELLS or AUX answer of the sweep is evaluated whole and mirrored (R62, R72). -/
def evaluateAnswer (p : Nat) (kind : ReadKind) (payload : List Byte) (s : State) : State :=
  mirrorAnswer p kind (eachChannel evaluateChannel p kind payload s)

/-! ### The pack sense record (R68, R69) -/

/-- The record takes a SENSE answer: FRESH, or STALE for a capture answer while the position is LOST (R68, R69). -/
def updatePack (fromCapture : Bool) (stamp : Stamp) (lost : Bool) (payload : List Byte) (s : State) : State :=
  { s with
    evaluator.pack :=
      { vPack := halfAt payload 0
        vLink := halfAt payload 2
        iPack := halfAt payload 4
        trigger := payload.getD 6 0
        fromCapture := fromCapture
        stamp := stamp
        status := if fromCapture && lost then .stale else .fresh } }

/-- The trigger byte matches the low byte of the current sweep number (R69). -/
def matchesSweep (payload : List Byte) (s : State) : Bool :=
  payload.getD 6 0 == s.sweep.number.extractLsb' 0 8

/-- The MIRROR of a SENSE answer (10.3). -/
def senseMirror (p : Nat) (payload : List Byte) (s : State) : List Byte :=
  [byteOf p, 2] ++ wordBytes s.sweep.number ++ payload.take 7 ++ [bitAt (matchesSweep payload s) 0]

/-- A SENSE answer of the sweep: pack sense record, matched V_PACK, the Sequencer's judging, mirror (R69, R72). -/
def evaluateSense (p : Nat) (payload : List Byte) (s : State) : State :=
  let s := updatePack false (.sweep s.sweep.number) (isLost s p) payload s
  let s := if matchesSweep payload s then { s with evaluator.matchedVPack := some (halfAt payload 0) } else s
  let s := judgeRecord s
  if mirrorEnabled (live s) then offerMirror (senseMirror p payload s) s else s

/-! ### Sweep beginnings, LOST and activations -/

/-- The status of a channel as a sweep begins: FRESH becomes HELD (R60, R69). -/
def heldStatus : Status → Status
  | .fresh => .held
  | .none => .none
  | .held => .held
  | .stale => .stale
  | .fault => .fault

/-- A sweep begins: FRESH records become HELD and the matched V_PACK is forgotten (R6 step 6, R60, R69). -/
def holdRecords (s : State) : State :=
  { s with
    evaluator.channels := remap (fun _ c => { c with status := heldStatus c.status }) s.evaluator.channels
    evaluator.pack.status := heldStatus s.evaluator.pack.status
    evaluator.matchedVPack := none }

/-- A status as its position becomes LOST: all but NONE become STALE (R60). -/
def staleStatus : Status → Status
  | .none => .none
  | .fresh | .held | .stale | .fault => .stale

/-- A position becomes LOST: its channels, and for the PACK_SENSE position the pack sense record, become STALE (R36, R60, R69). -/
def markStale (p : Nat) (s : State) : State :=
  { s with
    evaluator.channels :=
      remap (fun i c => if positionOf i = p then { c with status := staleStatus c.status } else c)
        s.evaluator.channels
    evaluator.pack.status :=
      if packPosition (live s) = some p then staleStatus s.evaluator.pack.status
      else s.evaluator.pack.status }

/-- A new image is live: channels evaluated under the old image and not under the new get the empty record (R50). -/
def emptyUnevaluated (old : Image) (s : State) : State :=
  { s with
    evaluator.channels :=
      remap (fun i c => if evaluated old i && !evaluated (live s) i then Channel.empty else c)
        s.evaluator.channels }

/-! ### The sum check (R70, R71) -/

/-- The indices of the evaluated cell channels. -/
def cellIndices (img : Image) : List Nat :=
  (List.range 480).filter fun i => !isAux (channelOf i) && evaluated img i

/-- Every evaluated cell channel is FRESH with the stamp of the ending sweep (R70). -/
def allCellsFresh (s : State) : Bool :=
  (cellIndices (live s)).all fun i =>
    let c := channelAt s i
    c.status == .fresh && c.stamp == .sweep s.sweep.number

/-- The sum of the corrected values of the evaluated cell channels in 20 mV units, halves up (R71). -/
def cellSum20 (s : State) : Int :=
  (((cellIndices (live s)).foldl (fun n i => n + (channelAt s i).value) 0) + 100) / 200

/-- The sum check at the end of a sweep (R70, R71). -/
def sumCheck (s : State) : State :=
  match s.evaluator.matchedVPack with
  | none => s
  | some v =>
    if allCellsFresh s then
      let s := markSweep (fun f => { f with sumChecked := true }) s
      if (live s).sweepHeader.sumTolerance.toNat < (cellSum20 s - (v.toNat : Int)).natAbs then
        raise .sumMismatch (markSweep (fun f => { f with sumMismatch := true }) s)
      else s
    else s

/-! ### Watch answers (R67) and their judging (R147, R150, R151) -/

/-- One channel of a watch answer is written with the WATCH stamp and without judging (R67). -/
def storeWatchChannel (p c : Nat) (code : Half) (s : State) : State :=
  let i := channelIndex p c
  if !evaluated (live s) i then s
  else
    let old := channelAt s i
    let reading := readingOf (live s) i code
    setChannel i (storeReading old reading (rawCode i code) (.watch s.power.watchCount))
      (raiseNewFault old.status reading s)

/-- The watch thresholds of a channel, drawn in by the floor: over, under (R147). -/
def watchThresholds (img : Image) (i : Nat) : Int × Int :=
  let f := floorRecord img (classOf (cellEntry img i))
  let w := img.watch
  if isAux (channelOf i) then (min w.ot.toInt f.otTrip.toInt, max w.ut.toInt f.utTrip.toInt)
  else (min (w.ov.toNat : Int) f.ovTrip.toNat, max (w.uv.toNat : Int) f.uvTrip.toNat)

/-- The record just written lies beyond the watch thresholds, or is a sensor fault (R147). -/
def beyondWatch (img : Image) (i : Nat) (c : Channel) : Bool :=
  let (above, under) := watchThresholds img i
  c.status == .fault || decide (above < c.value) || decide (c.value < under)

/-- The record just written lies beyond a floor trip threshold of the class and is no sensor fault (R151). -/
def watchBeyondFloor (img : Image) (i : Nat) (c : Channel) : Bool :=
  c.status != .fault && beyondFloor (effective img 0 i) (.value c.value c.clamped)

/-- The watch persistence counter of a channel index. -/
def watchCounter (s : State) (i : Nat) : Nat := look s.power.persistence 0 i

/-- Judge one channel of a watch answer from its record: count, and raise a trip when the counter reaches the live watch
persistence. The Bool says whether any channel of the answer has tripped (R150 steps 2 and 3, R151). -/
def judgeWatchChannel (p c : Nat) (acc : Bool × State) : Bool × State :=
  let s := acc.2
  let i := channelIndex p c
  if !evaluated (live s) i then acc
  else
    let ch := channelAt s i
    let before := watchCounter s i
    let count := if beyondWatch (live s) i ch then min 3 (before + 1) else 0
    let s := { s with power.persistence := put s.power.persistence i count }
    let limit := (live s).watch.persistence.toNat
    if before < limit ∧ limit ≤ count then
      let t : Trip :=
        { cause := if watchBeyondFloor (live s) i ch then .limitFloor else .watchLimit
          position := some p
          channel := some c
          value := some ch.value
          stamp := .watch s.power.watchCount
          generation := (live s).generation
          profile := s.evaluator.profile }
      (true, raise .limitTrip (takeOutsideTrip t s))
    else (acc.1, s)

/-- Judge the channels of a watch answer in channel order (R150). -/
def judgeWatch (p : Nat) (kind : ReadKind) (s : State) : Bool × State :=
  let (first, n) := channelsOf kind
  (List.range' first n).foldl (fun acc c => judgeWatchChannel p c acc) (false, s)

end Sys2Proof.Machine
end

