-- ==== Sys2Proof/Machine/Activation.lean ====
section
/-! DEFINITION. The swap that ends an activation, with what the blocks do about it, and the pending profile (R2, R9, R27, R38, R50,
R53, R179). -/

namespace Sys2Proof.Machine

/-- Every rotation pointer at the first position of its slot's rotating range (R16). -/
def freshRotation (img : Image) : Vector Nat 16 := remap (fun _ g => g.rotFirst.toNat) img.slots

/-- The class of a competing requester is HIGH in a Chain Map header (10.5). -/
def classHigh (h : ChainHeader) : Requester → Bool
  | .forward => h.classes.getLsbD 0
  | .sweep => h.classes.getLsbD 2
  | .capture => h.classes.getLsbD 4
  | .watch => h.classes.getLsbD 6
  | .enumerate => false

/-- The hold setting of a competing requester (10.5). -/
def holdOn (h : ChainHeader) : Requester → Bool
  | .forward => h.classes.getLsbD 1
  | .sweep => h.classes.getLsbD 3
  | .capture => h.classes.getLsbD 5
  | .watch => h.classes.getLsbD 7
  | .enumerate => false

/-- The competing requesters in round-robin order (section 2.5). -/
def competitors : List Requester := [.forward, .sweep, .capture, .watch]

/-- H, the number of competing requesters whose class is HIGH (R45). -/
def highClasses (h : ChainHeader) : Nat := (competitors.filter (classHigh h)).length

/-- The count of HIGH grants under a new Chain Map: when the new H is at or below it, it is set to H and a LOW turn falls due (R27). -/
def reclassArbiter (s : State) : State :=
  let h := highClasses (live s).chainHeader
  if h ≤ s.arbiter.highCount then { s with arbiter.highCount := h, arbiter.lowTurnDue := true } else s

/-- An enumeration record matches a Chain Map (R42). -/
def enumMatches (r : EnumRecord) (img : Image) : Bool :=
  !r.faulty && r.count == (allPositions.filter fun p => positionKind img p != 0).length &&
    (List.range r.count).all fun k => r.kinds.getD k 0 == positionKind img (k + 1)

/-- A new Chain Map is live: ABSENT positions lose their miss counts and LOST marks, and a NUMBERED or MISMATCH chain is judged
again (R38). -/
def rejudgeChain (s : State) : State :=
  let img := live s
  let s :=
    { s with
      chain.misses := remap (fun i n => if positionKind img (i + 1) = 0 then 0 else n) s.chain.misses
      chain.lost := remap (fun i b => if positionKind img (i + 1) = 0 then false else b) s.chain.lost }
  match s.chain.state with
  | .numbered | .mismatch =>
    { s with chain.state := if enumMatches s.chain.enumRecord img then .numbered else .mismatch }
  | .unnumbered | .numbering => s

/-- The stage and everything of the update record that lives with it are cleared (R165). -/
def discardStage (s : State) : State :=
  { s with
    update.stage := none
    update.window := none
    update.openWrite := none
    update.tag := none
    update.target := none
    update.commit := none
    update.commitTampered := false }

/-- A result that carries no rejected entry (R165). -/
def setResult (r : UpdateResult) (s : State) : State :=
  { s with update.lastResult := r, update.rejected := none }

/-- The swap of an ARMED activation: the committed image becomes live, and the blocks act on it (R2, R9, R27, R38, R50, R179). -/
def swapImage (s : State) : State :=
  match s.update.state, s.update.stage, s.update.commit with
  | .armed, some g, some img =>
    let old := live s
    let s := retick { s with tables.live := img, tables.liveSlot := s.update.target }
    let s := discardStage s
    let s := setResult .activated { s with update.state := .idle }
    let s := raise .updateResult s
    let s := if holds g.set .sweep then { s with sweep.rotation := freshRotation img } else s
    let s := if holds g.set .chainMap then reclassArbiter (rejudgeChain s) else s
    emptyUnevaluated old s
  | _, _, _ => s

/-- The pending profile becomes active (R53). -/
def applyProfile (s : State) : State :=
  match s.evaluator.pendingProfile with
  | none => s
  | some p => { s with evaluator.profile := p, evaluator.pendingProfile := none }

/-- The pending changes take effect, the activation first (R9). -/
def applyPending (s : State) : State := applyProfile (swapImage s)

/-- A close-pending mark and an ARMED activation touching the safety set meet: R103 allows either order. -/
def swapContended (s : State) : Bool :=
  s.sequencer.closePending && decide (s.update.state = .armed) && safetyActivation s

/-- The pending changes take effect at an instant at which a switch point is offered. The changes come first, but for a contended
swap, where the order is a free choice (R9, R22, R103, log 5). -/
def pendingThenOffer (s : State) : State :=
  if swapContended s then
    let (offerFirst, s) := takeChoice s
    if offerFirst then applyPending (switchPoint s) else switchPoint (applyPending s)
  else switchPoint (applyPending s)

end Sys2Proof.Machine
end

