-- ==== Sys2Proof/Machine/Sweep.lean ====
section
/-! DEFINITION. The Sweep Engine's shared operations (Chapter 1): boundaries, slots, the read list and the trigger list. -/

namespace Sys2Proof.Machine

/-! ### The quiet window (R13) -/

/-- A tick lies in QS to QE of an enabled quiet window. -/
def inQuietWindow (img : Image) (tick : Nat) : Bool :=
  quietEnabled img && decide (img.sweepHeader.quietStart.toNat ≤ tick) &&
    decide (tick ≤ img.sweepHeader.quietEnd.toNat)

/-! ### Slots (R10 to R17) -/

/-- The slot executes in the sweep of this number: the number is divisible by its divider (R10). -/
def executesIn (g : SweepSlot) (number : Word) : Bool := number.toNat % g.divider.toNat == 0

/-- Add an entry in table order, that is by slot (R11, R13). -/
def insertTrigger (e : TriggerEntry) : List TriggerEntry → List TriggerEntry
  | [] => [e]
  | t :: ts => if e.slot < t.slot then e :: t :: ts else t :: insertTrigger e ts

/-- Add a slot in table order. -/
def insertSlot (i : Nat) : List Nat → List Nat
  | [] => [i]
  | j :: js => if i < j then i :: j :: js else if i = j then j :: js else j :: insertSlot i js

/-- A CONVERT falls due: its trigger is held while the read list is not empty, and ready otherwise (R11, R12). -/
def convertDue (i : Nat) (s : State) : State :=
  let heldNow := !s.sweep.reads.isEmpty
  let s := { s with sweep.triggers := insertTrigger { slot := i, held := heldNow } s.sweep.triggers }
  if heldNow then markSweep (fun f => { f with convertHeld := true }) s else s

/-- Add a read at the tail unless the list holds the same pair (R17). -/
def addRead (s : State) (e : ReadEntry) : State :=
  if e ∈ s.sweep.reads then s else { s with sweep.reads := s.sweep.reads ++ [e] }

/-- A SENSE slot acts (R14). -/
def senseDue (s : State) : State :=
  match packPosition (live s) with
  | none => s
  | some p => addRead s { position := p, kind := .sense }

/-- The positions of a fixed range, none when first is 0 (R15). -/
def fixedPositions (g : SweepSlot) : List Nat :=
  if g.fixedFirst = 0 then []
  else List.range' g.fixedFirst.toNat (g.fixedLast.toNat + 1 - g.fixedFirst.toNat)

/-- The position `k` places on from `q` in the rotating range, wrapping from last to first (R15, R16). -/
def rotate (g : SweepSlot) (q k : Nat) : Nat :=
  let first := g.rotFirst.toNat
  first + (q - first + k) % (g.rotLast.toNat + 1 - first)

/-- The positions of the rotating part from pointer `q` (R15). -/
def rotatingPositions (g : SweepSlot) (q : Nat) : List Nat :=
  (List.range g.rotCount.toNat).map (rotate g q)

/-- A READ_CELLS or READ_AUX slot acts: reads for its CELL_MONITOR positions, then its pointer moves (R15, R16). -/
def readDue (i : Nat) (g : SweepSlot) (kind : ReadKind) (s : State) : State :=
  let q := look s.sweep.rotation 0 i
  let wanted := (fixedPositions g ++ rotatingPositions g q).filter (isMonitor (live s))
  let s := wanted.foldl (fun s p => addRead s { position := p, kind := kind }) s
  if g.rotCount = 0 then s
  else { s with sweep.rotation := put s.sweep.rotation i (rotate g q g.rotCount.toNat) }

/-- A CONVERT or SENSE slot is deferred to QE + 1 (R13). -/
def deferSlot (i : Nat) (s : State) : State :=
  markSweep (fun f => { f with deferred := true })
    { s with sweep.deferredSlots := insertSlot i s.sweep.deferredSlots }

/-- A slot falls due at its offset and acts by its kind, or is deferred by the quiet window (R10, R13). -/
def actSlot (i : Nat) (s : State) : State :=
  let g := sweepSlot (live s) i
  let quiet := inQuietWindow (live s) g.offset.toNat
  if g.kind = 0 then if quiet then deferSlot i s else convertDue i s
  else if g.kind = 1 then if quiet then deferSlot i s else senseDue s
  else if g.kind = 2 then readDue i g .cells s
  else if g.kind = 3 then readDue i g .aux s
  else s

/-- An offset lies behind the quiet window of this sweep while the window is not over: everything deferred to QE + 1 acts before a slot
there, one at QE + 1 itself among them (R13). -/
def behindQuiet (s : State) (offset : Nat) : Bool :=
  quietEnabled (live s) && decide (s.sweep.quiet ≠ .after) && decide ((live s).sweepHeader.quietEnd.toNat < offset)

/-- The sweep counter has reached the offset of the slot that comes next in the table, and no deferred slot comes before it (R10, R13,
log 32). -/
def slotReached (s : State) : Bool :=
  let offset := (sweepSlot (live s) s.sweep.slotsPassed).offset.toNat
  sweeping s && decide (s.sweep.slotsPassed < slotCount (live s)) && decide (offset ≤ s.sweep.counter) &&
    !behindQuiet s offset

/-- The slot that comes next is passed: it acts when its divider divides the sweep number (R10). -/
def passSlot (s : State) : State :=
  let i := s.sweep.slotsPassed
  let s := { s with sweep.slotsPassed := i + 1 }
  if executesIn (sweepSlot (live s) i) s.sweep.number then actSlot i s else s

/-- A deferred slot acts at QE + 1: a CONVERT is judged against the read list as it stands, a SENSE adds its read (R13, log 12). -/
def actDeferred (s : State) (i : Nat) : State :=
  if (sweepSlot (live s) i).kind = 1 then senseDue s else convertDue i s

/-! ### What the SWEEP requester has to send (R11, R12, R18) -/

/-- The first ready trigger in table order. -/
def readyTrigger (s : State) : Option TriggerEntry := s.sweep.triggers.find? fun t => !t.held

/-- What a grant to SWEEP serves now. -/
inductive SweepWork where
  | trigger (slot : Nat)
  | read (e : ReadEntry)
  deriving DecidableEq, Repr

/-- In the quiet window neither a trigger nor a SENSE read is started: the first other read is served (R13, log 13). Otherwise the
oldest ready trigger, else the head of the read list (R18). -/
def sweepWork (s : State) : Option SweepWork :=
  if sweeping s && inQuietWindow (live s) s.sweep.counter then
    (s.sweep.reads.find? fun e => e.kind != .sense).map .read
  else
    match readyTrigger s with
    | some t => some (.trigger t.slot)
    | none => s.sweep.reads.head?.map .read

/-- When the read list is empty every held trigger becomes ready (R12). -/
def readyTriggers (s : State) : State :=
  if s.sweep.reads.isEmpty then
    { s with sweep.triggers := s.sweep.triggers.map fun t => { t with held := false } }
  else s

/-- What is served leaves its list (R11, R17). -/
def takeSweepWork (w : SweepWork) (s : State) : State :=
  match w with
  | .trigger i => { s with sweep.triggers := s.sweep.triggers.filter fun t => t.slot != i }
  | .read e => readyTriggers { s with sweep.reads := s.sweep.reads.erase e }

/-! ### Boundaries (R6, R7, R9, R21, R22) -/

/-- No sweep can begin: the chain is not NUMBERED or the table has no slots (R6 step 2). -/
def cannotSweep (s : State) : Bool := decide (s.chain.state ≠ .numbered) || slotCount (live s) == 0

/-- The engine enters STOPPED: pending changes take effect and a switch point is offered (R9, R22). -/
def enterStopped (s : State) : State := pendingThenOffer { s with sweep.engine := .stopped }

/-- A switch point is offered at this sweep boundary: quiet enable is off in the header of the sweep that ends, in which a request was
made (R21), or in the header that the pending changes make live (R22), or the engine enters STOPPED instead (R22, log 27). -/
def boundaryOffered (s : State) : Bool :=
  !quietEnabled (live s) || !quietEnabled (live (applyPending s)) || cannotSweep (applyPending s)

/-- The instant of a sweep boundary (R6 step 1): the pending changes take effect, and a switch point is offered when one is. It comes
before the sweep number rises, so a close WITHDRAWN here records the number of the sweep before (DESIGN CHOICE, log 37). -/
def atBoundary (s : State) : State := if boundaryOffered s then pendingThenOffer s else applyPending s

/-- The record of the sweep that begins (R6 step 5, R8). -/
def openRecord (syncLost : Bool) (s : State) : SweepRecord where
  number := s.sweep.number
  generation := (live s).generation
  profile := s.evaluator.profile
  flags := { SweepFlags.none with syncLost := syncLost }

/-- Steps 3 to 7 of the beginning of a sweep: number, counter, record, HELD, and a slot with offset 0 (R6). -/
def startSweep (syncLost : Bool) (s : State) : State :=
  let s :=
    { s with
      sweep.engine := .running
      sweep.number := s.sweep.number + 1
      sweep.counter := 0
      sweep.slotsPassed := 0
      sweep.deferredSlots := []
      sweep.quiet := .before }
  let s := { s with sweep.record := some (openRecord syncLost s) }
  let s := holdRecords s
  if slotReached s then passSlot s else s

/-- A sweep begins (R6), its switch point before the number rises (log 37). -/
def beginSweep (syncLost : Bool) (s : State) : State :=
  let s := atBoundary s
  if cannotSweep s then { s with sweep.engine := .stopped } else startSweep syncLost s

/-- A sweep read is in flight whose outcome would be handed on (R20). -/
def sweepReadInFlight (s : State) : Bool :=
  match s.chain.inFlight with
  | some t => t.requester == .sweep && t.target.isSome && !t.discard
  | none => false

/-- Abandon the unfinished work of the sweep: OVERRUN and SWEEP_OVERRUN when there was any (R20). -/
def abandonWork (s : State) : State :=
  let any := !s.sweep.reads.isEmpty || !s.sweep.triggers.isEmpty || sweepReadInFlight s
  let inFlight :=
    if sweepReadInFlight s then s.chain.inFlight.map fun t => { t with discard := true }
    else s.chain.inFlight
  let s := { s with sweep.reads := [], sweep.triggers := [], chain.inFlight := inFlight }
  if any then raise .sweepOverrun (markSweep (fun f => { f with overrun := true }) s) else s

/-- The record is completed and kept (R7 step 3). -/
def completeRecord (s : State) : State :=
  match s.sweep.record with
  | none => s
  | some r => { s with sweep.last := some r, sweep.record := none }

/-- The end of a sweep and the engine's next state (R7). -/
def endSweep (s : State) : State :=
  let wasRunning := decide (s.sweep.engine = .running)
  let locked := lockedMode (live s)
  let s := completeRecord (sumCheck (abandonWork s))
  if !wasRunning then enterStopped s
  else if locked then switchPoint { s with sweep.engine := .waitingSync, sweep.waitCount := 0 }
  else beginSweep false s

end Sys2Proof.Machine
end

