-- ==== Sys2Proof/Machine/Arbiter.lean ====
section
/-! DEFINITION. The Chain Arbiter: who is raised, the grant decision, and what a grant sends (sections 2.2 and 2.5). -/

namespace Sys2Proof.Machine

/-! ### Requesters (R43, R44) -/

/-- The requester is raised (R43, R126, R149). -/
def raised (s : State) : Requester → Bool
  | .forward => !s.link.forward.isEmpty
  | .sweep => (sweepWork s).isSome
  | .capture => captureRaised s
  | .watch => !s.power.frames.isEmpty && s.power.settleTimer.isNone
  | .enumerate => decide (s.chain.state = .numbering)

/-- The requester is masked by CHAIN-GATE (R46). -/
def masked (s : State) : Requester → Bool
  | .forward => s.arbiter.maskForward
  | .sweep => s.arbiter.maskSweep
  | .capture | .watch | .enumerate => false

/-- The requester may be granted when the chain is free (R44). -/
def grantable (s : State) (q : Requester) : Bool := raised s q && !masked s q

/-- The competing requesters in the order of a search that begins after the pointer (R45). -/
def searchOrder : Option Requester → List Requester
  | some .forward => [.sweep, .capture, .watch, .forward]
  | some .sweep => [.capture, .watch, .forward, .sweep]
  | some .capture => [.watch, .forward, .sweep, .capture]
  | none | some .watch | some .enumerate => [.forward, .sweep, .capture, .watch]

/-- The class of a requester in the live Chain Map is HIGH. -/
def isHigh (s : State) (q : Requester) : Bool := classHigh (live s).chainHeader q

/-- The requester last granted has hold on and may be granted again (R45 step 1). -/
def heldGrant (s : State) : Option Requester :=
  match s.arbiter.lastGranted with
  | none => none
  | some q => if holdOn (live s).chainHeader q && grantable s q then some q else none

/-- The first LOW requester after the LOW pointer that may be granted (R45 steps 2 and 4). -/
def lowGrant (s : State) : Option Requester :=
  (searchOrder s.arbiter.lowPointer).find? fun q => !isHigh s q && grantable s q

/-- The first HIGH requester after the HIGH pointer that may be granted (R45 step 3). -/
def highGrant (s : State) : Option Requester :=
  (searchOrder s.arbiter.highPointer).find? fun q => isHigh s q && grantable s q

/-- The choice of R45. -/
def fourSteps (s : State) : Option Requester :=
  match heldGrant s with
  | some q => some q
  | none =>
    if s.arbiter.lowTurnDue && (lowGrant s).isSome then lowGrant s
    else match highGrant s with
      | some q => some q
      | none => lowGrant s

/-- The choice of a grant decision: ENUMERATE alone while NUMBERING, R45 otherwise (R44). -/
def chooseGrant (s : State) : Option Requester :=
  if s.chain.state = .numbering then some .enumerate else fourSteps s

/-- The arbiter's record of a grant: last granted, pointer, count and low-turn-due mark; a grant to ENUMERATE leaves them (R44, R45). -/
def recordGrant (q : Requester) (s : State) : State :=
  if q = .enumerate then s
  else if isHigh s q then
    let h := highClasses (live s).chainHeader
    let n := min h (s.arbiter.highCount + 1)
    { s with
      arbiter.lastGranted := some q
      arbiter.highPointer := some q
      arbiter.highCount := n
      arbiter.lowTurnDue := s.arbiter.lowTurnDue || decide (h ≤ n) }
  else
    { s with
      arbiter.lastGranted := some q
      arbiter.lowPointer := some q
      arbiter.highCount := 0
      arbiter.lowTurnDue := false }

/-! ### Frames down the chain (R29, 10.1, 10.4) -/

/-- The ORIGIN code of a frame formed for a requester (R207). -/
def originCode : Requester → Byte
  | .sweep => 1
  | .capture => 2
  | .watch => 3
  | .forward | .enumerate => 0

/-- The kind code of a chain frame of each read, and of the answer it expects (10.1). -/
def readFrameKind : ReadKind → Byte
  | .cells => 0x09
  | .aux => 0x0A
  | .sense => 0x0B

/-- The kind code of the answer to a read (10.1). -/
def answerKind : ReadKind → Byte
  | .cells => 0x11
  | .aux => 0x12
  | .sense => 0x13

/-- Begin a broadcast transaction (R28). -/
def startBroadcast (q : Requester) (kind : Byte) (payload : List Byte) (s : State) : State :=
  { s with
    chain.inFlight := some
      { requester := q, frame := { address := 31, kind := kind, flags := originCode q, payload := payload },
        target := none, expect := none, window := (live s).chainHeader.window, discard := false,
        context := none } }

/-- Begin an addressed transaction with a frame the part forms (R28). -/
def startAddressed (q : Requester) (p : Nat) (kind : Byte) (payload : List Byte) (expect : Byte)
    (context : Option Half) (s : State) : State :=
  { s with
    chain.inFlight := some
      { requester := q, frame := { address := byteOf p, kind := kind, flags := originCode q, payload := payload },
        target := some p, expect := some expect, window := (live s).chainHeader.window,
        discard := false, context := context } }

/-- Begin a read of a position. -/
def startRead (q : Requester) (p : Nat) (k : ReadKind) (context : Option Half) (s : State) : State :=
  startAddressed q p (readFrameKind k) [] (answerKind k) context s

/-- Begin a forwarded transaction: the frame goes as received (R29, R191). -/
def startForward (f : Frame) (s : State) : State :=
  { s with
    chain.inFlight := some
      { requester := .forward, frame := f, target := some f.address.toNat, expect := none,
        window := (live s).chainHeader.window, discard := false, context := none } }

/-! ### What each grant does -/

/-- A grant to FORWARD: the head of the Forward Queue (R191). -/
def grantForward (s : State) : State :=
  match s.link.forward with
  | [] => s
  | f :: rest => startForward f { s with link.forward := rest }

/-- A grant to SWEEP: the oldest ready trigger, else a read (R11, R17, R18). -/
def grantSweep (s : State) : State :=
  match sweepWork s with
  | none => s
  | some (.trigger i) =>
    startBroadcast .sweep 0x08 [s.sweep.number.extractLsb' 0 8] (takeSweepWork (.trigger i) s)
  | some (.read e) => startRead .sweep e.position e.kind none (takeSweepWork (.read e) s)

/-- A grant to CAPTURE: the offset is taken, and the step is read, or recorded MISSED at once (R127, R128). -/
def grantCapture (s : State) : State :=
  match s.capture.stack with
  | [] => s
  | c :: rest =>
    let c := { c with flightStep := c.nextStep - 1, flightOffset := offsetOf c s }
    match packPosition (live s) with
    | some p =>
      if s.chain.state = .numbered then
        startRead .capture p .sense (some c.id)
          { s with capture.stack := { c with step := .inFlight } :: rest }
      else finishStep c.id (recordStep c.id none { s with capture.stack := c :: rest })
    | none => finishStep c.id (recordStep c.id none { s with capture.stack := c :: rest })

/-- The transaction of a frame of the Power Manager (R149). -/
def startWatch (f : WatchFrame) (s : State) : State :=
  match f with
  | .chainWake => startBroadcast .watch 0x0E [] s
  | .trigger => startBroadcast .watch 0x08 [s.power.watchCount.extractLsb' 0 8] s
  | .readCells p => startRead .watch p .cells none s
  | .readAux p => startRead .watch p .aux none s
  | .chainSleep => startBroadcast .watch 0x0D [] s

/-- A grant to WATCH: the Power Manager's next frame (R43). -/
def grantWatch (s : State) : State :=
  match s.power.frames with
  | [] => s
  | f :: rest => startWatch f { s with power.frames := rest }

/-- A grant to ENUMERATE: the release form of ASSIGN, then ASSIGN(k) (R41). -/
def grantEnumerate (s : State) : State :=
  if s.chain.enumNext = 0 then startBroadcast .enumerate 0x0C [0] s
  else startAddressed .enumerate s.chain.enumNext 0x0C [byteOf s.chain.enumNext] 0x14 none s

/-- The granted requester hands over its frame (R28, R43). -/
def grant (q : Requester) (s : State) : State :=
  let s := recordGrant q s
  match q with
  | .forward => grantForward s
  | .sweep => grantSweep s
  | .capture => grantCapture s
  | .watch => grantWatch s
  | .enumerate => grantEnumerate s

/-- The chain is free and its link powered: a grant decision can be made (R34, R44). -/
def chainFree (s : State) : Bool := s.chain.inFlight.isNone && s.chain.linkPowered

/-- The grant decisions of one instant: a capture step recorded MISSED at its grant leaves the chain free for the next decision
(R127). The bound covers every step that can be due at one instant. -/
def arbitrateN : Nat → State → State
  | 0, s => s
  | n + 1, s =>
    if chainFree s then
      match chooseGrant s with
      | none => s
      | some q => arbitrateN n (grant q s)
    else s

/-- The arbiter's decision at the end of a step that has raised a requester, freed the chain or cleared a mask (R44, log 4). -/
def arbitrate (s : State) : State := arbitrateN 16 s

end Sys2Proof.Machine
end

