-- ==== Sys2Proof/Machine/Power.lean ====
section
/-! DEFINITION. The Power Manager's shared operations (Chapter 7): the drain, deep sleep, the watch cycle, wake sources and waking. -/

namespace Sys2Proof.Machine

/-! ### Wake sources (R152 to R154) -/

/-- Every watch persistence counter and every watch no-answer count is 0 (R144, R154). -/
def clearWatchCounts (s : State) : State :=
  { s with power.persistence := Vector.replicate 480 0, power.noAnswer := Vector.replicate 24 0 }

/-- The entry to WAKING: a watch cycle in progress ends, its frames are dropped and the link stays as it is (R152, R154, log 21). -/
def enterWaking (s : State) : State :=
  let s := clearWatchCounts s
  { s with
    power.power := .wakingDark
    power.watchTimer := none
    power.settleTimer := none
    power.frames := []
    power.cycle := false
    power.cellsAnswered := false
    power.wakeKept := false }

/-- The first wake source of a sleep is the first cause (R153). -/
def noteCause (w : WakeSource) (s : State) : State :=
  match s.power.record.first with
  | none => { s with power.record.first := some w }
  | some _ => s

/-- A wake source is taken and acts by the power state (R152). -/
def takeWake (w : WakeSource) (s : State) : State :=
  match s.power.power with
  | .active | .wakingDark | .wakingLit => s
  | .drain | .chainSleep =>
    let s := noteCause w s
    { s with power.wakeKept := true }
  | .deepSleep =>
    let s := noteCause w s
    if s.power.cycle && s.chain.inFlight.isSome then { s with power.wakeKept := true }
    else enterWaking s

/-- The entry to ACTIVE from WAKING (R155, R156, R201). -/
def enterActive (s : State) : State :=
  let s := beginTick { s with power.power := .active }
  raise .wake (admitNotices (superviseFeedback s))

/-! ### The drain (R142, R143) -/

/-- The conditions that end the drain phase hold (R142). -/
def drained (s : State) : Bool :=
  s.link.upstream.isEmpty && decide (s.link.reserved = 0) && s.link.answerSlot.isNone &&
    s.link.forward.isEmpty &&
    (match s.chain.inFlight with
      | some t => t.requester != .forward
      | none => true)

/-- The drain phase ends: the port is unpowered and CHAIN_SLEEP is to be sent (R143). An exchange in progress goes on dark (log 24). -/
def endDrain (s : State) : State :=
  { s with
    power.power := .chainSleep
    power.drainTimer := none
    power.frames := [.chainSleep]
    link.exchange := s.link.exchange.map fun _ => .dark }

/-- The notice-owed mark of a channel whose NOTICE is discarded is set again when its request set is not empty (R201). -/
def reowe (urgent : Bool) (s : State) : Bool :=
  owed urgent s || (s.link.upstream.any (isNotice urgent) && requestSet s.notice urgent != 0)

/-- What the drain timer's expiry discards (R142, R193, R201). -/
def discardDrain (s : State) : State :=
  { s with
    notice.owedUrgent := reowe true s
    notice.owedRoutine := reowe false s
    link.upstream := []
    link.reserved := 0
    link.answerSlot := none
    link.forward := []
    chain.inFlight := s.chain.inFlight.map fun t =>
      if t.requester = .forward then { t with discard := true } else t }

/-! ### Deep sleep and the watch cycle (R144, R148, R149) -/

/-- The watch timer is started with the live interval; an interval of 0 starts none (R148). -/
def startWatchTimer (s : State) : State :=
  let interval := (live s).watch.interval.toNat
  { s with power.watchTimer := if interval = 0 then none else after s (seconds interval) }

/-- The entry to DEEP_SLEEP; a kept wake source begins WAKING at once (R144). -/
def enterDeepSleep (s : State) : State :=
  let s := startWatchTimer (clearWatchCounts s)
  let s := { s with power.power := .deepSleep, chain.linkPowered := false, power.sleepStart := s.now }
  if s.power.wakeKept then enterWaking s else s

/-- The positions of the watched range in range order (R146). -/
def watchRange (first last : Nat) : List Nat :=
  if first ≤ last then List.range' first (last + 1 - first)
  else List.range' first (25 - first) ++ List.range' 1 last

/-- The cell monitors among the watched positions (R149 step 4). -/
def watchedPositions (img : Image) : List Nat :=
  (watchRange img.watch.rangeFirst.toNat img.watch.rangeLast.toNat).filter (isMonitor img)

/-- The frames of a watch cycle (R149). -/
def cycleFrames (img : Image) : List WatchFrame :=
  [.chainWake, .trigger] ++
    ((watchedPositions img).map fun p => [WatchFrame.readCells p, WatchFrame.readAux p]).flatten ++
    [.chainSleep]

/-- A watch cycle begins (R148, R149). -/
def beginCycle (s : State) : State :=
  let n := halfOf (min 65535 (s.power.watchCount.toNat + 1))
  { s with
    power.watchTimer := none
    power.watchCount := n
    power.record.cycles := n
    power.cycle := true
    power.cellsAnswered := false
    power.frames := cycleFrames (live s)
    chain.linkPowered := true }

/-- The watch timer expires (R148). -/
def watchTimerDue (s : State) : State :=
  if s.chain.state = .numbered then beginCycle s else startWatchTimer s

/-- The end of the cycle's CHAIN_SLEEP (R149). -/
def endCycle (s : State) : State :=
  startWatchTimer { s with power.cycle := false, chain.linkPowered := false }

/-- A broadcast of the Power Manager has been sent: the settle after CHAIN_WAKE in a cycle or in WAKING, DEEP_SLEEP or the end of
the cycle after CHAIN_SLEEP, and a kept wake source ends the cycle (R144, R149, R152, R154). -/
def watchBroadcastEnd (kind : Byte) (s : State) : State :=
  if s.power.cycle && s.power.wakeKept then enterWaking s
  else if kind = 0x0E then
    if s.power.cycle || waking s then { s with power.settleTimer := after s (ms 2) } else s
  else if kind = 0x0D then
    if s.power.power = .chainSleep then enterDeepSleep s
    else if s.power.cycle then endCycle s
    else s
  else s

/-! ### Watch reads (R150, R151) -/

/-- The position's watch no-answer count. -/
def noAnswerCount (s : State) (p : Nat) : Nat := look s.power.noAnswer 0 (p - 1)

/-- At the position's READ_AUX the no-answer count is judged; reaching 2 takes WATCH_LOST (R151). -/
def judgeNoAnswer (p : Nat) (answered : Bool) (s : State) : State :=
  if s.power.cellsAnswered || answered then
    { s with power.noAnswer := put s.power.noAnswer (p - 1) 0 }
  else
    let n := min 2 (noAnswerCount s p + 1)
    let s := { s with power.noAnswer := put s.power.noAnswer (p - 1) n }
    if n = 2 then takeWake .watchLost s else s

/-- An ANSWERED watch read is written and judged, and a trip of it takes WATCH_LIMIT (R67, R150 steps 1 to 3, R151). -/
def watchAnswered (p : Nat) (kind : ReadKind) (payload : List Byte) (s : State) : State :=
  let s := eachChannel storeWatchChannel p kind payload s
  let (tripped, s) := judgeWatch p kind s
  if tripped then takeWake .watchLimit s else s

/-- The outcome of a watch read reaches the Power Manager (R150); `answer` is the payload of an ANSWERED read. A kept wake source
then ends the cycle (R152). -/
def watchReadEnd (p : Nat) (kind : ReadKind) (answer : Option (List Byte)) (s : State) : State :=
  let s := match kind with
    | .cells => { s with power.cellsAnswered := answer.isSome }
    | .aux | .sense => s
  let s := match answer with
    | some payload => watchAnswered p kind payload s
    | none => s
  let s := match kind with
    | .aux => judgeNoAnswer p answer.isSome s
    | .cells | .sense => s
  if s.power.cycle && s.power.wakeKept then enterWaking s else s

end Sys2Proof.Machine
end

