-- ==== Sys2Proof/Machine/ChainPort.lean ====
section
/-! DEFINITION. The Chain Port: the judging of answers, miss counts and LOST, the end of transactions, and the enumeration
(sections 2.2 to 2.4). -/

namespace Sys2Proof.Machine

/-! ### Judging an answer (R31) -/

/-- The payload length of an expected answer kind (10.1). -/
def answerLength (kind : Byte) : Nat :=
  if kind = 0x11 then 32 else if kind = 0x12 then 8 else if kind = 0x13 then 7 else 1

/-- A chain-side kind (R207). -/
def chainSide (kind : Byte) : Bool := 1 ≤ kind.toNat && kind.toNat ≤ 31

/-- The four tests of R31 on a complete answer of position `p` with the check it arrived with. -/
def goodAnswer (expect : Option Byte) (p : Nat) (f : Frame) (received : Half) : Bool :=
  check f.body == received && f.address == byteOf p &&
    match expect with
    | some k => f.kind == k && f.payload.length == answerLength k
    | none => chainSide f.kind

/-- The outcome of a complete answer (R31). -/
def judgeAnswer (expect : Option Byte) (p : Nat) (f : Frame) (received : Half) : Ending :=
  if goodAnswer expect p f received then .answered f else .badAnswer

/-! ### Miss counts and LOST (R35 to R37) -/

/-- The miss count of a position. -/
def missCount (s : State) (p : Nat) : Nat := look s.chain.misses 0 (p - 1)

/-- The miss count is 0 and LOST is clear (R37). -/
def clearMisses (p : Nat) (s : State) : State :=
  { s with chain.misses := put s.chain.misses (p - 1) 0, chain.lost := put s.chain.lost (p - 1) false }

/-- The position becomes LOST: STALE records, the MONITOR_LOST trip, the event (R36). -/
def becomeLost (p : Nat) (stamp : Stamp) (s : State) : State :=
  let s := markStale p { s with chain.lost := put s.chain.lost (p - 1) true }
  raise .monitorLost (takeOutsideTrip { plainTrip .monitorLost s with position := some p, stamp := stamp } s)

/-- A counted miss (R35, R36). -/
def countMiss (p : Nat) (stamp : Stamp) (s : State) : State :=
  let n := min 7 (missCount s p + 1)
  let s := { s with chain.misses := put s.chain.misses (p - 1) n }
  if !isLost s p && decide ((live s).chainHeader.lostThreshold.toNat ≤ n) then becomeLost p stamp s else s

/-- Miss counting applied to an outcome: of SWEEP and WATCH reads only (R32, R35). -/
def applyMiss (q : Requester) (p : Nat) (e : Ending) (s : State) : State :=
  match q with
  | .sweep =>
    match e with
    | .answered _ => clearMisses p s
    | .noAnswer | .badAnswer => countMiss p (.sweep s.sweep.number) s
  | .watch =>
    match e with
    | .answered _ => clearMisses p s
    | .noAnswer | .badAnswer => countMiss p (.watch s.power.watchCount) s
  | .forward | .capture | .enumerate => s

/-! ### Handing on (R32) -/

/-- The payload of an ANSWERED outcome. -/
def Ending.payload? : Ending → Option (List Byte)
  | .answered f => some f.payload
  | .noAnswer | .badAnswer => none

/-- The read that a request kind asks for. -/
def readOf (kind : Byte) : ReadKind := if kind = 0x09 then .cells else if kind = 0x0A then .aux else .sense

/-- The Frame Router makes a CHAIN_ANSWER (R192). -/
def handForward (p : Nat) (e : Ending) (s : State) : State := enqueueReserved (chainAnswer p e s) s

/-- The Sweep Engine passes an answer to the Sample Evaluator (R19). -/
def handSweep (p : Nat) (kind : ReadKind) (e : Ending) (s : State) : State :=
  match e.payload? with
  | none => s
  | some payload =>
    match kind with
    | .sense => evaluateSense p payload s
    | .cells | .aux => evaluateAnswer p kind payload s

/-- The step number of the context's step in flight. -/
def flightStepOf (id : Half) (s : State) : Nat :=
  match contextOf id s with
  | some c => c.flightStep
  | none => 0

/-- The Capture Unit takes the outcome of a step (R128). STALE is judged by the LOST mark of the position that was read, also when a
Chain Map has moved PACK_SENSE since the grant (R69; DESIGN CHOICE, log 38). -/
def handCapture (p : Nat) (id : Half) (e : Ending) (s : State) : State :=
  let s := recordStep id e.payload? s
  let s := match e.payload? with
    | none => s
    | some payload => judgeRecord (updatePack true (.capture id (flightStepOf id s)) (isLost s p) payload s)
  finishStep id s

/-- The enumeration ends and is judged (R42). -/
def endEnumeration (faulty : Bool) (s : State) : State :=
  let r : EnumRecord := { count := s.chain.enumKinds.length, kinds := s.chain.enumKinds, faulty := faulty }
  raise .chainResult
    { s with
      chain.enumRecord := r
      chain.state := if enumMatches r (live s) then .numbered else .mismatch }

/-- An ASSIGN(k) has ended (R41 steps 3 to 5). -/
def handEnumerate (k : Nat) (e : Ending) (s : State) : State :=
  match e with
  | .answered f =>
    let s := clearMisses k { s with chain.enumKinds := s.chain.enumKinds ++ [f.payload.getD 0 0] }
    if k = 24 then endEnumeration false s else { s with chain.enumNext := k + 1 }
  | .noAnswer => endEnumeration false s
  | .badAnswer => endEnumeration true s

/-- The outcome is handed to its receiver, unless it is to be discarded (R19, R32, R142). -/
def handOn (t : Transaction) (p : Nat) (e : Ending) (s : State) : State :=
  match t.requester with
  | .forward => if t.discard then s else handForward p e s
  | .sweep => if t.discard then s else handSweep p (readOf t.frame.kind) e s
  | .capture =>
    match t.context with
    | some id => handCapture p id e s
    | none => s
  | .watch => watchReadEnd p (readOf t.frame.kind) e.payload? s
  | .enumerate => handEnumerate p e s

/-- An addressed transaction ends: the chain is free, misses are counted, the outcome is handed on, and the next grant is made
(R28, R32, R44). -/
def finish (t : Transaction) (p : Nat) (e : Ending) (s : State) : State :=
  arbitrate (handOn t p e (applyMiss t.requester p e { s with chain.inFlight := none }))

/-- The addressed transaction in flight, which awaits an answer, with its position. -/
def awaiting (s : State) : Option (Transaction × Nat) :=
  match s.chain.inFlight with
  | none => none
  | some t => t.target.map fun p => (t, p)

/-- A broadcast has been sent whole: its requester learns it, and the next grant is made (R28, R32, R41, R44). -/
def broadcastEnd (t : Transaction) (s : State) : State :=
  let s := { s with chain.inFlight := none }
  let s := match t.requester with
    | .enumerate => { s with chain.enumNext := 1 }
    | .watch => watchBroadcastEnd t.frame.kind s
    | .forward | .sweep | .capture => s
  arbitrate s

/-! ### The commands of the chain -/

/-- BROADCAST_SENT (R28): the last byte of the broadcast in flight has been sent. Without one nothing ends (log 3). -/
def execBroadcastSent (s : State) : Host.Outcome State Fault Refusal :=
  match s.chain.inFlight with
  | none => .next s
  | some t =>
    match t.target with
    | none => .next (broadcastEnd t s)
    | some _ => .next s

/-- ANSWER_RECEIVED (R30, R31): a complete answer ends the transaction in flight. A frame that no transaction awaits, or that is not
whole, is a stray frame (R33). -/
def execAnswerReceived (rx : List Byte) (s : State) : Host.Outcome State Fault Refusal :=
  match awaiting s, wholeFrame? rx with
  | some (t, p), some (f, received) => .next (finish t p (judgeAnswer t.expect p f received) s)
  | _, _ => .next s

/-- RESPONSE_WINDOW_CLOSE (R30): NO_ANSWER when no byte has arrived, BAD_ANSWER when the answer is incomplete. -/
def execResponseWindowClose (begun : Bool) (s : State) : Host.Outcome State Fault Refusal :=
  match awaiting s with
  | some (t, p) => .next (finish t p (if begun then .badAnswer else .noAnswer) s)
  | none => .next s

/-- ANSWER_LENGTH_BAD (R30): a length field above 32 ends the transaction BAD_ANSWER. -/
def execAnswerLengthBad (length : Byte) (s : State) : Host.Outcome State Fault Refusal :=
  match awaiting s with
  | some (t, p) => .next (if 32 < length.toNat then finish t p .badAnswer s else s)
  | none => .next s

/-- STRAY_FRAME (R33): a frame that no transaction awaits is discarded. A stray that runs into an awaited answer reaches the part as
the bytes of ANSWER_RECEIVED. -/
def execStrayFrame (_rx : List Byte) (s : State) : Host.Outcome State Fault Refusal := .next s

end Sys2Proof.Machine
end

