-- ==== Sys2Proof/Machine/Operands.lean ====
section
/-! DEFINITION. The parameters of the management commands (10.3, R208): every operand form, read from the bytes after the command
code. A parameter whose bytes are not all there is `none`; bytes after the last parameter are not used. -/

namespace Sys2Proof.Machine

/-- The seven sections of the status record (10.3). -/
inductive Section where
  | general | sweep | contactor | update | capture | link | wake
  deriving DecidableEq, Repr

/-- The section that a code names (10.3). -/
def sectionOfCode (b : Byte) : Option Section :=
  match b.toNat with
  | 0 => some .general
  | 1 => some .sweep
  | 2 => some .contactor
  | 3 => some .update
  | 4 => some .capture
  | 5 => some .link
  | 6 => some .wake
  | _ => none

/-- The code of a section (10.3). -/
def Section.code : Section → Byte
  | .general => 0
  | .sweep => 1
  | .contactor => 2
  | .update => 3
  | .capture => 4
  | .link => 5
  | .wake => 6

/-- READ-STATUS: section 1. -/
def sectionParam (p : List Byte) : Option Section := (byteAt? p 0).bind sectionOfCode

/-- READ-EVENTS: channel 1, URGENT 0 or ROUTINE 1; the answer is whether it is URGENT. -/
def channelParam (p : List Byte) : Option Bool :=
  match byteAt? p 0 with
  | none => none
  | some b => if b = 0 then some true else if b = 1 then some false else none

/-- SET-EVENTS: enable set 2, channel map 2. -/
def eventSetsParam (p : List Byte) : Option (Half × Half) :=
  match halfAt? p 0, halfAt? p 2 with
  | some e, some m => some (e, m)
  | _, _ => none

/-- SET-PROFILE: profile 1, 0 to 3. -/
def profileParam (p : List Byte) : Option (Fin 4) :=
  match byteAt? p 0 with
  | none => none
  | some b => if h : b.toNat < 4 then some ⟨b.toNat, h⟩ else none

/-- The two forms of READ-SAMPLES (10.3). -/
inductive SampleForm where
  | values | detail
  deriving DecidableEq, Repr

/-- The form that a code names (10.3). -/
def formOfCode (b : Byte) : Option SampleForm :=
  if b = 0 then some .values else if b = 1 then some .detail else none

/-- READ-SAMPLES: first index 2, count 1, form 1. -/
def samplesParam (p : List Byte) : Option (Nat × Nat × SampleForm) :=
  match halfAt? p 0, byteAt? p 2, (byteAt? p 3).bind formOfCode with
  | some first, some count, some form => some (first.toNat, count.toNat, form)
  | _, _, _ => none

/-- READ-CAPTURE: capture id 2, first step 1. -/
def captureParam (p : List Byte) : Option (Half × Nat) :=
  match halfAt? p 0, byteAt? p 2 with
  | some id, some step => some (id, step.toNat)
  | _, _ => none

/-- UPDATE-WINDOW: table 1, first 2, last 2. -/
def windowParam (p : List Byte) : Option (Table × Nat × Nat) :=
  match (byteAt? p 0).bind tableOfCode, halfAt? p 1, halfAt? p 3 with
  | some t, some first, some last => some (t, first.toNat, last.toNat)
  | _, _, _ => none

/-- UPDATE-SEAL: tag 16. -/
def tagParam (p : List Byte) : Option Tag :=
  if 16 ≤ p.length then some (BitVec.ofNat 128 (beNat (p.take 16))) else none

/-- READ-TABLE: table 1, page 1, source 1 (the answer is whether it is STAGE), first entry 2, count 1. -/
def tableParam (p : List Byte) : Option (Table × Nat × Bool × Nat × Nat) :=
  match (byteAt? p 0).bind tableOfCode, byteAt? p 1, byteAt? p 2, halfAt? p 3, byteAt? p 5 with
  | some t, some page, some source, some first, some count =>
    if source = 0 then some (t, page.toNat, false, first.toNat, count.toNat)
    else if source = 1 then some (t, page.toNat, true, first.toNat, count.toNat)
    else none
  | _, _, _, _, _ => none

/-- UPDATE-WRITE's control byte has the CONTINUE form in bit 1 (10.3). -/
def isContinue (control : Byte) : Bool := control.getLsbD 1

/-- UPDATE-WRITE's control byte has the MERGE mode in bit 0 (10.3). -/
def isMerge (control : Byte) : Bool := control.getLsbD 0

end Sys2Proof.Machine
end

