-- ==== Sys2Proof/Machine/Manage.lean ====
section
/-! DEFINITION. How a management command reaches its owner: acceptance, dispatch and reply (R189, R195). -/

namespace Sys2Proof.Machine

/-- An open UPDATE-WRITE is closed (R169). -/
def closeWrite (s : State) : State := { s with update.openWrite := none }

/-- An accepted MANAGE frame is dispatched: the open write is closed unless the command is UPDATE-WRITE, the owner takes the command,
and the reply enters the queue in the frame's reservation (R195). -/
def dispatch (code : Byte) (cmd : State → Reply × State) (s : State) : State :=
  let s := acceptFrame s
  let s := if code = 0x15 then s else closeWrite s
  let (reply, s) := cmd s
  enqueueReserved (replyFrame code reply) s

/-- The exchange in progress is dark: the frame sent in it is not received (R145). -/
def exchangeDark (s : State) : Bool := s.link.exchange == some .dark

/-- The end of an exchange that carried a MANAGE frame with a correct check, address 0 and this command code (R145, R189, R195,
log 2): lost while the port is unpowered, held off in WAKING and when no entry is free, and dispatched otherwise. -/
def manage (code : Byte) (cmd : State → Reply × State) (s : State) : State :=
  let lost := !portPowered s || exchangeDark s
  let s := { s with link.exchange := none }
  if lost then s
  else if waking s then holdOff .waking 0 3 s
  else if freeCount s = 0 then holdOff .noRoom 0 3 s
  else dispatch code cmd s

/-- UNKNOWN_COMMAND (R195): the code names no command. -/
def cmdUnknown (s : State) : Reply × State := (.refused .range [], s)

/-- UNKNOWN_COMMAND. -/
def execUnknownCommand (code : Byte) (s : State) : Host.Outcome State Fault Refusal :=
  .next (manage code cmdUnknown s)

/-! ### Commands as frames (10.3) -/

/-- The command code and the parameter bytes of the MANAGE frame that a command of the Controller Port is (10.3); none for a row that
is no such command. -/
def commandFrame : Instr → Option (Byte × List Byte)
  | .unknownCommand code => some (code, [])
  | .identify => some (0x01, [])
  | .readStatus p => some (0x02, p)
  | .readEvents p => some (0x03, p)
  | .setEvents p => some (0x04, p)
  | .hubReset => some (0x05, [])
  | .sweepStart => some (0x06, [])
  | .sweepStop => some (0x07, [])
  | .chainGate p => some (0x08, p)
  | .enumerate => some (0x09, [])
  | .setProfile p => some (0x0A, p)
  | .readSamples p => some (0x0B, p)
  | .readPack => some (0x0C, [])
  | .readTrip => some (0x0D, [])
  | .clearTrip => some (0x0E, [])
  | .closeContactors => some (0x0F, [])
  | .openContactors => some (0x10, [])
  | .readCapture p => some (0x11, p)
  | .sleep => some (0x12, [])
  | .updateBegin p => some (0x13, p)
  | .updateWindow p => some (0x14, p)
  | .updateWrite p => some (0x15, p)
  | .updateSeal p => some (0x16, p)
  | .updateActivate => some (0x17, [])
  | .updateAbort => some (0x18, [])
  | .lockFloor => some (0x19, [])
  | .clearTamper => some (0x1A, [])
  | .readTable p => some (0x1B, p)
  | .exchangeBegin | .exchangeEnd _ | .powerOnReset | .hardReset | .linkWake | .wakeIn | .tamperIn | .syncIn
  | .syncWaitExpiry | .slotDue | .quietWindowStart | .deferredSlotsDue | .sweepEnd | .broadcastSent | .answerReceived _
  | .responseWindowClose _ | .answerLengthBad _ | .strayFrame _ | .captureStepDue | .endedContextLeaves
  | .feedbackDebounced _ _ | .prechargeTimeout | .deferTimerExpiry | .dwellTimerExpiry | .weldTimerExpiry
  | .disagreementTimerExpiry _ | .silenceTimerExpiry | .drainComplete | .drainTimerExpiry | .watchTimerExpiry
  | .chainSettleEnd | .oscillatorStarted | .verifyEnd | .commitEnd _ | .noticeAdmitted | .tamperInDeasserted => none

/-- A MANAGE frame to the part with a payload (10.1, 10.3). -/
def manageFrame (payload : List Byte) : Frame where
  address := 0
  kind := 0x03
  flags := 0
  payload := payload

end Sys2Proof.Machine
end

