-- ==== Sys2Proof/Machine/ContactorCommands.lean ====
section
/-! DEFINITION. The Contactor Sequencer's commands, feedbacks and timers (Chapter 5), and the Capture Unit's (Chapter 6). -/

namespace Sys2Proof.Machine

/-! ### CLOSE and OPEN (R101, R107) -/

/-- A request is served at once while the engine is STOPPED or WAITING_SYNC (R21). -/
def serveRequest (s : State) : State := if sweeping s then s else arbitrate (switchPoint s)

/-- CLOSE (R101). -/
def cmdClose (s : State) : Reply × State :=
  if s.protection.state = .safeOpen then (.refused .safeOpen [], s)
  else if enteringSleep s then (.refused .state [], s)
  else match s.sequencer.state with
    | .faulted => (.refused .state [], s)
    | .precharging | .closing | .closed => (.ok, s)
    | .opening | .weldCheck => (.refused .busy [], s)
    | .opened =>
      if s.sequencer.closePending then (.ok, s)
      else if s.chain.state ≠ .numbered then (.refused .chain [], s)
      else if !packSenseUsable s then (.refused .contactors [], s)
      else if safetyActivation s then (.refused .busy [], s)
      else (.accepted, serveRequest { s with sequencer.closePending := true })

/-- CLOSE. -/
def execClose (s : State) : Host.Outcome State Fault Refusal := .next (manage 0x0F cmdClose s)

/-- OPEN (R107, R111). -/
def cmdOpen (s : State) : Reply × State :=
  match s.sequencer.state with
  | .opened =>
    if s.sequencer.closePending then
      (.ok, writeClose .cancelled none { s with sequencer.closePending := false })
    else (.ok, s)
  | .precharging | .closing => (.accepted, arbitrate (breakOffClose .interrupted .interrupt s))
  | .closed =>
    if s.sequencer.openPending || s.sequencer.deferTimer.isSome then (.ok, s)
    else (.accepted, serveRequest { s with sequencer.openPending := true })
  | .opening | .weldCheck | .faulted => (.ok, s)

/-- OPEN. -/
def execOpen (s : State) : Host.Outcome State Fault Refusal := .next (manage 0x10 cmdOpen s)

/-! ### Feedbacks (R97, R106, R110, R113) -/

/-- What a changed reading brings about in the contactor state (R106, R110). -/
def feedbackEffect (s : State) : State :=
  match s.sequencer.state with
  | .closing => tryClosed s
  | .opening => tryWeldCheck s
  | .opened | .precharging | .closed | .weldCheck | .faulted => s

/-- A debounced reading takes a level. -/
def takeReading (c : Contactor) (closed : Bool) (s : State) : State :=
  superviseFeedback { s with sequencer.feedback := s.sequencer.feedback.set c closed }

/-- FEEDBACK_DEBOUNCED (R97): outside ACTIVE the readings keep their values (R118). -/
def execFeedbackDebounced (c : Contactor) (closed : Bool) (s : State) : Host.Outcome State Fault Refusal :=
  .next (if s.power.power = .active then feedbackEffect (takeReading c closed s) else s)

/-! ### Timers -/

/-- The precharge timer expires in PRECHARGING (R105). -/
def prechargeTimedOut (s : State) : State := arbitrate (tripPrecharge (breakOffClose .timedOut .timeout s))

/-- PRECHARGE_TIMEOUT (R105); only when the timer's instant has come in PRECHARGING (log 3). -/
def execPrechargeTimeout (s : State) : Host.Outcome State Fault Refusal :=
  .next (if s.sequencer.state = .precharging ∧ expired s s.sequencer.prechargeTimer then prechargeTimedOut s else s)

/-- The time a deferral has when its timer expires: the defer_limit the timer was started with (R109). -/
def fullDeferral (s : State) : Nat := (s.sequencer.deferTimer.getD 0 - s.sequencer.deferStart) / 100

/-- The defer timer expires: the opening is made under load (R109). -/
def deferTimedOut (s : State) : State := arbitrate (beginOpening true (some (fullDeferral s)) s)

/-- DEFER_TIMER_EXPIRY (R109); only when the timer's instant has come during a deferral (log 3). -/
def execDeferTimerExpiry (s : State) : Host.Outcome State Fault Refusal :=
  .next (if s.sequencer.state = .closed ∧ expired s s.sequencer.deferTimer then deferTimedOut s else s)

/-- DWELL_TIMER_EXPIRY (R110); only when the timer's instant has come in OPENING (log 3). -/
def execDwellTimerExpiry (s : State) : Host.Outcome State Fault Refusal :=
  .next (if s.sequencer.state = .opening ∧ expired s s.sequencer.dwellTimer then openNegative s else s)

/-- The weld timer expires: OPEN without a voltage test, FAULTED with a WELD trip otherwise (R112). -/
def weldTimedOut (s : State) : State :=
  if (live s).contactor.weldRatio = 0 then weldPassed s
  else
    let s := writeOpen .welded (enterFaulted s)
    raise .contactorFault (takeTrip (plainTrip .weld s) s)

/-- WELD_TIMER_EXPIRY (R112); only when the timer's instant has come in WELD_CHECK (log 3). -/
def execWeldTimerExpiry (s : State) : Host.Outcome State Fault Refusal :=
  .next (if s.sequencer.state = .weldCheck ∧ expired s s.sequencer.weldTimer then arbitrate (weldTimedOut s) else s)

/-- A disagreement timer stops. -/
def stopDisagree (c : Contactor) (s : State) : State :=
  match c with
  | .pos => { s with sequencer.disagreePos := none }
  | .neg => { s with sequencer.disagreeNeg := none }
  | .pre => { s with sequencer.disagreePre := none }

/-- A disagreement timer expires: one trip for it and one for every other disagreement timer that expires at the same instant, one after
the other (R114, log 39). -/
def disagreeTimedOut (c : Contactor) (s : State) : State :=
  arbitrate (Nat.repeat tripFeedback (expiredDisagreements s) (stopDisagree c s))

/-- DISAGREEMENT_TIMER_EXPIRY (R114); only when the timer's instant has come (log 3). -/
def execDisagreementTimerExpiry (c : Contactor) (s : State) : Host.Outcome State Fault Refusal :=
  .next (if expired s (disagreeTimer s c) then disagreeTimedOut c s else s)

/-- The silence timer expires: the CONTROLLER_SILENCE trip and event (R115). -/
def silenceTimedOut (s : State) : State :=
  arbitrate (tripSilence { s with sequencer.silenceTimer := none })

/-- SILENCE_TIMER_EXPIRY (R115); only when the timer's instant has come (log 3), so not after a frame accepted at that instant, which has
restarted the timer. -/
def execSilenceTimerExpiry (s : State) : Host.Outcome State Fault Refusal :=
  .next (if expired s s.sequencer.silenceTimer then silenceTimedOut s else s)

/-! ### Capture Unit (R126, R133, R136) -/

/-- CAPTURE_STEP_DUE (R126); only when the top context's ticks have run out with steps left (log 3). -/
def execCaptureStepDue (s : State) : Host.Outcome State Fault Refusal :=
  .next (if stepDueNow s then arbitrate (stepFallsDue s) else s)

/-- ENDED_CONTEXT_LEAVES (R133); only when the ended top context may leave (log 3). -/
def execEndedContextLeaves (s : State) : Host.Outcome State Fault Refusal :=
  .next (if leavesNow s then arbitrate (popTop s) else s)

/-- The standing of a run: RUNNING 0, ENDED 1, GONE 2 (R136, 10.2). -/
def standing (id : Half) (s : State) : Byte :=
  match contextOf id s with
  | none => 2
  | some c => if c.ended then 1 else 0

/-- The record of a step of a run, when the buffer holds it. -/
def captureAt (s : State) (id : Half) (step : Nat) : Option CaptureRecord :=
  s.capture.buffer.find? fun r => r.id == id && r.step == step

/-- The records of a run at or above a step, in ascending step order (R136). -/
def captureFrom (s : State) (id : Half) (first : Nat) : List CaptureRecord :=
  (List.range' first (32 - first)).filterMap (captureAt s id)

/-- The records that one reply returns: the lowest held, and the next when its step follows on it. R209 has them consecutive, and
a waiting step given up while its forerunner is in flight (R126) leaves its record first (log 34). -/
def captureReturned : List CaptureRecord → List CaptureRecord
  | r :: next :: _ => if next.step = r.step + 1 then [r, next] else [r]
  | held => held

/-- The nine bytes of a capture record (R209). -/
def captureBytes (r : CaptureRecord) : List Byte :=
  halfBytes (halfOf r.offset) ++ halfBytes r.vPack ++ halfBytes r.vLink ++ halfBytes r.iPack ++ [bitAt r.missed 0]

/-- The run byte: standing, program, LATE, OPENED_UNDER_LOAD (10.3). -/
def runByte (id : Half) (records : List CaptureRecord) (s : State) : Byte :=
  match records with
  | [] => standing id s
  | r :: _ => standing id s ||| (r.program.code <<< 2) ||| bitAt r.late 4 ||| bitAt r.underLoad 5

/-- The step byte: first step returned and number of records (10.3). -/
def stepByte (records : List CaptureRecord) : Byte :=
  match records with
  | [] => 0
  | r :: _ => byteOf (r.step + 32 * records.length)

/-- READ-CAPTURE (R136, R209): MORE says that a record above the last returned is held. -/
def cmdReadCapture (p : List Byte) (s : State) : Reply × State :=
  match captureParam p with
  | none => (.refused .range [], s)
  | some (id, first) =>
    if 31 < first then (.refused .range [], s)
    else
      let held := captureFrom s id first
      let records := captureReturned held
      (.done (halfBytes id ++ [runByte id records s, stepByte records] ++ (records.map captureBytes).flatten)
        (decide (records.length < held.length)), s)

/-- READ_CAPTURE. -/
def execReadCapture (p : List Byte) (s : State) : Host.Outcome State Fault Refusal :=
  .next (manage 0x11 (cmdReadCapture p) s)

end Sys2Proof.Machine
end

