-- ==== Sys2Proof/Machine/PowerCommands.lean ====
section
/-! DEFINITION. The Power Manager's commands and events (Chapter 7). -/

namespace Sys2Proof.Machine

/-! ### SLEEP and the drain (R141 to R143) -/

/-- The refusal of SLEEP, none when all checks pass (R141). -/
def sleepRefusal (s : State) : Option Reason :=
  if !openOrFaulted s || s.sequencer.drive.any then some .contactors
  else if s.sweep.engine ≠ .stopped then some .busy
  else if !s.capture.stack.isEmpty then some .busy
  else if s.chain.state = .numbering then some .busy
  else if s.update.state = .verifying ∨ s.update.state = .committing ∨ s.update.state = .armed then some .state
  else none

/-- SLEEP is accepted: wake record, drain phase and its timer, the timebase stops, a pending close is withdrawn and the disagreement
timers stop (R141). -/
def enterDrain (s : State) : State :=
  let s :=
    { s with
      power.record := { first := none, cycles := 0, seconds := 0 }
      power.watchCount := 0
      power.power := .drain
      power.drainTimer := after s (ms 20) }
  superviseFeedback (if s.sequencer.closePending then withdrawClose s else s)

/-- SLEEP (R140, R141). -/
def cmdSleep (s : State) : Reply × State :=
  if enteringSleep s then (.ok, s)
  else match sleepRefusal s with
    | some r => (.refused r [], s)
    | none => (.ok, enterDrain s)

/-- SLEEP. -/
def execSleep (s : State) : Host.Outcome State Fault Refusal := .next (manage 0x12 cmdSleep s)

/-- The drain phase can end now: its conditions hold and no exchange is in progress (R142). -/
def drainOver (s : State) : Bool :=
  decide (s.power.power = .drain) && drained s && s.link.exchange.isNone

/-- DRAIN_COMPLETE (R142); only in the drain phase with its conditions met (log 3). -/
def execDrainComplete (s : State) : Host.Outcome State Fault Refusal :=
  .next (if drainOver s then arbitrate (endDrain s) else s)

/-- DRAIN_TIMER_EXPIRY (R142); only when the timer's instant has come in the drain phase (log 3). -/
def execDrainTimerExpiry (s : State) : Host.Outcome State Fault Refusal :=
  .next (if s.power.power = .drain ∧ expired s s.power.drainTimer then arbitrate (endDrain (discardDrain s)) else s)

/-! ### Watch and wake (R148, R149, R152, R154) -/

/-- WATCH_TIMER_EXPIRY (R148); only when the timer's instant has come in DEEP_SLEEP (log 3). -/
def execWatchTimerExpiry (s : State) : Host.Outcome State Fault Refusal :=
  .next (if s.power.power = .deepSleep ∧ expired s s.power.watchTimer then arbitrate (watchTimerDue s) else s)

/-- The settle ends: the cycle goes on to its TRIGGER, or WAKING goes to ACTIVE (R149, R154). -/
def settleEnd (s : State) : State :=
  let s := { s with power.settleTimer := none }
  if waking s then enterActive s else s

/-- CHAIN_SETTLE_END (R149, R154); only when the settle's end has come (log 3). -/
def execChainSettleEnd (s : State) : Host.Outcome State Fault Refusal :=
  .next (if expired s s.power.settleTimer then arbitrate (settleEnd s) else s)

/-- The oscillator has started: the port and the link are powered and CHAIN_WAKE is to be sent (R154 steps 2 and 3). -/
def lightUp (s : State) : State :=
  { s with power.power := .wakingLit, chain.linkPowered := true, power.frames := [.chainWake] }

/-- OSCILLATOR_STARTED (R154); only in WAKING before it (log 3). -/
def execOscillatorStarted (s : State) : Host.Outcome State Fault Refusal :=
  .next (if s.power.power = .wakingDark then arbitrate (lightUp s) else s)

/-- WAKE_IN (R152). -/
def execWakeIn (s : State) : Host.Outcome State Fault Refusal := .next (takeWake .wakeIn s)

/-- LINK_WAKE (R145, R152): chip-select falls while the Controller Port is unpowered. -/
def execLinkWake (s : State) : Host.Outcome State Fault Refusal :=
  .next (if portPowered s then s else takeWake .link s)

end Sys2Proof.Machine
end

