-- ==== Sys2Proof/Machine/Report.lean ====
section
/-! DEFINITION. The commands of the Frame Router and the Notice Unit but HUB-RESET: IDENTIFY, READ-STATUS, READ-EVENTS, SET-EVENTS
(Chapter 9). -/

namespace Sys2Proof.Machine

/-! ### IDENTIFY (R196) -/

/-- IDENTIFY (R196): vendor code, part code 3120, silicon revision, live generation. -/
def cmdIdentify (s : State) : Reply × State :=
  (.done ([0x5E, 0x17] ++ halfBytes 3120 ++ [Config.siliconRevision] ++ wordBytes (live s).generation) false, s)

/-- IDENTIFY. -/
def execIdentify (s : State) : Host.Outcome State Fault Refusal := .next (manage 0x01 cmdIdentify s)

/-! ### READ-STATUS (R197) -/

/-- A profile, or 0xFF for none (10.3). -/
def profileByte : Option (Fin 4) → Byte
  | none => 0xFF
  | some p => byteOf p.val

/-- The latches: tamper latch in bit 0, floor lock in bit 1 (10.3). -/
def latchByte (s : State) : Byte := bitAt s.update.tamperLatch 0 ||| bitAt s.update.floorLock 1

/-- Section GENERAL (10.3). -/
def generalSection (s : State) : List Byte :=
  [s.power.power.code, s.protection.state.code, s.sequencer.state.code, s.sweep.engine.code] ++
    wordBytes s.sweep.number ++ wordBytes (live s).generation ++
    [byteOf s.evaluator.profile.val, profileByte s.evaluator.pendingProfile, s.update.state.code, s.chain.state.code,
      byteOf s.chain.enumRecord.count, bitAt s.arbiter.maskForward 0 ||| bitAt s.arbiter.maskSweep 1,
      byteOf s.capture.stack.length, latchByte s]

/-- Section SWEEP (10.3). -/
def sweepSection (s : State) : List Byte :=
  [s.sweep.engine.code] ++ wordBytes s.sweep.number ++
    match s.sweep.last with
    | none => List.replicate 11 0
    | some r => [1] ++ wordBytes r.number ++ wordBytes r.generation ++ [byteOf r.profile.val, r.flags.byte]

/-- A time in ms, or 0xFFFF when absent (10.3). -/
def msBytes : Option Nat → List Byte
  | none => [0xFF, 0xFF]
  | some n => halfBytes (halfOf n)

/-- The last close record's bytes (10.3). -/
def closeBytes : Option CloseRecord → List Byte
  | none => List.replicate 7 0
  | some r => [r.result.code] ++ msBytes r.prechargeMs ++ wordBytes r.sweep

/-- The last open record's bytes (10.3). -/
def openBytes : Option OpenRecord → List Byte
  | none => List.replicate 8 0
  | some r =>
    [r.sequence.cause.code ||| bitAt r.sequence.underLoad 7, r.result.code] ++ msBytes r.sequence.deferMs ++ wordBytes r.sweep

/-- Section CONTACTOR (10.3). -/
def contactorSection (s : State) : List Byte :=
  let q := s.sequencer
  [q.state.code, q.drive.byte, q.feedback.byte,
      bitAt q.closePending 0 ||| bitAt q.openPending 1 ||| bitAt q.deferTimer.isSome 2] ++
    closeBytes q.lastClose ++ openBytes q.lastOpen

/-- A slot's valid mark and generation (10.3). -/
def slotBytes : Option Image → List Byte
  | none => List.replicate 5 0
  | some i => 1 :: wordBytes i.generation

/-- The rejected table and entry, 0xFF and 0xFFFF when absent (10.3). -/
def rejectedBytes : Option (Table × Nat) → List Byte
  | none => [0xFF, 0xFF, 0xFF]
  | some (t, i) => byteOf t.code :: halfBytes (halfOf i)

/-- The staged generation, 0 when there is no stage (10.3). -/
def stagedGeneration (s : State) : Word :=
  match s.update.stage with
  | none => 0
  | some g => g.image.generation

/-- Section UPDATE (10.3). -/
def updateSection (s : State) : List Byte :=
  let u := s.update
  [u.state.code] ++ wordBytes (stagedGeneration s) ++ [u.lastResult.code] ++ rejectedBytes u.rejected ++
    [byteOf u.mismatches, liveSlotCode s.tables.liveSlot] ++ slotBytes s.tables.slotA ++ slotBytes s.tables.slotB ++
    [latchByte s]

/-- A context's bytes: program and ended mark, capture id (10.3). -/
def contextBytes (c : Context) : List Byte := (c.program.code ||| bitAt c.ended 7) :: halfBytes c.id

/-- Section CAPTURE (10.3). -/
def captureSection (s : State) : List Byte :=
  let u := s.capture
  [byteOf u.stack.length] ++ (u.stack.map contextBytes).flatten ++ [u.pendingSet.byte, byteOf u.buffer.length] ++
    halfBytes u.nextId

/-- Section LINK (10.3): the counts include the frame's own reservation (R197). -/
def linkSection (s : State) : List Byte :=
  [byteOf s.link.forward.length, byteOf s.link.upstream.length, byteOf s.link.reserved, byteOf (freeCount s)] ++
    halfBytes s.notice.pending ++ halfBytes s.notice.enable ++ halfBytes s.notice.map

/-- A wake source that may be absent (10.2). -/
def wakeCode : Option WakeSource → Byte
  | none => 0
  | some w => w.code

/-- Section WAKE (10.3). -/
def wakeSection (s : State) : List Byte :=
  [s.power.power.code, wakeCode s.power.record.first] ++ halfBytes s.power.record.cycles ++ wordBytes s.power.record.seconds

/-- A section's contents (R197). -/
def sectionBytes (s : State) : Section → List Byte
  | .general => generalSection s
  | .sweep => sweepSection s
  | .contactor => contactorSection s
  | .update => updateSection s
  | .capture => captureSection s
  | .link => linkSection s
  | .wake => wakeSection s

/-- READ-STATUS (R197). -/
def cmdReadStatus (p : List Byte) (s : State) : Reply × State :=
  match sectionParam p with
  | none => (.refused .range [], s)
  | some x => (.done (x.code :: sectionBytes s x) false, s)

/-- READ_STATUS. -/
def execReadStatus (p : List Byte) (s : State) : Host.Outcome State Fault Refusal :=
  .next (manage 0x02 (cmdReadStatus p) s)

/-! ### READ-EVENTS and SET-EVENTS (R202, R203) -/

/-- The flags of a channel's request set are cleared (R202). -/
def clearEvents (urgent : Bool) (n : NoticeUnit) : NoticeUnit :=
  reformNotice n (n.pending &&& ~~~requestSet n urgent) n.enable n.map

/-- READ-EVENTS (R202). -/
def cmdReadEvents (p : List Byte) (s : State) : Reply × State :=
  match channelParam p with
  | none => (.refused .range [], s)
  | some urgent =>
    (.done ((if urgent then 0 else 1) :: halfBytes (requestSet s.notice urgent) ++ halfBytes s.notice.pending) false,
      { s with notice := clearEvents urgent s.notice })

/-- READ_EVENTS. -/
def execReadEvents (p : List Byte) (s : State) : Host.Outcome State Fault Refusal :=
  .next (manage 0x03 (cmdReadEvents p) s)

/-- Bit 15 of a set is not used and is kept as 0 (R208, log 25). -/
def eventSet (x : Half) : Half := x &&& 0x7FFF

/-- SET-EVENTS (R203). -/
def cmdSetEvents (p : List Byte) (s : State) : Reply × State :=
  match eventSetsParam p with
  | none => (.refused .range [], s)
  | some (enable, map) =>
    (.ok, { s with notice := reformNotice s.notice s.notice.pending (eventSet enable) (eventSet map) })

/-- SET_EVENTS. -/
def execSetEvents (p : List Byte) (s : State) : Host.Outcome State Fault Refusal :=
  .next (manage 0x04 (cmdSetEvents p) s)

/-- NOTICE_ADMITTED (R200): the NOTICE that may enter does, URGENT first; none enters when none may (log 3, log 22). -/
def execNoticeAdmitted (s : State) : Host.Outcome State Fault Refusal :=
  .next (admitNext s)

end Sys2Proof.Machine
end

