-- ==== Sys2Proof/Machine/Validate.lean ====
section
/-! DEFINITION. Structural validation of a stage and the sealed content (R171 to R173). -/

namespace Sys2Proof.Machine

/-- A number lies from `lo` to `hi`. -/
def between (lo hi n : Nat) : Bool := decide (lo ≤ n) && decide (n ≤ hi)

/-- A signed field lies from `lo` to `hi`. -/
def signedBetween (lo hi : Int) (x : Half) : Bool := decide (lo ≤ x.toInt) && decide (x.toInt ≤ hi)

/-- A temperature in the range −400 to +1500. -/
def temperature (x : Half) : Bool := signedBetween (-400) 1500 x

/-- The CHAIN_MAP header's tests. Every encoding of the classes and holds is a setting. -/
def goodChainHeader (h : ChainHeader) : Bool := between 2 200 h.window.toNat && between 1 7 h.lostThreshold.toNat

/-- A position's tests, those across positions made at the later one (R172). -/
def goodPosition (img : Image) (p : Nat) : Bool :=
  let k := positionKind img p
  between 0 2 k.toNat && (k == 0 || p == 1 || positionKind img (p - 1) != 0) &&
    !(k == 2 && (List.range' 1 (p - 1)).any fun q => positionKind img q == 2)

/-- A CELL_MAP entry's tests. Every class code is a class. -/
def goodCell (img : Image) (i : Nat) : Bool :=
  let e := cellEntry img i
  if isAux (channelOf i) then e.gain == 0 && signedBetween (-100) 100 e.offset
  else signedBetween (-8192) 8191 e.gain && signedBetween (-512) 511 e.offset

/-- A LIMITS record's tests. -/
def goodLimit (r : LimitRecord) : Bool :=
  between 0 2000 r.vHyst.toNat && between 1 15 r.vPersist.toNat && temperature r.otTrip &&
    temperature r.otWarn && temperature r.utWarn && temperature r.utTrip &&
    between 0 200 r.tHyst.toNat && between 1 15 r.tPersist.toNat &&
    decide (r.uvTrip.toNat < r.uvWarn.toNat) && decide (r.uvWarn.toNat < r.ovWarn.toNat) &&
    decide (r.ovWarn.toNat < r.ovTrip.toNat) && decide (r.utTrip.toInt < r.utWarn.toInt) &&
    decide (r.utWarn.toInt < r.otWarn.toInt) && decide (r.otWarn.toInt < r.otTrip.toInt)

/-- A FLOOR record's tests. -/
def goodFloor (r : FloorRecord) : Bool :=
  between 1 15 r.vPersist.toNat && between 1 15 r.tPersist.toNat && temperature r.otTrip &&
    temperature r.utTrip && decide (r.uvTrip.toNat < r.ovTrip.toNat) &&
    decide (r.utTrip.toInt < r.otTrip.toInt)

/-- A THERMAL breakpoint's tests, the order judged against the one before (R172). -/
def goodBreakpoint (img : Image) (i : Nat) : Bool :=
  let b := look img.thermal { code := 0, temp := 0 } i
  let before := look img.thermal { code := 0, temp := 0 } (i - 1)
  between 1 4094 b.code.toNat && temperature b.temp &&
    (i == 0 || (decide (before.code.toNat < b.code.toNat) && decide (b.temp.toInt < before.temp.toInt)))

/-- The SWEEP header's tests. Every encoding of the modes is a setting. -/
def goodSweepHeader (h : SweepHeader) : Bool :=
  between 20 10000 h.period.toNat && decide (h.quietStart.toNat ≤ h.quietEnd.toNat) &&
    decide (h.quietEnd.toNat ≤ h.period.toNat - 2) && between 0 16 h.slotCount.toNat

/-- A slot's tests, made for slots 1 to slot count; `i` counts from 1. -/
def goodSlot (img : Image) (i : Nat) : Bool :=
  let g := sweepSlot img (i - 1)
  let isRead := g.kind == 2 || g.kind == 3
  decide (slotCount img < i) ||
    (decide (g.offset.toNat ≤ img.sweepHeader.period.toNat - 1) &&
      (i == 1 || decide ((sweepSlot img (i - 2)).offset.toNat < g.offset.toNat)) &&
      between 0 3 g.kind.toNat && between 1 16 g.divider.toNat &&
      (!isRead ||
        (between 0 24 g.fixedFirst.toNat &&
          (g.fixedFirst == 0 || between g.fixedFirst.toNat 24 g.fixedLast.toNat) &&
          between 0 24 g.rotCount.toNat &&
          (g.rotCount == 0 ||
            (between 1 24 g.rotFirst.toNat && between g.rotFirst.toNat 24 g.rotLast.toNat)))))

/-- A capture program's tests. -/
def goodProgram (f : ProgramField) : Bool := between 0 32 f.count.toNat && between 1 255 f.interval.toNat

/-- The CONTACTOR record's tests (section 5.2). -/
def goodContactor (r : ContactorRecord) : Bool :=
  between 10 5000 r.preTimeout.toNat && between 128 255 r.preRatio.toNat &&
    between 5 200 r.feedbackTime.toNat && between 0 100 r.openDwell.toNat &&
    between 0 32767 r.breakLimit.toNat && between 0 2000 r.deferLimit.toNat &&
    between 10 2000 r.weldTime.toNat && between 2 255 r.silenceLimit.toNat &&
    goodProgram r.precharge && goodProgram r.close && goodProgram r.opening && goodProgram r.trip

/-- The WATCH record's tests. -/
def goodWatch (r : WatchRecord) : Bool :=
  between 1 24 r.rangeFirst.toNat && between 1 24 r.rangeLast.toNat && decide (r.uv.toNat < r.ov.toNat) &&
    temperature r.ot && temperature r.ut && decide (r.ut.toInt < r.ot.toInt) &&
    between 1 3 r.persistence.toNat

/-- No test fails for the entry (R171). -/
def goodEntry (img : Image) (t : Table) (i : Nat) : Bool :=
  match t with
  | .chainMap => if i = 0 then goodChainHeader img.chainHeader else goodPosition img i
  | .cellMap => goodCell img i
  | .limits => goodLimit (look img.limits LimitRecord.blank i)
  | .floor => goodFloor (floorRecord img i)
  | .thermal => goodBreakpoint img i
  | .sweep => if i = 0 then goodSweepHeader img.sweepHeader else goodSlot img i
  | .contactor => goodContactor img.contactor
  | .watch => goodWatch img.watch

/-- The first entry of a table that fails, in ascending index (R172). -/
def firstBadEntry (img : Image) (t : Table) : Option Nat :=
  (List.range t.size).find? fun i => !goodEntry img t i

/-- The tables of a set in the order of section 8.1. -/
def tablesOf (set : Byte) : List Table := allTables.filter (holds set)

/-- The first entry that fails of the tables of the set (R172). -/
def firstBad (img : Image) (set : Byte) : Option (Table × Nat) :=
  (tablesOf set).findSome? fun t => (firstBadEntry img t).map fun i => (t, i)

/-- The sealed content: table set, staged generation, and the entries of each table of the set (R173, 10.5). -/
def sealedContent (img : Image) (set : Byte) : List Byte :=
  set :: wordBytes img.generation ++
    ((tablesOf set).map fun t => ((List.range t.size).map (entryBytes img t)).flatten).flatten

end Sys2Proof.Machine
end

