-- ==== Sys2Proof/Machine/Update.lean ====
section
/-! DEFINITION. The Update Engine and the Table Store: the update protocol, the checks, the commit, tamper and the floor lock, and
READ-TABLE (Chapter 8). -/

namespace Sys2Proof.Machine

/-! ### Shared operations -/

/-- The update ends with a result that an event reports (R173, R177, R178, R181). -/
def reportUpdate (r : UpdateResult) (s : State) : State := raise .updateResult (setResult r s)

/-- The stage is discarded and the state becomes IDLE. -/
def dropUpdate (s : State) : State := discardStage { s with update.state := .idle }

/-- The slot a commit targets (R176). -/
def commitTarget (live : Option SlotId) : SlotId :=
  match live with
  | some .a => .b
  | some .b | none => .a

/-- A slot's content and valid mark (R161). -/
def slotOf (s : State) : SlotId → Option Image
  | .a => s.tables.slotA
  | .b => s.tables.slotB

/-- A slot written with its mark, or left without it. -/
def setSlot (id : SlotId) (img : Option Image) (s : State) : State :=
  match id with
  | .a => { s with tables.slotA := img }
  | .b => { s with tables.slotB := img }

/-- The new image: the live image with each table of the set replaced by its staged copy, and the staged generation (R177). -/
def composeImage (img : Image) (g : Stage) : Image :=
  { (tablesOf g.set).foldl (fun i t => withTable i g.image t) img with generation := g.image.generation }

/-- An update whose table set holds a table is in progress (R183). -/
def updateHolds (t : Table) (s : State) : Bool :=
  match s.update.stage with
  | some g => holds g.set t
  | none => false

/-! ### UPDATE-BEGIN (R164, R165) -/

/-- The checks of UPDATE-BEGIN, none when all pass. A check whose parameter is missing is passed over, and the RANGE check then
fails (R208, log 17). -/
def beginRefusal (set : Option Byte) (generation : Option Word) (s : State) : Option Reason :=
  if s.update.mismatches = 3 then some .locked
  else if s.update.tamperLatch then some .tamper
  else if generation.any fun g => decide (g.toNat ≤ (live s).generation.toNat) then some .generation
  else if set.any (fun b => holds b .floor) && s.update.floorLock then some .locked
  else if s.update.state ≠ .idle then some .busy
  else if set.isNone || set == some 0 || generation.isNone then some .range
  else none

/-- UPDATE-BEGIN: the stage becomes a copy of the live image with the staged generation (R164, R165). -/
def cmdUpdateBegin (p : List Byte) (s : State) : Reply × State :=
  let set := byteAt? p 0
  let generation := wordAt? p 1
  match beginRefusal set generation s, set, generation with
  | some r, _, _ => (.refused r [], s)
  | none, some b, some g =>
    (.ok,
      { s with
        update.state := .staging
        update.stage := some { image := { live s with generation := g }, set := b } })
  | none, _, _ => (.refused .range [], s)

/-- UPDATE_BEGIN. -/
def execUpdateBegin (p : List Byte) (s : State) : Host.Outcome State Fault Refusal :=
  .next (manage 0x13 (cmdUpdateBegin p) s)

/-! ### UPDATE-WINDOW (R166) -/

/-- The window that UPDATE-WINDOW asks for, when its RANGE check passes. -/
def windowAsked (p : List Byte) (s : State) : Option Window :=
  match windowParam p with
  | none => none
  | some (t, first, last) =>
    if updateHolds t s ∧ first ≤ last ∧ last < t.size then
      some { table := t, first := first, last := last, cursor := first }
    else none

/-- UPDATE-WINDOW: window and cursor (R166). -/
def cmdUpdateWindow (p : List Byte) (s : State) : Reply × State :=
  if s.update.state = .locked then (.refused .locked [], s)
  else if s.update.state ≠ .staging then (.refused .state [], s)
  else match windowAsked p s with
    | none => (.refused .range [], s)
    | some w => (.ok, { s with update.window := some w })

/-- UPDATE_WINDOW. -/
def execUpdateWindow (p : List Byte) (s : State) : Host.Outcome State Fault Refusal :=
  .next (manage 0x14 (cmdUpdateWindow p) s)

/-! ### UPDATE-WRITE (R167 to R169) -/

/-- The layout index of the entry at a cursor: past the window's last index, that of the last (R209). -/
def layoutIndex (w : Window) (cursor : Nat) : Nat := min cursor w.last

/-- The entry part divided into entries from the cursor on, none when it does not divide (R209). The first argument bounds the
entries by the number of bytes. -/
def divideEntries : Nat → Window → Nat → List Byte → Option (List (List Byte))
  | _, _, _, [] => some []
  | 0, _, _, _ :: _ => none
  | n + 1, w, cursor, b :: bytes =>
    let width := entryWidth w.table (layoutIndex w cursor)
    if width = 0 ∨ bytes.length + 1 < width then none
    else (divideEntries n w (cursor + 1) ((b :: bytes).drop width)).map fun rest => (b :: bytes).take width :: rest

/-- The largest number of fields of the entry layouts within the window (R168). -/
def windowFields (w : Window) : Nat :=
  max (fieldWidths w.table w.first).length (fieldWidths w.table w.last).length

/-- The control byte and field select of a START are in range (R167, R168, R208). -/
def startInRange (w : Window) (control : Byte) (select : Half) : Bool :=
  control &&& 0xFC == 0 && (!isMerge control || (select != 0 && decide (select.toNat < 2 ^ windowFields w)))

/-- One entry written to the image at an index, in the mode of the open write (R168). -/
def writeEntry (o : OpenWrite) (t : Table) (i : Nat) (bytes : List Byte) (img : Image) : Image :=
  let new := unpackFields (fieldWidths t i) bytes
  setEntry img t i (if o.merge then mergeFields o.select (entryFields img t i) new else new)

/-- Entries written one after another: image, cursor, written and ignored (R167). -/
def writeEntries (o : OpenWrite) (w : Window) : List (List Byte) → Image → Nat → Nat → Nat → Image × Nat × Nat × Nat
  | [], img, cursor, written, ignored => (img, cursor, written, ignored)
  | e :: es, img, cursor, written, ignored =>
    if cursor ≤ w.last then
      writeEntries o w es (writeEntry o w.table cursor e img) (cursor + 1) (written + 1) ignored
    else writeEntries o w es img cursor written (ignored + 1)

/-- The write that the frame goes on with or opens, when its RANGE check passes: the open write for CONTINUE, the frame's own mode and
select for START (R167, R169). -/
def writeMode (w : Window) (control : Byte) (select : Half) (s : State) : Option OpenWrite :=
  if isContinue control then s.update.openWrite
  else if startInRange w control select then some { merge := isMerge control, select := select }
  else none

/-- A refused UPDATE-WRITE closes the open write (R169). -/
def refuseWrite (r : Reason) (s : State) : Reply × State := (.refused r [], closeWrite s)

/-- The entries are written and the reply counts them (R167, 10.3). -/
def writeStage (g : Stage) (w : Window) (o : OpenWrite) (entries : List (List Byte)) (s : State) : Reply × State :=
  let (img, cursor, written, ignored) := writeEntries o w entries g.image w.cursor 0 0
  (.done ([byteOf written, byteOf ignored] ++ halfBytes (halfOf cursor)) false,
    { s with
      update.stage := some { g with image := img }
      update.window := some { w with cursor := cursor }
      update.openWrite := some o })

/-- UPDATE-WRITE (R167). -/
def cmdUpdateWrite (p : List Byte) (s : State) : Reply × State :=
  if s.update.state = .locked then refuseWrite .locked s
  else match s.update.state, s.update.stage with
    | .staging, some g =>
      match s.update.window with
      | none => refuseWrite .sequence s
      | some w =>
        if (byteAt? p 0).any isContinue && s.update.openWrite.isNone then refuseWrite .sequence s
        else match byteAt? p 0, halfAt? p 1 with
          | some control, some select =>
            match writeMode w control select s, divideEntries p.length w w.cursor (p.drop 3) with
            | some o, some entries => writeStage g w o entries s
            | _, _ => refuseWrite .range s
          | _, _ => refuseWrite .range s
    | _, _ => refuseWrite .state s

/-- UPDATE_WRITE. -/
def execUpdateWrite (p : List Byte) (s : State) : Host.Outcome State Fault Refusal :=
  .next (manage 0x15 (cmdUpdateWrite p) s)

/-! ### UPDATE-SEAL and the checks (R170 to R174) -/

/-- UPDATE-SEAL: window, cursor and open write are cleared, the tag is kept, VERIFYING begins (R170). -/
def cmdUpdateSeal (p : List Byte) (s : State) : Reply × State :=
  if s.update.state = .locked then (.refused .locked [], s)
  else if enteringSleep s then (.refused .state [], s)
  else if s.update.state ≠ .staging then (.refused .state [], s)
  else match tagParam p with
    | none => (.refused .range [], s)
    | some tag =>
      (.accepted,
        { s with
          update.state := .verifying
          update.window := none
          update.openWrite := none
          update.tag := some tag })

/-- UPDATE_SEAL. -/
def execUpdateSeal (p : List Byte) (s : State) : Host.Outcome State Fault Refusal :=
  .next (manage 0x16 (cmdUpdateSeal p) s)

/-- A structural rejection (R172). -/
def rejectStructure (t : Table) (i : Nat) (s : State) : State :=
  raise .updateResult
    { s with
      update.state := .staging
      update.tag := none
      update.lastResult := .rejectedStructure
      update.rejected := some (t, i) }

/-- A tag mismatch: the third locks the update protocol (R173, R174). -/
def rejectTag (s : State) : State :=
  let n := min 3 (s.update.mismatches + 1)
  let s := { s with update.mismatches := n, update.tag := none }
  let s := if n = 3 then discardStage { s with update.state := .locked } else { s with update.state := .staging }
  reportUpdate .rejectedTag s

/-- The tags agree (R173). -/
def sealStage (s : State) : State :=
  reportUpdate .sealed { s with update.state := .sealed, update.mismatches := 0, update.tag := none }

/-- VERIFYING ends: structure first, then the tag over the sealed content (R171 to R173). -/
def verifyStage (g : Stage) (tag : Tag) (s : State) : State :=
  match firstBad g.image g.set with
  | some (t, i) => rejectStructure t i s
  | none => if Config.keyedTag (sealedContent g.image g.set) = tag then sealStage s else rejectTag s

/-- VERIFY_END (R173); only in VERIFYING (log 3). -/
def execVerifyEnd (s : State) : Host.Outcome State Fault Refusal :=
  match s.update.state, s.update.stage, s.update.tag with
  | .verifying, some g, some tag => .next (verifyStage g tag s)
  | _, _, _ => .next s

/-! ### UPDATE-ACTIVATE and the commit (R176 to R179) -/

/-- The commit begins: the target slot's valid mark is erased and the new image composed (R176, R177). -/
def beginCommit (g : Stage) (s : State) : State :=
  let target := commitTarget s.tables.liveSlot
  setSlot target none
    { s with
      update.state := .committing
      update.target := some target
      update.commit := some (composeImage (live s) g)
      update.commitTampered := false }

/-- UPDATE-ACTIVATE (R176). -/
def cmdUpdateActivate (s : State) : Reply × State :=
  if s.protection.state = .safeOpen then (.refused .safeOpen [], s)
  else if enteringSleep s then (.refused .state [], s)
  else if s.update.state = .locked then (.refused .locked [], s)
  else if s.update.state = .committing ∨ s.update.state = .armed then (.ok, s)
  else match s.update.state, s.update.stage with
    | .sealed, some g =>
      if touchesSafety g.set && !openOrFaulted s then (.refused .contactors [], s)
      else (.accepted, beginCommit g s)
    | _, _ => (.refused .state [], s)

/-- UPDATE_ACTIVATE. -/
def execUpdateActivate (s : State) : Host.Outcome State Fault Refusal :=
  .next (manage 0x17 cmdUpdateActivate s)

/-- The commit reaches its end (R177 step 3, R178, R179). A tampered commit ends ABORTED_TAMPER whatever its read-back (log 19). -/
def endCommit (readBack : Bool) (target : SlotId) (img : Image) (s : State) : State :=
  if s.update.commitTampered then reportUpdate .abortedTamper (dropUpdate s)
  else if readBack then
    let s := setSlot target (some img) { s with update.state := .armed }
    if s.sweep.engine = .stopped then swapImage s else s
  else
    reportUpdate .commitFailed
      { s with update.state := .sealed, update.target := none, update.commit := none }

/-- COMMIT_END (R177); only in COMMITTING (log 3). -/
def execCommitEnd (readBack : Bool) (s : State) : Host.Outcome State Fault Refusal :=
  match s.update.state, s.update.target, s.update.commit with
  | .committing, some target, some img => .next (endCommit readBack target img s)
  | _, _, _ => .next s

/-! ### UPDATE-ABORT (R180) -/

/-- UPDATE-ABORT (R180). -/
def cmdUpdateAbort (s : State) : Reply × State :=
  match s.update.state with
  | .idle => (.ok, s)
  | .staging | .verifying | .sealed => (.ok, setResult .aborted (dropUpdate s))
  | .committing | .armed => (.refused .state [], s)
  | .locked => (.refused .locked [], s)

/-- UPDATE_ABORT. -/
def execUpdateAbort (s : State) : Host.Outcome State Fault Refusal :=
  .next (manage 0x18 cmdUpdateAbort s)

/-! ### Tamper and the floor lock (R181 to R183) -/

/-- What an assertion of TAMPER_IN does to the update (R178, R181). -/
def tamperUpdate (s : State) : State :=
  match s.update.state with
  | .idle | .locked | .armed => s
  | .staging | .verifying | .sealed => reportUpdate .abortedTamper (dropUpdate s)
  | .committing => { s with update.commitTampered := true }

/-- The reading of TAMPER_IN becomes asserted: latch, event, wake source, update (R181). -/
def tamperAsserted (s : State) : State :=
  tamperUpdate <| takeWake .tamper <| raise .tamper
    { s with update.tamperReading := true, update.tamperLatch := true }

/-- TAMPER_IN (R181); a reading already asserted does not become asserted (log 3). -/
def execTamperIn (s : State) : Host.Outcome State Fault Refusal :=
  .next (if s.update.tamperReading then s else tamperAsserted s)

/-- TAMPER_IN_DEASSERTED (R181, R182): the debounced reading is deasserted. -/
def execTamperInDeasserted (s : State) : Host.Outcome State Fault Refusal :=
  .next { s with update.tamperReading := false }

/-- CLEAR-TAMPER (R182). -/
def cmdClearTamper (s : State) : Reply × State :=
  if !s.update.tamperLatch then (.ok, s)
  else if s.update.state = .locked then (.refused .locked [], s)
  else if s.update.tamperReading then (.refused .tamper [], s)
  else if s.update.state ≠ .idle then (.refused .busy [], s)
  else (.ok, { s with update.tamperLatch := false })

/-- CLEAR_TAMPER. -/
def execClearTamper (s : State) : Host.Outcome State Fault Refusal :=
  .next (manage 0x1A cmdClearTamper s)

/-- LOCK-FLOOR (R183). -/
def cmdLockFloor (s : State) : Reply × State :=
  if s.update.floorLock then (.ok, s)
  else if updateHolds .floor s then (.refused .busy [], s)
  else (.ok, { s with update.floorLock := true })

/-- LOCK_FLOOR. -/
def execLockFloor (s : State) : Host.Outcome State Fault Refusal :=
  .next (manage 0x19 cmdLockFloor s)

/-! ### READ-TABLE (R184, R209) -/

/-- The page read: CURRENT (4) is the active profile's; the page is not used but for LIMITS, and what is shown of it then is a free
value (R184, log 18). -/
def pageRead (t : Table) (page : Nat) (s : State) : Nat :=
  if t = .limits then (if page = 4 then s.evaluator.profile.val else page) else (Config.unpagedPage page).val

/-- The entry indices of the table, or of the page for LIMITS, from the first asked on: at most count of them. -/
def entriesAsked (t : Table) (page first count : Nat) : List Nat :=
  if t = .limits then List.range' (page * 16 + first) (min count (16 - first))
  else List.range' first (min count (t.size - first))

/-- The largest number of leading entries whose bytes fit in the room (R209). -/
def fitEntries (room : Nat) : List (List Byte) → List (List Byte)
  | [] => []
  | e :: es => if e.length ≤ room then e :: fitEntries (room - e.length) es else []

/-- The two bytes of first entry (bits 15 to 7) and count (bits 6 to 0) (10.3). -/
def firstCountBytes (first count : Nat) : List Byte := halfBytes (halfOf (first * 128 + count))

/-- READ-TABLE's reply from an image: 22 bytes of entries at most (R184, R209). -/
def tableReply (img : Image) (t : Table) (page : Nat) (stage : Bool) (first count : Nat) : Reply :=
  let entries := fitEntries 22 ((entriesAsked t page first count).map (entryBytes img t))
  .done
    ([byteOf t.code, byteOf page ||| bitAt stage 7] ++ wordBytes img.generation ++
      firstCountBytes first entries.length ++ entries.flatten) false

/-- The first entry and count of READ-TABLE are in range, and for LIMITS the page (R184 checks 2 and 3). -/
def tableInRange (t : Table) (page first count : Nat) : Bool :=
  decide (0 < count) && (if t = .limits then decide (page ≤ 4) && decide (first < 16) else decide (first < t.size))

/-- READ-TABLE (R184). -/
def cmdReadTable (p : List Byte) (s : State) : Reply × State :=
  match tableParam p with
  | none => (.refused .range [], s)
  | some (t, page, stage, first, count) =>
    if !tableInRange t page first count then (.refused .range [], s)
    else if stage then
      match s.update.stage with
      | none => (.refused .state [], s)
      | some g => (tableReply g.image t (pageRead t page s) true first count, s)
    else (tableReply (live s) t (pageRead t page s) false first count, s)

/-- READ_TABLE. -/
def execReadTable (p : List Byte) (s : State) : Host.Outcome State Fault Refusal :=
  .next (manage 0x1B (cmdReadTable p) s)

end Sys2Proof.Machine
end

