-- ==== Sys2Proof/Machine/Reset.lean ====
section
/-! DEFINITION. The three resets (R25, R26, R47, R48, R76, R77, R93, R94, R120, R121, R137, R138, R157, R158, R162, R185, R186,
R204 to R206). -/

namespace Sys2Proof.Machine

/-! ### POWER-ON and HARD -/

/-- The image that the load makes live, with its slot (R162). -/
def loadImage (t : TableStore) : Image × Option SlotId :=
  match t.slotA, t.slotB with
  | none, none => (Image.blank, none)
  | some a, none => (a, some .a)
  | none, some b => (b, some .b)
  | some a, some b => if a.generation.toNat < b.generation.toNat then (b, some .b) else (a, some .a)

/-- The Table Store after the load (R162, R185). -/
def loadTables (t : TableStore) : TableStore :=
  { t with live := (loadImage t).1, liveSlot := (loadImage t).2 }

/-- What the end of every reset does about TAMPER_IN: an input that reads asserted is taken as becoming asserted (R181). -/
def tamperAtReset (s : State) : State := if s.update.tamperReading then tamperAsserted s else s

/-- The end of a POWER-ON or HARD reset: the CHAIN_WAKE of R157 is granted, and TAMPER_IN is taken. -/
def resetEnd (s : State) : State := tamperAtReset (arbitrate s)

/-- Every field as both resets set it: the loaded tables, and what no reset touches (the marks and the slots, and the model's own
queue, choices and clock). -/
def coldState (s : State) : State :=
  let tables := loadTables s.tables
  { State.unstarted with
    pending := s.pending
    choices := s.choices
    now := s.now
    tables := tables
    update :=
      { State.unstarted.update with
        tamperLatch := s.update.tamperLatch
        floorLock := s.update.floorLock
        tamperReading := s.update.tamperReading }
    sweep :=
      { State.unstarted.sweep with
        rotation := freshRotation tables.live
        tickSpan := tickLength tables.live
        tickLeft := tickLength tables.live } }

/-- The trip record through a HARD reset (R93). -/
def keptRecord (r : Option TripRecord) : Option TripRecord := r.map fun t => { t with resetSince := true }

/-- What a HARD reset keeps beside (R93, R157, R185). -/
def hardState (s : State) : State :=
  { coldState s with
    protection := { state := .normal, record := keptRecord s.protection.record }
    update :=
      { (coldState s).update with
        state := if s.update.mismatches = 3 then .locked else .idle
        mismatches := s.update.mismatches
        lastResult := s.update.lastResult
        rejected := s.update.rejected }
    power := { State.unstarted.power with record := s.power.record } }

/-- POWER_ON_RESET (R162, R185). -/
def execPowerOnReset (s : State) : Host.Outcome State Fault Refusal := .next (resetEnd (coldState s))

/-- HARD_RESET (R185). -/
def execHardReset (s : State) : Host.Outcome State Fault Refusal := .next (resetEnd (hardState s))

/-! ### DIRECTED (R204) -/

/-- The Update Engine's part (R186), after the swap of an ARMED update. -/
def directedUpdate (s : State) : State :=
  match s.update.state with
  | .staging | .verifying | .sealed | .committing => dropUpdate s
  | .idle | .armed | .locked => s

/-- The Sweep Engine's part (R26); the timebase starts again when the reset ends a drain (R158). -/
def directedSweep (s : State) : State :=
  { s with
    sweep :=
      { s.sweep with
        engine := .stopped
        counter := 0
        waitCount := 0
        rotation := freshRotation (live s)
        reads := []
        triggers := []
        deferredSlots := []
        slotsPassed := 0
        quiet := .before
        record := none
        tickSpan := if s.power.power = .active then s.sweep.tickSpan else tickLength (live s)
        tickLeft := if s.power.power = .active then s.sweep.tickLeft else tickLength (live s) } }

/-- The Chain Port's and the Chain Arbiter's part (R34, R48). -/
def directedChain (s : State) : State :=
  { s with
    chain :=
      { s.chain with
        inFlight := none
        state := if s.chain.state = .numbering then .unnumbered else s.chain.state
        enumNext := 0
        enumKinds := []
        misses := Vector.replicate 24 0
        lost := Vector.replicate 24 false }
    arbiter := State.unstarted.arbiter }

/-- A channel record through a DIRECTED reset (R77). -/
def directedChannel (c : Channel) : Channel := { c with warn := .clear, counter := 0, tripped := false }

/-- The Sample Evaluator's part (R54, R77). -/
def directedEvaluator (s : State) : State :=
  { s with
    evaluator :=
      { s.evaluator with
        channels := remap (fun _ c => directedChannel c) s.evaluator.channels
        pendingProfile := none
        matchedVPack := none } }

/-- The Capture Unit's part (R138). -/
def directedCapture (s : State) : State :=
  { s with capture.stack := [], capture.pendingSet := State.unstarted.capture.pendingSet }

/-- The Power Manager's part (R158). -/
def directedPower (s : State) : State :=
  clearWatchCounts
    { s with
      power.power := .active
      power.drainTimer := none
      power.watchTimer := none
      power.settleTimer := none
      power.frames := []
      power.cycle := false
      power.cellsAnswered := false
      power.wakeKept := false }

/-- The Contactor Sequencer's part (R121); the disagreement timers start afresh when a drain ends (R113). -/
def directedSequencer (s : State) : State :=
  superviseFeedback { s with sequencer.closePending := false }

/-- The Frame Router's and the Notice Unit's part (R206). -/
def directedLink (s : State) : State :=
  { s with
    link := { exchange := none, answerSlot := none, forward := [], upstream := [], reserved := 0 }
    notice := reformNotice s.notice 0 s.notice.enable s.notice.map }

/-- The DIRECTED reset, an ARMED activation's swap first (R186, R204). -/
def directedReset (s : State) : State :=
  tamperAtReset <| directedLink <| directedSequencer <| directedPower <| directedCapture <| directedEvaluator <|
    directedChain <| directedSweep <| directedUpdate <| swapImage s

/-- HUB-RESET (R204). -/
def cmdHubReset (s : State) : Reply × State :=
  if openOrFaulted s then (.ok, directedReset s) else (.refused .contactors [], s)

/-- HUB_RESET. -/
def execHubReset (s : State) : Host.Outcome State Fault Refusal := .next (manage 0x05 cmdHubReset s)

end Sys2Proof.Machine
end

