-- ==== Sys2Proof/Machine/SampleCommands.lean ====
section
/-! DEFINITION. The commands of the Sample Evaluator and the Protection Unit (Chapters 3 and 4). -/

namespace Sys2Proof.Machine

/-! ### SET-PROFILE (R53) -/

/-- A profile is asked for (R53). -/
def chooseProfile (p : Fin 4) (s : State) : State :=
  if s.sweep.engine = .stopped then { s with evaluator.profile := p, evaluator.pendingProfile := none }
  else { s with evaluator.pendingProfile := if p = s.evaluator.profile then none else some p }

/-- SET-PROFILE (R53). -/
def cmdSetProfile (p : List Byte) (s : State) : Reply × State :=
  match profileParam p with
  | none => (.refused .range [], s)
  | some n => (.ok, chooseProfile n s)

/-- SET_PROFILE. -/
def execSetProfile (p : List Byte) (s : State) : Host.Outcome State Fault Refusal :=
  .next (manage 0x0A (cmdSetProfile p) s)

/-! ### READ-SAMPLES and READ-PACK (R74, R75, R209) -/

/-- The record that a read shows: the empty record for a channel that is not evaluated (R74). -/
def shownChannel (s : State) (i : Nat) : Channel :=
  if evaluated (live s) i then channelAt s i else Channel.empty

/-- A record in a form: value and status byte, or raw code, counter and stamp (R209). -/
def sampleBytes (form : SampleForm) (c : Channel) : List Byte :=
  match form with
  | .values => halfBytes (BitVec.ofInt 16 c.value) ++ [statusByte c]
  | .detail => halfBytes c.raw ++ [byteOf c.counter] ++ c.stamp.bytes

/-- The count returned (R74). -/
def samplesCount (first count : Nat) (form : SampleForm) : Nat :=
  min (480 - first) (match form with
    | .values => count
    | .detail => min 3 count)

/-- READ-SAMPLES (R74). -/
def cmdReadSamples (p : List Byte) (s : State) : Reply × State :=
  match samplesParam p with
  | none => (.refused .range [], s)
  | some (first, count, form) =>
    if 479 < first ∨ count = 0 ∨ 8 < count then (.refused .range [], s)
    else
      let n := samplesCount first count form
      (.done (halfBytes (halfOf first) ++ [byteOf n] ++
        ((List.range' first n).map fun i => sampleBytes form (shownChannel s i)).flatten) false, s)

/-- READ_SAMPLES. -/
def execReadSamples (p : List Byte) (s : State) : Host.Outcome State Fault Refusal :=
  .next (manage 0x0B (cmdReadSamples p) s)

/-- The pack sense record's bytes (10.3). -/
def packBytes (r : PackSense) : List Byte :=
  halfBytes r.vPack ++ halfBytes r.vLink ++ halfBytes r.iPack ++
    [r.trigger, bitAt r.fromCapture 0, r.status.code] ++ r.stamp.bytes

/-- READ-PACK (R75). -/
def cmdReadPack (s : State) : Reply × State := (.done (packBytes s.evaluator.pack) false, s)

/-- READ_PACK. -/
def execReadPack (s : State) : Host.Outcome State Fault Refusal := .next (manage 0x0C cmdReadPack s)

/-! ### READ-TRIP (R86) -/

/-- The record flags of READ-TRIP (10.3). -/
def tripFlags (r : TripRecord) : Byte :=
  bitAt true 0 ||| bitAt r.first.position.isSome 1 ||| bitAt r.first.channel.isSome 2 |||
    bitAt r.first.value.isSome 3 ||| bitAt (decide (r.firstResponse = .hard)) 4 |||
    bitAt (decide (r.level = .hard)) 5 ||| bitAt r.resetSince 6

/-- A cause that may be absent (10.2). -/
def causeCode : Option TripCause → Byte
  | none => 0
  | some c => c.code

/-- The bytes of the trip record after the protection state (10.3). -/
def tripBytes (r : TripRecord) : List Byte :=
  [tripFlags r, r.first.cause.code, byteOf (r.first.position.getD 0), byteOf (r.first.channel.getD 255)] ++
    halfBytes (BitVec.ofInt 16 (r.first.value.getD 0)) ++ r.first.stamp.bytes ++ wordBytes r.first.generation ++
    [byteOf r.first.profile.val, r.power.code, byteOf r.laterCount, causeCode r.latestCause]

/-- READ-TRIP (R86). An empty record shows flags 0 and zeros (10.3). -/
def cmdReadTrip (s : State) : Reply × State :=
  (.done (s.protection.state.code :: (match s.protection.record with
    | none => List.replicate 19 0
    | some r => tripBytes r)) false, s)

/-- READ_TRIP. -/
def execReadTrip (s : State) : Host.Outcome State Fault Refusal := .next (manage 0x0D cmdReadTrip s)

/-! ### CLEAR-TRIP (R91) -/

/-- A channel fails PERSISTING: evaluated, with its counter at or above persist_eff under the live tables and active profile (R91). -/
def persisting (s : State) (i : Nat) : Bool :=
  evaluated (live s) i &&
    decide ((effective (live s) s.evaluator.profile i).persist ≤ (channelAt s i).counter)

/-- The lowest channel index that fails PERSISTING. -/
def firstPersisting (s : State) : Option Nat := (List.range 480).find? (persisting s)

/-- The lowest LOST position. -/
def firstLost (s : State) : Option Nat := allPositions.find? (isLost s)

/-- The failed conditions of CLEAR-TRIP: PERSISTING, LOST, CONTACTORS, FEEDBACK from bit 0 (R91, 10.3). -/
def failedConditions (s : State) : Byte :=
  bitAt (firstPersisting s).isSome 0 ||| bitAt (firstLost s).isSome 1 ||| bitAt (!openOrFaulted s) 2 |||
    bitAt s.sequencer.feedback.any 3

/-- A granted CLEAR-TRIP (R91). -/
def grantClear (s : State) : State :=
  superviseFeedback
    { s with
      protection.state := .normal
      protection.record := none
      evaluator.channels := remap (fun _ c => { c with tripped := false }) s.evaluator.channels
      sequencer.state := if s.sequencer.state = .faulted then .opened else s.sequencer.state }

/-- The refusal data of CLEAR-TRIP (10.3). -/
def clearRefusal (s : State) : List Byte :=
  [failedConditions s] ++ halfBytes (halfOf ((firstPersisting s).getD 0xFFFF)) ++ [byteOf ((firstLost s).getD 0)]

/-- CLEAR-TRIP (R91). -/
def cmdClearTrip (s : State) : Reply × State :=
  if s.protection.state = .normal ∧ s.protection.record = none then (.ok, s)
  else if failedConditions s = 0 then (.ok, grantClear s)
  else (.refused .state (clearRefusal s), s)

/-- CLEAR_TRIP. -/
def execClearTrip (s : State) : Host.Outcome State Fault Refusal := .next (manage 0x0E cmdClearTrip s)

end Sys2Proof.Machine
end

