-- ==== Sys2Proof/Machine/SweepCommands.lean ====
section
/-! DEFINITION. The Sweep Engine's commands and events (Chapter 1), and CHAIN-GATE and ENUMERATE of the chain (Chapter 2). -/

namespace Sys2Proof.Machine

/-! ### SWEEP-START and SWEEP-STOP (R4, R5) -/

/-- SWEEP-START on the engine state, all checks passed (R4). -/
def startEngine (s : State) : State :=
  match s.sweep.engine with
  | .stopped =>
    if lockedMode (live s) then switchPoint { s with sweep.engine := .waitingSync, sweep.waitCount := 0 }
    else arbitrate (beginSweep false s)
  | .stopping => { s with sweep.engine := .running }
  | .running | .waitingSync => s

/-- SWEEP-START (R4). -/
def cmdSweepStart (s : State) : Reply × State :=
  if s.protection.state = .safeOpen then (.refused .safeOpen [], s)
  else if enteringSleep s then (.refused .state [], s)
  else if s.chain.state ≠ .numbered then (.refused .chain [], s)
  else if slotCount (live s) = 0 then (.refused .state [], s)
  else (.ok, startEngine s)

/-- SWEEP_START. -/
def execSweepStart (s : State) : Host.Outcome State Fault Refusal := .next (manage 0x06 cmdSweepStart s)

/-- SWEEP-STOP on the engine state (R5). -/
def stopEngine (s : State) : State :=
  match s.sweep.engine with
  | .running => { s with sweep.engine := .stopping }
  | .waitingSync => arbitrate (enterStopped s)
  | .stopped | .stopping => s

/-- SWEEP-STOP (R5). -/
def cmdSweepStop (s : State) : Reply × State := (.ok, stopEngine s)

/-- SWEEP_STOP. -/
def execSweepStop (s : State) : Host.Outcome State Fault Refusal := .next (manage 0x07 cmdSweepStop s)

/-! ### CHAIN-GATE and ENUMERATE (R40, R46) -/

/-- CHAIN-GATE: both masks replaced, and a decision when a mask is cleared (R44, R46). -/
def cmdChainGate (p : List Byte) (s : State) : Reply × State :=
  match byteAt? p 0 with
  | none => (.refused .range [], s)
  | some b =>
    (.ok, arbitrate { s with arbiter.maskForward := b.getLsbD 0, arbiter.maskSweep := b.getLsbD 1 })

/-- CHAIN_GATE. -/
def execChainGate (p : List Byte) (s : State) : Host.Outcome State Fault Refusal :=
  .next (manage 0x08 (cmdChainGate p) s)

/-- The numbering begins: k is 0, no kind is reported, ENUMERATE is raised (R40). -/
def beginEnumeration (s : State) : State :=
  arbitrate { s with chain.state := .numbering, chain.enumNext := 0, chain.enumKinds := [] }

/-- ENUMERATE (R40). -/
def cmdEnumerate (s : State) : Reply × State :=
  if s.protection.state = .safeOpen then (.refused .safeOpen [], s)
  else if enteringSleep s then (.refused .state [], s)
  else if s.sweep.engine ≠ .stopped then (.refused .busy [], s)
  else if s.sequencer.state ≠ .opened then (.refused .busy [], s)
  else if !s.capture.stack.isEmpty then (.refused .busy [], s)
  else if s.chain.state = .numbering then (.refused .busy [], s)
  else (.accepted, beginEnumeration s)

/-- ENUMERATE. -/
def execEnumerate (s : State) : Host.Outcome State Fault Refusal := .next (manage 0x09 cmdEnumerate s)

/-! ### SYNC_IN and the wait (R8) -/

/-- The engine waits for an edge. -/
def waitingSync (s : State) : Bool := decide (s.sweep.engine = .waitingSync)

/-- The timebase is re-phased to a sweep that has begun on an edge (R2, R8, log 14). -/
def rephase (s : State) : State :=
  if s.sweep.engine = .running then beginTick s else s

/-- An edge ends the wait and the sweep begins (R8). -/
def syncEdge (s : State) : State := arbitrate (rephase (beginSweep false s))

/-- SYNC_IN (R8): no effect outside WAITING_SYNC. -/
def execSyncIn (s : State) : Host.Outcome State Fault Refusal :=
  .next (if waitingSync s then syncEdge s else s)

/-- The wait limit: the period divided by 4, the remainder discarded (R8). -/
def waitLimit (s : State) : Nat := (live s).sweepHeader.period.toNat / 4

/-- The wait has reached its limit (R8). -/
def waitOver (s : State) : Bool := waitingSync s && decide (waitLimit s ≤ s.sweep.waitCount)

/-- The wait expires: the sweep begins with SYNC_LOST, and the event is raised when one has begun (R8). -/
def syncLost (s : State) : State :=
  let s := beginSweep true s
  arbitrate (if s.sweep.engine = .running then raise .syncLost s else s)

/-- SYNC_WAIT_EXPIRY (R8); only when the wait is over (log 3). -/
def execSyncWaitExpiry (s : State) : Host.Outcome State Fault Refusal :=
  .next (if waitOver s then syncLost s else s)

/-! ### Ticks of a sweep (R7, R10, R13) -/

/-- SLOT_DUE (R10, R13); only when the counter has reached the next slot and no deferred slot comes before it (log 3, log 32). -/
def execSlotDue (s : State) : Host.Outcome State Fault Refusal :=
  .next (if slotReached s then arbitrate (passSlot s) else s)

/-- The counter has reached QS of an enabled quiet window, for the first time in this sweep (R13, log 32). -/
def quietReached (s : State) : Bool :=
  sweeping s && quietEnabled (live s) && decide (s.sweep.quiet = .before) &&
    decide ((live s).sweepHeader.quietStart.toNat ≤ s.sweep.counter)

/-- Every entry of the trigger list is deferred to QE + 1 (R13). -/
def deferTriggers (s : State) : State :=
  let slots := s.sweep.triggers.map fun t => t.slot
  slots.foldl (fun s i => deferSlot i s) { s with sweep.triggers := [] }

/-- The counter reaches QS: triggers are deferred and a switch point is offered (R13, R22). -/
def enterQuiet (s : State) : State :=
  arbitrate (switchPoint (deferTriggers { s with sweep.quiet := .inside }))

/-- QUIET_WINDOW_START (R13); only when the counter has reached QS (log 3). -/
def execQuietWindowStart (s : State) : Host.Outcome State Fault Refusal :=
  .next (if quietReached s then enterQuiet s else s)

/-- The counter has passed QE after the quiet window was entered (R13, log 32). -/
def quietOver (s : State) : Bool :=
  sweeping s && decide (s.sweep.quiet = .inside) &&
    decide ((live s).sweepHeader.quietEnd.toNat < s.sweep.counter)

/-- The slots deferred to QE + 1 fall due in table order (R13, log 12). -/
def leaveQuiet (s : State) : State :=
  arbitrate (s.sweep.deferredSlots.foldl actDeferred { s with sweep.quiet := .after, sweep.deferredSlots := [] })

/-- DEFERRED_SLOTS_DUE (R13); only past QE (log 3). -/
def execDeferredSlotsDue (s : State) : Host.Outcome State Fault Refusal :=
  .next (if quietOver s then leaveQuiet s else s)

/-- The counter has reached the period (R7). -/
def sweepOver (s : State) : Bool :=
  sweeping s && decide ((live s).sweepHeader.period.toNat ≤ s.sweep.counter)

/-- SWEEP_END (R7); only when the counter has reached the period (log 3). -/
def execSweepEnd (s : State) : Host.Outcome State Fault Refusal :=
  .next (if sweepOver s then arbitrate (endSweep s) else s)

end Sys2Proof.Machine
end

