-- ==== Sys2Proof/Machine/Exchange.lean ====
section
/-! DEFINITION. The exchange: the frame sent, the judging of the frame received, and the dispatch by command code (sections 9.1 to
9.3, 9.5, 10.3). -/

namespace Sys2Proof.Machine

/-! ### The beginning (R187) -/

/-- An EMPTY frame (10.1). -/
def emptyFrame : Frame := { address := 0, kind := 0x60, flags := 0, payload := [] }

/-- The frame that an exchange beginning now sends: the link answer slot, the queue's head, or EMPTY (R187). -/
def frameOut (s : State) : Frame :=
  match s.link.answerSlot, s.link.upstream with
  | some f, _ => f
  | none, f :: _ => f
  | none, [] => emptyFrame

/-- The chosen frame leaves the slot or the queue (R187). -/
def takeFrameOut (s : State) : State :=
  let out := frameOut s
  let s := { s with link.exchange := some (.carrying out) }
  match s.link.answerSlot with
  | some _ => { s with link.answerSlot := none }
  | none => { s with link.upstream := s.link.upstream.tail }

/-- EXCHANGE_BEGIN (R187): while the port is unpowered the exchange is dark and the edge is the wake source LINK (R145). One exchange
runs at a time (log 28). -/
def execExchangeBegin (s : State) : Host.Outcome State Fault Refusal :=
  .next
    (if s.link.exchange.isSome then s
    else if portPowered s then takeFrameOut s
    else takeWake .link { s with link.exchange := some .dark })

/-! ### The commands by code (10.3) -/

/-- The command that a code names with its parameters; a code that names none is refused with RANGE (R195). -/
def commandOf (code : Byte) (p : List Byte) : State → Reply × State :=
  match code.toNat with
  | 0x01 => cmdIdentify
  | 0x02 => cmdReadStatus p
  | 0x03 => cmdReadEvents p
  | 0x04 => cmdSetEvents p
  | 0x05 => cmdHubReset
  | 0x06 => cmdSweepStart
  | 0x07 => cmdSweepStop
  | 0x08 => cmdChainGate p
  | 0x09 => cmdEnumerate
  | 0x0A => cmdSetProfile p
  | 0x0B => cmdReadSamples p
  | 0x0C => cmdReadPack
  | 0x0D => cmdReadTrip
  | 0x0E => cmdClearTrip
  | 0x0F => cmdClose
  | 0x10 => cmdOpen
  | 0x11 => cmdReadCapture p
  | 0x12 => cmdSleep
  | 0x13 => cmdUpdateBegin p
  | 0x14 => cmdUpdateWindow p
  | 0x15 => cmdUpdateWrite p
  | 0x16 => cmdUpdateSeal p
  | 0x17 => cmdUpdateActivate
  | 0x18 => cmdUpdateAbort
  | 0x19 => cmdLockFloor
  | 0x1A => cmdClearTamper
  | 0x1B => cmdReadTable p
  | _ => cmdUnknown

/-! ### The end (R188, R189) -/

/-- A chain frame of the pack controller: CHAIN_COMMAND or CHAIN_QUERY (10.1). -/
def isChainKind (kind : Byte) : Bool := kind == 0x01 || kind == 0x02

/-- The tests of BAD_FRAME that a frame with a correct check meets: kind, address, and a MANAGE payload that is not empty (R189). -/
def wellDirected (f : Frame) : Bool :=
  if isChainKind f.kind then between 1 24 f.address.toNat
  else f.kind == 0x03 && f.address == 0 && !f.payload.isEmpty

/-- The tests of R189 in their order, none when the frame is accepted; `frame` is the frame received when it is whole with a
correct check. -/
def holdReason (frame : Option Frame) (s : State) : Option HoldOff :=
  if waking s then some .waking
  else match frame with
    | none => some .badFrame
    | some f =>
      if !wellDirected f then some .badFrame
      else if isChainKind f.kind && (decide (s.chain.state ≠ .numbered) || enteringSleep s) then some .chain
      else if f.kind == 0x01 && decide (s.protection.state = .safeOpen) then some .safeOpen
      else if isChainKind f.kind && decide (4 ≤ s.link.forward.length) then some .queueFull
      else if freeCount s = 0 then some .noRoom
      else none

/-- An accepted chain frame joins the Forward Queue (R191). -/
def forwardFrame (f : Frame) (s : State) : State :=
  let s := acceptFrame s
  arbitrate { s with link.forward := s.link.forward ++ [f] }

/-- An accepted frame goes to the Forward Queue or to its owner (R189). -/
def acceptedFrame (f : Frame) (s : State) : State :=
  if isChainKind f.kind then forwardFrame f s
  else match f.payload with
    | [] => s
    | code :: p => dispatch code (commandOf code p) s

/-- The incoming frame of an exchange is judged (R188, R189). A byte not received reads as 0 in a HOLD_OFF. -/
def judgeFrame (rx : List Byte) (s : State) : State :=
  let frame := goodFrame? rx
  if frame.any fun f => f.kind == 0x00 then s
  else match holdReason frame s, frame with
    | some r, _ => holdOff r (rx.getD 0 0) (rx.getD 1 0) s
    | none, some f => acceptedFrame f s
    | none, none => s

/-- EXCHANGE_END (R189): without an exchange in progress, and at the end of a dark one, nothing is judged (R145, R188). -/
def execExchangeEnd (rx : List Byte) (s : State) : Host.Outcome State Fault Refusal :=
  match s.link.exchange with
  | none => .next s
  | some .dark => .next { s with link.exchange := none }
  | some (.carrying _) => .next (judgeFrame rx { s with link.exchange := none })

end Sys2Proof.Machine
end

