-- ==== Sys2Proof/Machine/Clock.lean ====
section
/-! DEFINITION. What happens while no command waits: the event that time alone has made due, and the passing of 10 µs (log 1). -/

namespace Sys2Proof.Machine

/-- The first event of a list whose condition holds. -/
def firstDue (events : List (Bool × Instr)) : Option Instr := (events.find? fun e => e.1).map fun e => e.2

/-- The event that is due by the part's own time and state, when there is one: those of the timers, of the sweep counter, of the
Capture Unit, of the drain and of the Notice Unit. Which of two due events comes first is a DESIGN CHOICE (log 1). -/
def dueEvent (s : State) : Option Instr :=
  firstDue
    [(noticeAdmissible true s || noticeAdmissible false s, .noticeAdmitted),
      (drainOver s, .drainComplete),
      (expired s s.power.drainTimer, .drainTimerExpiry),
      (expired s s.power.watchTimer, .watchTimerExpiry),
      (expired s s.power.settleTimer, .chainSettleEnd),
      (expired s s.sequencer.prechargeTimer, .prechargeTimeout),
      (expired s s.sequencer.deferTimer, .deferTimerExpiry),
      (expired s s.sequencer.dwellTimer, .dwellTimerExpiry),
      (expired s s.sequencer.weldTimer, .weldTimerExpiry),
      (expired s s.sequencer.disagreePos, .disagreementTimerExpiry .pos),
      (expired s s.sequencer.disagreeNeg, .disagreementTimerExpiry .neg),
      (expired s s.sequencer.disagreePre, .disagreementTimerExpiry .pre),
      (expired s s.sequencer.silenceTimer, .silenceTimerExpiry),
      (leavesNow s, .endedContextLeaves),
      (stepDueNow s, .captureStepDue),
      (waitOver s, .syncWaitExpiry),
      (quietOver s, .deferredSlotsDue),
      (quietReached s, .quietWindowStart),
      (slotReached s, .slotDue),
      (sweepOver s, .sweepEnd)]

/-- A tick of the timebase: the sweep counter, the wait and the top capture context count it (R2, R126). -/
def tick (s : State) : State :=
  tickCapture <| beginTick
    { s with
      sweep.ticks := s.sweep.ticks + 1
      sweep.counter := if sweeping s then s.sweep.counter + 1 else s.sweep.counter
      sweep.waitCount := if waitingSync s then s.sweep.waitCount + 1 else s.sweep.waitCount }

/-- Whole seconds spent in DEEP_SLEEP, stopping at the greatest value (R153). -/
def sleepSeconds (s : State) : Word :=
  BitVec.ofNat 32 (min 4294967295 ((s.now - s.power.sleepStart) / 100000))

/-- 10 µs pass: in ACTIVE the tick in progress runs on, in DEEP_SLEEP the sleep duration counts (R2, R153, log 1). -/
def passTime (s : State) : State :=
  let s := { s with now := s.now + 1 }
  match s.power.power with
  | .active =>
    if s.sweep.tickLeft ≤ 1 then tick s else { s with sweep.tickLeft := s.sweep.tickLeft - 1 }
  | .deepSleep => { s with power.record.seconds := sleepSeconds s }
  | .drain | .chainSleep | .wakingDark | .wakingLit => s

end Sys2Proof.Machine
end

