-- ==== Sys2Proof/Machine/Dispatch.lean ====
section
/-! DEFINITION. The meaning of every command: one arm for each constructor of Instr. -/

namespace Sys2Proof.Machine

def exec (i : Instr) (s : State) : Host.Outcome State Fault Refusal :=
  match i with
  | .exchangeBegin => Sys2Proof.Machine.execExchangeBegin s
  | .exchangeEnd rx => Sys2Proof.Machine.execExchangeEnd rx s
  | .unknownCommand code => Sys2Proof.Machine.execUnknownCommand code s
  | .identify => Sys2Proof.Machine.execIdentify s
  | .readStatus params => Sys2Proof.Machine.execReadStatus params s
  | .readEvents params => Sys2Proof.Machine.execReadEvents params s
  | .setEvents params => Sys2Proof.Machine.execSetEvents params s
  | .hubReset => Sys2Proof.Machine.execHubReset s
  | .sweepStart => Sys2Proof.Machine.execSweepStart s
  | .sweepStop => Sys2Proof.Machine.execSweepStop s
  | .chainGate params => Sys2Proof.Machine.execChainGate params s
  | .enumerate => Sys2Proof.Machine.execEnumerate s
  | .setProfile params => Sys2Proof.Machine.execSetProfile params s
  | .readSamples params => Sys2Proof.Machine.execReadSamples params s
  | .readPack => Sys2Proof.Machine.execReadPack s
  | .readTrip => Sys2Proof.Machine.execReadTrip s
  | .clearTrip => Sys2Proof.Machine.execClearTrip s
  | .closeContactors => Sys2Proof.Machine.execClose s
  | .openContactors => Sys2Proof.Machine.execOpen s
  | .readCapture params => Sys2Proof.Machine.execReadCapture params s
  | .sleep => Sys2Proof.Machine.execSleep s
  | .updateBegin params => Sys2Proof.Machine.execUpdateBegin params s
  | .updateWindow params => Sys2Proof.Machine.execUpdateWindow params s
  | .updateWrite params => Sys2Proof.Machine.execUpdateWrite params s
  | .updateSeal params => Sys2Proof.Machine.execUpdateSeal params s
  | .updateActivate => Sys2Proof.Machine.execUpdateActivate s
  | .updateAbort => Sys2Proof.Machine.execUpdateAbort s
  | .lockFloor => Sys2Proof.Machine.execLockFloor s
  | .clearTamper => Sys2Proof.Machine.execClearTamper s
  | .readTable params => Sys2Proof.Machine.execReadTable params s
  | .powerOnReset => Sys2Proof.Machine.execPowerOnReset s
  | .hardReset => Sys2Proof.Machine.execHardReset s
  | .linkWake => Sys2Proof.Machine.execLinkWake s
  | .wakeIn => Sys2Proof.Machine.execWakeIn s
  | .tamperIn => Sys2Proof.Machine.execTamperIn s
  | .syncIn => Sys2Proof.Machine.execSyncIn s
  | .syncWaitExpiry => Sys2Proof.Machine.execSyncWaitExpiry s
  | .slotDue => Sys2Proof.Machine.execSlotDue s
  | .quietWindowStart => Sys2Proof.Machine.execQuietWindowStart s
  | .deferredSlotsDue => Sys2Proof.Machine.execDeferredSlotsDue s
  | .sweepEnd => Sys2Proof.Machine.execSweepEnd s
  | .broadcastSent => Sys2Proof.Machine.execBroadcastSent s
  | .answerReceived rx => Sys2Proof.Machine.execAnswerReceived rx s
  | .responseWindowClose begun => Sys2Proof.Machine.execResponseWindowClose begun s
  | .answerLengthBad length => Sys2Proof.Machine.execAnswerLengthBad length s
  | .strayFrame rx => Sys2Proof.Machine.execStrayFrame rx s
  | .captureStepDue => Sys2Proof.Machine.execCaptureStepDue s
  | .endedContextLeaves => Sys2Proof.Machine.execEndedContextLeaves s
  | .feedbackDebounced contactor closed => Sys2Proof.Machine.execFeedbackDebounced contactor closed s
  | .prechargeTimeout => Sys2Proof.Machine.execPrechargeTimeout s
  | .deferTimerExpiry => Sys2Proof.Machine.execDeferTimerExpiry s
  | .dwellTimerExpiry => Sys2Proof.Machine.execDwellTimerExpiry s
  | .weldTimerExpiry => Sys2Proof.Machine.execWeldTimerExpiry s
  | .disagreementTimerExpiry contactor => Sys2Proof.Machine.execDisagreementTimerExpiry contactor s
  | .silenceTimerExpiry => Sys2Proof.Machine.execSilenceTimerExpiry s
  | .drainComplete => Sys2Proof.Machine.execDrainComplete s
  | .drainTimerExpiry => Sys2Proof.Machine.execDrainTimerExpiry s
  | .watchTimerExpiry => Sys2Proof.Machine.execWatchTimerExpiry s
  | .chainSettleEnd => Sys2Proof.Machine.execChainSettleEnd s
  | .oscillatorStarted => Sys2Proof.Machine.execOscillatorStarted s
  | .verifyEnd => Sys2Proof.Machine.execVerifyEnd s
  | .commitEnd readBack => Sys2Proof.Machine.execCommitEnd readBack s
  | .noticeAdmitted => Sys2Proof.Machine.execNoticeAdmitted s
  | .tamperInDeasserted => Sys2Proof.Machine.execTamperInDeasserted s

end Sys2Proof.Machine
end

