-- ==== Sys2Proof/Machine/Step.lean ====
section
/-! DEFINITION. The step: the command at the front of the queue, or, when none waits, what time brings about. -/

namespace Sys2Proof.Machine

/-- With no command waiting, the event that is due happens, and otherwise 10 µs pass (DESIGN CHOICE, log 1). -/
def idle (s : State) : Host.Outcome State Fault Refusal :=
  match dueEvent s with
  | some i => exec i s
  | none => .next (passTime s)

/-- One step: the command at the front of the queue acts on the state with the rest of the queue. -/
def step (s : State) : Host.Outcome State Fault Refusal :=
  match s.pending with
  | [] => idle s
  | i :: rest => exec i { s with pending := rest }

/-- The command that a word spells by the table's bits put at the front of the queue; no row of the table has bits, so the state is
unchanged (log 2). -/
def State.withFetchWord (s : State) (nbits w : Nat) : State :=
  match decodeTableWord nbits w with
  | some i => { s with pending := i :: s.pending }
  | none => s

end Sys2Proof.Machine
end

