-- ==== Sys2Proof/Safety.lean ====
section
/-! DEFINITION. What holds of a state that obeys the manual's whole-machine sentences: one predicate for each, and the conditions under
which a command is taken. -/

namespace Sys2Proof.Machine

/-! ### Conditions on commands -/

/-- A MANAGE frame with a correct check is accepted now: the port is powered, the part is not WAKING, the exchange is not dark and an
entry of the Upstream Queue is free (R145, R189). -/
structure Accepting (s : State) : Prop where
  powered : portPowered s = true
  awake : waking s = false
  lit : exchangeDark s = false
  room : freeCount s ≠ 0

/-- The timer that an acceptance leaves (R115): restarted with silence_limit when it ran. -/
def silenceAfter (s : State) : Option Nat :=
  if s.sequencer.silenceTimer.isSome then some (s.now + ms ((live s).contactor.silenceLimit.toNat * 10)) else none

/-- The state an accepted frame's owner takes its command on: the exchange is over, an entry is reserved, the silence timer has
restarted (R115, R189). -/
def taken (s : State) : State :=
  { s with
    link.exchange := none
    link.reserved := s.link.reserved + 1
    sequencer.silenceTimer := silenceAfter s }

/-- The taken state with the open UPDATE-WRITE closed (R169). -/
def closed (s : State) : State := { taken s with update.openWrite := none }

/-- The state with a MANAGE_REPLY in the place reserved for it (R193, R195). -/
def replied (code : Byte) (r : Reply) (s : State) : State :=
  { s with
    link.upstream := s.link.upstream ++ [replyFrame code r]
    link.reserved := s.link.reserved - 1 }

/-! ### Invariants -/

/-- The drives that a contactor state allows (R99). -/
def drivesFit (q : Sequencer) : Bool :=
  match q.state with
  | .opened | .weldCheck | .faulted => q.drive == allOpen
  | .precharging => q.drive == ⟨false, true, true⟩
  | .closing => q.drive == ⟨true, true, true⟩
  | .closed => q.drive == ⟨true, true, false⟩
  | .opening => !q.drive.pos && !q.drive.pre

/-- The close-pending mark is held in OPEN alone, and the open-pending mark in CLOSED alone and not during a deferral (R99, R101, R107,
R108). -/
def marksFit (q : Sequencer) : Bool :=
  (!q.closePending || q.state == .opened) && (!q.openPending || (q.state == .closed && q.deferTimer.isNone))

/-- No output is driven in SAFE_OPEN or outside ACTIVE, where the contactor state is OPEN or FAULTED (R96, R118, R139), the pending
marks have their places, and a watch cycle runs in DEEP_SLEEP alone (R149). -/
def outputsSafe (s : State) : Bool :=
  drivesFit s.sequencer && marksFit s.sequencer &&
    (s.protection.state != .safeOpen || s.sequencer.drive == allOpen) &&
    (s.power.power == .active || openOrFaulted s) &&
    (!s.power.cycle || s.power.power == .deepSleep)

/-- The forwarded frames that will still be answered: those in the Forward Queue and one in flight that is not to be discarded. -/
def answersOwed (s : State) : Nat :=
  s.link.forward.length +
    match s.chain.inFlight with
    | some t => if t.requester = .forward ∧ t.discard = false then 1 else 0
    | none => 0

/-- A forwarded transaction addresses a position (R29). -/
def forwardAddressed (s : State) : Bool :=
  match s.chain.inFlight with
  | some t => t.requester != .forward || t.target.isSome
  | none => true

/-- Held plus reserved entries never exceed 16, every reservation is owed to a forwarded frame, and the Forward Queue holds at most
four frames (R191, R193). -/
def queuesFit (s : State) : Bool :=
  decide (s.link.upstream.length + s.link.reserved ≤ 16) && decide (s.link.reserved = answersOwed s) &&
    decide (s.link.forward.length ≤ 4) && forwardAddressed s

/-- The Upstream Queue never holds two NOTICE frames of one channel (R193, R200); a forwarded transaction expects no kind of answer of
its own (R29, R31), so that its CHAIN_ANSWER is no NOTICE. -/
def noticesFit (s : State) : Bool :=
  decide ((s.link.upstream.filter (isNotice true)).length ≤ 1) && decide ((s.link.upstream.filter (isNotice false)).length ≤ 1) &&
    match s.chain.inFlight with
    | some t => t.requester != .forward || t.expect.isNone
    | none => true

/-- The capture stack holds at most four contexts, and the pending set is non-empty only while it holds four (R131). -/
def stackFits (s : State) : Bool :=
  decide (s.capture.stack.length ≤ 4) && (s.capture.pendingSet.byte == 0 || decide (s.capture.stack.length = 4))

/-- The capture buffer holds at most 64 records (R135). -/
def bufferFits (s : State) : Bool := decide (s.capture.buffer.length ≤ 64)

/-- The mismatch counter never exceeds 3, and it is 3 exactly in LOCKED (R174). -/
def mismatchFits (s : State) : Bool :=
  decide (s.update.mismatches ≤ 3) && (decide (s.update.mismatches = 3) == decide (s.update.state = .locked))

/-- A stage exists in the five states that have one, and in no other (R163). -/
def stageFits (s : State) : Bool :=
  s.update.stage.isSome ==
    match s.update.state with
    | .staging | .verifying | .sealed | .committing | .armed => true
    | .idle | .locked => false

/-- The generation of a slot, 0 without its mark. -/
def slotGeneration (s : State) (id : SlotId) : Nat :=
  match slotOf s id with
  | some i => i.generation.toNat
  | none => 0

/-- The live slot holds an image of the live generation; with no live slot the live generation is 0 (R160, R161). -/
def liveSlotFits (s : State) : Bool :=
  match s.tables.liveSlot with
  | some id => (slotOf s id).isSome && slotGeneration s id == (live s).generation.toNat
  | none => (live s).generation == 0

/-- The staged generation is above the live generation (R164). -/
def stageNewer (s : State) : Bool :=
  match s.update.stage with
  | some g => decide ((live s).generation.toNat < g.image.generation.toNat)
  | none => true

/-- A commit carries the staged generation, and its target is not the live slot (R176, R177). -/
def commitFits (s : State) : Bool :=
  (match s.update.commit, s.update.stage with
    | some i, some g => i.generation == g.image.generation
    | some _, none => false
    | none, _ => true) &&
  (match s.update.target with
    | some id => s.tables.liveSlot != some id && s.update.commit.isSome
    | none => s.update.commit.isNone)

/-- An ARMED update's image is in its target slot (R177). -/
def armedFits (s : State) : Bool :=
  s.update.state != .armed ||
    match s.update.target, s.update.commit with
    | some id, some i => slotOf s id == some i
    | _, _ => false

/-- What keeps the live generation from falling (R160 to R162, R164, R176, R177). -/
def generationsFit (s : State) : Bool :=
  liveSlotFits s && stageNewer s && commitFits s && armedFits s && stageFits s

/-- A load would make live the image that is live, or the committed one in ARMED (R162, R185). -/
def loadFits (s : State) : Bool :=
  match s.update.state, s.update.commit with
  | .armed, some i => (loadImage s.tables).1 == i
  | .armed, none => false
  | _, _ => (loadImage s.tables).1 == s.tables.live && (loadImage s.tables).2 == s.tables.liveSlot

/-- A commit targets the slot that is not live, slot A when none is (R176). -/
def targetFits (s : State) : Bool :=
  match s.update.target with
  | some id => id == commitTarget s.tables.liveSlot
  | none => true

/-- What keeps the FLOOR table of the live image under a set floor lock (R164, R176, R183): a commit has the target R176 gives, no update
in progress holds FLOOR, and the FLOOR table of a commit whose table set does not hold FLOOR is the live one. -/
def floorFits (s : State) : Bool :=
  loadFits s && targetFits s && (!s.update.floorLock || !updateHolds .floor s) &&
    match s.update.commit with
    | some i => updateHolds .floor s || i.floor == s.tables.live.floor
    | none => true

end Sys2Proof.Machine
end

