-- ==== Sys2Proof/WellFormed.lean ====
section
/-! DEFINITION. Which command terms can stand for something outside the part: the lengths of Chapter 10. The meanings are
total and do not rest on these checks. -/

namespace Sys2Proof

/-- A MANAGE payload has at most 32 bytes, the command code being the first (10.1). -/
def paramsOk (params : List Byte) : Bool := params.length ≤ 31

/-- The codes 0x01 to 0x1B name commands (10.3). -/
def isCommandCode (code : Byte) : Bool := 1 ≤ code.toNat && code.toNat ≤ 27

/-- The bytes make one whole frame: a header, at most 32 payload bytes as its length field gives, and a check (10.1). -/
def wholeFrame (rx : List Byte) : Bool :=
  match rx with
  | _ :: _ :: _ :: n :: rest => n.toNat ≤ 32 && rest.length == n.toNat + 2
  | _ => false

/-- The command terms that can arise (10.1, R30, R195). -/
def Instr.wellFormed : Instr → Bool
  | .unknownCommand code => !isCommandCode code
  | .readStatus p => paramsOk p
  | .readEvents p => paramsOk p
  | .setEvents p => paramsOk p
  | .chainGate p => paramsOk p
  | .setProfile p => paramsOk p
  | .readSamples p => paramsOk p
  | .readCapture p => paramsOk p
  | .updateBegin p => paramsOk p
  | .updateWindow p => paramsOk p
  | .updateWrite p => paramsOk p
  | .updateSeal p => paramsOk p
  | .readTable p => paramsOk p
  | .answerReceived rx => wholeFrame rx
  | .answerLengthBad n => decide (32 < n.toNat)
  | .exchangeBegin | .exchangeEnd _ | .identify | .hubReset | .sweepStart | .sweepStop | .enumerate
  | .readPack | .readTrip | .clearTrip | .closeContactors | .openContactors | .sleep
  | .updateActivate | .updateAbort | .lockFloor | .clearTamper
  | .powerOnReset | .hardReset | .linkWake | .wakeIn | .tamperIn | .syncIn | .syncWaitExpiry
  | .slotDue | .quietWindowStart | .deferredSlotsDue | .sweepEnd | .broadcastSent
  | .responseWindowClose _ | .strayFrame _ | .captureStepDue | .endedContextLeaves
  | .feedbackDebounced _ _ | .prechargeTimeout | .deferTimerExpiry | .dwellTimerExpiry
  | .weldTimerExpiry | .disagreementTimerExpiry _ | .silenceTimerExpiry | .drainComplete
  | .drainTimerExpiry | .watchTimerExpiry | .chainSettleEnd | .oscillatorStarted | .verifyEnd
  | .commitEnd _ | .noticeAdmitted | .tamperInDeasserted => true

end Sys2Proof
end

