-- ==== Sys2Proof/Certificates/Slice0/Obligations.lean ====
section
/-! DEFINITION. The statements for the provers. `taken`, `closed` and `replied` of Safety.lean say what the acceptance of a MANAGE frame
and its reply do (R115, R169, R189, R193, R195); a state to which one of them is applied differs from the state before by nothing else. -/

open Sys2Proof Sys2Proof.Machine

/-! ### The step and the whole machine -/

/-- A step takes the command at the front of the queue and runs it on the state with the rest of the queue. -/
def Obligations.StepTakesTheFrontCommand : Prop :=
  ∀ (c : Instr) (rest : List Instr) (s : State), s.pending = c :: rest → step s = exec c { s with pending := rest }

/-- The model's choice (log 1): with no command waiting, a step takes the first event of a fixed order that is due: a NOTICE that may
enter, the drain's end, a running timer whose instant has come, an ended capture context, a capture step, the wait's end, the deferred
slots, the quiet window, a slot, the sweep's end (logs 3, 22, 32). It lets 10 µs pass when none is: in ACTIVE the tick in progress runs
on, and its end counts the sweep counter, the wait and the top capture context and begins a tick of the live length (log 14); in
DEEP_SLEEP the sleep duration follows. -/
def Obligations.IdleStepIsDueEventOrTime : Prop :=
  ∀ s : State, s.pending = [] →
    let length := if (live s).sweepHeader.modes.getLsbD 0 then 20 else 10
    let h := (live s).sweepHeader
    let q := s.sequencer
    let notice (urgent : Bool) : Prop :=
      (if urgent then s.notice.owedUrgent else s.notice.owedRoutine) = true ∧ s.link.upstream.length + s.link.reserved < 16 ∧
        (∀ f ∈ s.link.upstream, ¬ (f.kind = 0x62 ∧ f.payload.head? = some (if urgent then 0 else 1))) ∧
        (s.power.power = .active ∨ s.power.power = .drain)
    let drained : Prop :=
      s.power.power = .drain ∧ s.link.upstream = [] ∧ s.link.reserved = 0 ∧ s.link.answerSlot = none ∧ s.link.forward = [] ∧
        s.link.exchange = none ∧ ∀ t, s.chain.inFlight = some t → t.requester ≠ .forward
    let ran (timer : Option Nat) : Prop := ∃ t, timer = some t ∧ t ≤ s.now
    let sweeps : Prop := s.sweep.engine = .running ∨ s.sweep.engine = .stopping
    let slot := (sweepSlot (live s) s.sweep.slotsPassed).offset.toNat
    let events : List (Prop × Instr) :=
      [(notice true ∨ notice false, .noticeAdmitted),
        (drained, .drainComplete),
        (ran s.power.drainTimer, .drainTimerExpiry),
        (ran s.power.watchTimer, .watchTimerExpiry),
        (ran s.power.settleTimer, .chainSettleEnd),
        (ran q.prechargeTimer, .prechargeTimeout),
        (ran q.deferTimer, .deferTimerExpiry),
        (ran q.dwellTimer, .dwellTimerExpiry),
        (ran q.weldTimer, .weldTimerExpiry),
        (ran q.disagreePos, .disagreementTimerExpiry .pos),
        (ran q.disagreeNeg, .disagreementTimerExpiry .neg),
        (ran q.disagreePre, .disagreementTimerExpiry .pre),
        (ran q.silenceTimer, .silenceTimerExpiry),
        (∃ c below, s.capture.stack = c :: below ∧ c.ended = true ∧ c.step ≠ .inFlight ∧ (c.ticksRemaining = 0 ∨ c.leaving = true),
          .endedContextLeaves),
        (∃ c below, s.capture.stack = c :: below ∧ c.ended = false ∧ c.ticksRemaining = 0 ∧ c.nextStep < c.count, .captureStepDue),
        (s.sweep.engine = .waitingSync ∧ h.period.toNat / 4 ≤ s.sweep.waitCount, .syncWaitExpiry),
        (sweeps ∧ s.sweep.quiet = .inside ∧ h.quietEnd.toNat < s.sweep.counter, .deferredSlotsDue),
        (sweeps ∧ quietEnabled (live s) = true ∧ s.sweep.quiet = .before ∧ h.quietStart.toNat ≤ s.sweep.counter, .quietWindowStart),
        (sweeps ∧ s.sweep.slotsPassed < slotCount (live s) ∧ slot ≤ s.sweep.counter ∧
            (quietEnabled (live s) = true → h.quietEnd.toNat < slot → s.sweep.quiet = .after), .slotDue),
        (sweeps ∧ h.period.toNat ≤ s.sweep.counter, .sweepEnd)]
    (∀ before e after, events = before ++ e :: after → (∀ x ∈ before, ¬ x.1) → e.1 → step s = exec e.2 s) ∧
    ((∀ x ∈ events, ¬ x.1) →
      (s.power.power = .active → 1 < s.sweep.tickLeft →
        step s = .next { s with now := s.now + 1, sweep.tickLeft := s.sweep.tickLeft - 1 }) ∧
      (s.power.power = .active → s.sweep.tickLeft ≤ 1 →
        step s = .next
          { s with
            now := s.now + 1
            sweep.ticks := s.sweep.ticks + 1
            sweep.tickSpan := length
            sweep.tickLeft := length
            sweep.counter := if s.sweep.engine = .running ∨ s.sweep.engine = .stopping then s.sweep.counter + 1 else s.sweep.counter
            sweep.waitCount := if s.sweep.engine = .waitingSync then s.sweep.waitCount + 1 else s.sweep.waitCount
            capture.stack := match s.capture.stack with
              | [] => []
              | k :: ks => { k with ticksRemaining := k.ticksRemaining - 1 } :: ks }) ∧
      (s.power.power = .deepSleep →
        step s = .next
          { s with
            now := s.now + 1
            power.record.seconds := BitVec.ofNat 32 (min 4294967295 ((s.now + 1 - s.power.sleepStart) / 100000)) }) ∧
      (s.power.power ≠ .active → s.power.power ≠ .deepSleep → step s = .next { s with now := s.now + 1 }))

/-- Every command of the table completes with a next state and leaves the queue of the commands that wait as it was. -/
def Obligations.EveryCommandCompletesAndLeavesTheQueue : Prop :=
  ∀ (c : Instr) (s : State), ∃ t, exec c s = .next t ∧ t.pending = s.pending

/-! ### Exchanges and the Frame Router -/

/-- EXCHANGE_BEGIN sends the link answer, else the head of the Upstream Queue, else EMPTY; while the port is unpowered the exchange is
dark and the edge is the wake source LINK; a second beginning has no effect (the model's choice, log 28).
EXCHANGE_END without an exchange does nothing (log 3), and the end of a dark one is judged no further. Otherwise it judges the frame
received by the tests of the acceptance table in their order: an IDLE frame is not judged, the first test that applies places its HOLD_OFF
in the link answer slot and changes nothing else, and a chain frame that passes all joins the Forward Queue with a reservation, restarts a
running silence timer and leads to the next grant. -/
def Obligations.ExchangesBeginAndEnd : Prop :=
  (∀ s : State,
     (s.link.exchange = none → portPowered s = true →
       (∀ f, s.link.answerSlot = some f →
         exec .exchangeBegin s = .next { s with link.exchange := some (.carrying f), link.answerSlot := none }) ∧
       (∀ f rest, s.link.answerSlot = none → s.link.upstream = f :: rest →
         exec .exchangeBegin s = .next { s with link.exchange := some (.carrying f), link.upstream := rest }) ∧
       (s.link.answerSlot = none → s.link.upstream = [] →
         exec .exchangeBegin s =
           .next { s with link.exchange := some (.carrying { address := 0, kind := 0x60, flags := 0, payload := [] }) })) ∧
     (s.link.exchange = none → portPowered s = false →
       exec .exchangeBegin s = .next (takeWake .link { s with link.exchange := some .dark })) ∧
     (s.link.exchange ≠ none → exec .exchangeBegin s = .next s)) ∧
  (∀ (rx : List Byte) (s : State),
     (s.link.exchange = none → exec (.exchangeEnd rx) s = .next s) ∧
     (s.link.exchange = some .dark → exec (.exchangeEnd rx) s = .next { s with link.exchange := none })) ∧
  ∀ (rx : List Byte) (out : Frame) (s : State), s.link.exchange = some (.carrying out) →
    let held (r : HoldOff) : Host.Outcome State Fault Refusal :=
      .next
        { s with
          link.exchange := none
          link.answerSlot := some { address := 0, kind := 0x64, flags := 0, payload := [r.code, rx.getD 0 0, rx.getD 1 0] } }
    let chain (f : Frame) : Prop := f.kind = 0x01 ∨ f.kind = 0x02
    let fits (f : Frame) : Prop :=
      (chain f ∧ 1 ≤ f.address.toNat ∧ f.address.toNat ≤ 24) ∨ (f.kind = 0x03 ∧ f.address = 0 ∧ f.payload ≠ [])
    (goodFrame? rx = none → exec (.exchangeEnd rx) s = held (if waking s then .waking else .badFrame)) ∧
    ∀ f, goodFrame? rx = some f →
      (f.kind = 0x00 → exec (.exchangeEnd rx) s = .next { s with link.exchange := none }) ∧
      (f.kind ≠ 0x00 → waking s = true → exec (.exchangeEnd rx) s = held .waking) ∧
      (f.kind ≠ 0x00 → waking s = false → ¬ fits f → exec (.exchangeEnd rx) s = held .badFrame) ∧
      (waking s = false → fits f → chain f → s.chain.state ≠ .numbered ∨ enteringSleep s = true →
        exec (.exchangeEnd rx) s = held .chain) ∧
      (waking s = false → fits f → chain f → s.chain.state = .numbered → enteringSleep s = false →
        f.kind = 0x01 → s.protection.state = .safeOpen → exec (.exchangeEnd rx) s = held .safeOpen) ∧
      (waking s = false → fits f → chain f → s.chain.state = .numbered → enteringSleep s = false →
        (f.kind = 0x01 → s.protection.state ≠ .safeOpen) → 4 ≤ s.link.forward.length →
        exec (.exchangeEnd rx) s = held .queueFull) ∧
      (waking s = false → fits f →
        (chain f → s.chain.state = .numbered ∧ enteringSleep s = false ∧
          (f.kind = 0x01 → s.protection.state ≠ .safeOpen) ∧ s.link.forward.length < 4) →
        freeCount s = 0 → exec (.exchangeEnd rx) s = held .noRoom) ∧
      (waking s = false → fits f → chain f → s.chain.state = .numbered → enteringSleep s = false →
        (f.kind = 0x01 → s.protection.state ≠ .safeOpen) → s.link.forward.length < 4 → freeCount s ≠ 0 →
        exec (.exchangeEnd rx) s =
          .next
            (arbitrate
              { s with
                link.exchange := none
                link.reserved := s.link.reserved + 1
                link.forward := s.link.forward ++ [f]
                sequencer.silenceTimer := silenceAfter s }))

/-- The model's reading of the command rows (log 2): a row of the Controller Port is the end of an exchange that carried its MANAGE
frame, whatever its flags byte and whatever bytes follow the frame; after the code of a command without parameters, and after an unknown
code, any payload bytes may stand. A MANAGE frame that is not accepted: nothing reaches an unpowered or dark exchange, WAKING and a
full Upstream Queue hold the frame off; none of the command rows does anything else then. -/
def Obligations.CommandRowsAreTheirFrames : Prop :=
  (∀ (c : Instr) (code : Byte) (p extra : List Byte) (out : Frame) (s : State),
     c.wellFormed = true → commandFrame c = some (code, p) → s.link.exchange = some (.carrying out) → portPowered s = true →
       let manage (flags : Byte) (payload : List Byte) : List Byte :=
         Frame.bytes { address := 0, kind := 0x03, flags := flags, payload := payload } ++ extra
       (∀ flags, exec c s = exec (.exchangeEnd (manage flags (code :: p))) s) ∧
       (code ∉ ([0x02, 0x03, 0x04, 0x08, 0x0A, 0x0B, 0x11, 0x13, 0x14, 0x15, 0x16, 0x1B] : List Byte) →
         ∀ (flags : Byte) (unused : List Byte), unused.length ≤ 31 →
           exec c s = exec (.exchangeEnd (manage flags (code :: unused))) s)) ∧
  ∀ (c : Instr) (code : Byte) (p : List Byte) (s : State), commandFrame c = some (code, p) →
    let held (r : HoldOff) : Host.Outcome State Fault Refusal :=
      .next
        { s with
          link.exchange := none
          link.answerSlot := some { address := 0, kind := 0x64, flags := 0, payload := [r.code, 0, 3] } }
    (portPowered s = false ∨ exchangeDark s = true → exec c s = .next { s with link.exchange := none }) ∧
    (portPowered s = true → exchangeDark s = false → waking s = true → exec c s = held .waking) ∧
    (portPowered s = true → exchangeDark s = false → waking s = false → freeCount s = 0 → exec c s = held .noRoom)

/-! ### The Frame Router's own commands and the Notice Unit -/

/-- IDENTIFY answers vendor 0x5E17, part 3120, a silicon revision from 1 to 255 and the live generation, and changes nothing.
READ-TRIP answers the protection state and the trip record as they stand, shows an empty record as zeros, and changes nothing. -/
def Obligations.IdentifyAndReadTripReply : Prop :=
  (1 ≤ Config.siliconRevision.toNat ∧ Config.siliconRevision.toNat ≤ 255 ∧
    ∀ s : State, Accepting s →
      exec .identify s =
        .next (replied 0x01
          (.done ([0x5E, 0x17, 0x0C, 0x30, Config.siliconRevision] ++ wordBytes (live s).generation) false) (closed s))) ∧
  ∀ s : State, Accepting s →
    (s.protection.record = none →
      exec .readTrip s = .next (replied 0x0D (.done (s.protection.state.code :: List.replicate 19 0) false) (closed s))) ∧
    ∀ r, s.protection.record = some r →
      exec .readTrip s =
        .next (replied 0x0D
          (.done
            ([s.protection.state.code,
              1 ||| bitAt r.first.position.isSome 1 ||| bitAt r.first.channel.isSome 2 ||| bitAt r.first.value.isSome 3 |||
                bitAt (r.firstResponse == .hard) 4 ||| bitAt (r.level == .hard) 5 ||| bitAt r.resetSince 6,
              r.first.cause.code, byteOf (r.first.position.getD 0), byteOf (r.first.channel.getD 255)] ++
              halfBytes (BitVec.ofInt 16 (r.first.value.getD 0)) ++ r.first.stamp.bytes ++ wordBytes r.first.generation ++
              [byteOf r.first.profile.val, r.power.code, byteOf r.laterCount,
                match r.latestCause with
                | none => 0
                | some c => c.code]) false) (closed s))

/-- READ-STATUS answers the section named, read whole when the command is taken, and changes nothing: GENERAL, SWEEP, CONTACTOR, UPDATE,
CAPTURE, LINK and WAKE in the layout of the formats chapter, with the codes of its tables. The LINK section counts the frame's own
reservation. Any other name, or none, is refused with RANGE. -/
def Obligations.ReadStatusReplies : Prop :=
  ([Power.active, .drain, .chainSleep, .deepSleep, .wakingDark, .wakingLit].map Power.code = [0, 1, 1, 2, 3, 3] ∧
    [Protection.normal, .alert, .safeOpen].map Protection.code = [0, 1, 2] ∧
    [ContactorState.opened, .precharging, .closing, .closed, .opening, .weldCheck, .faulted].map ContactorState.code =
      [0, 1, 2, 3, 4, 5, 6] ∧
    [Engine.stopped, .running, .stopping, .waitingSync].map Engine.code = [0, 1, 2, 3] ∧
    [UpdateState.idle, .staging, .verifying, .sealed, .committing, .armed, .locked].map UpdateState.code = [0, 1, 2, 3, 4, 5, 6] ∧
    [ChainState.unnumbered, .numbering, .numbered, .mismatch].map ChainState.code = [0, 1, 2, 3] ∧
    [CloseResult.closed, .withdrawn, .cancelled, .interrupted, .timedOut, .forced].map CloseResult.code = [1, 2, 3, 4, 5, 6] ∧
    [OpenCause.request, .interrupt, .timeout, .trip].map OpenCause.code = [1, 2, 3, 4] ∧
    [OpenResult.opened, .welded, .feedbackFault].map OpenResult.code = [1, 2, 3] ∧
    [UpdateResult.none, .sealed, .rejectedStructure, .rejectedTag, .commitFailed, .activated, .aborted, .abortedTamper].map
      UpdateResult.code = [0, 1, 2, 3, 4, 5, 6, 7] ∧
    [Table.chainMap, .cellMap, .limits, .floor, .thermal, .sweep, .contactor, .watch].map Table.code = [0, 1, 2, 3, 4, 5, 6, 7] ∧
    [Program.precharge, .close, .opening, .trip].map Program.code = [0, 1, 2, 3] ∧
    [WakeSource.link, .wakeIn, .tamper, .watchLimit, .watchLost].map WakeSource.code = [1, 2, 3, 4, 5] ∧
    [TripCause.limitFloor, .limitProfile, .monitorLost, .contactorFeedback, .weld, .controllerSilence, .prechargeTimeout,
      .watchLimit].map TripCause.code = [1, 2, 3, 4, 5, 6, 7, 8] ∧
    [Reason.state, .busy, .range, .sequence, .locked, .contactors, .tamper, .safeOpen, .chain, .generation].map Reason.code =
      [1, 2, 3, 4, 5, 6, 7, 8, 9, 10] ∧
    [HoldOff.queueFull, .noRoom, .waking, .chain, .safeOpen, .badFrame].map HoldOff.code = [1, 2, 3, 4, 5, 6]) ∧
  ∀ s : State, Accepting s →
    let flag (b : Bool) (i : Nat) : Byte := if b then byteOf (2 ^ i) else 0
    let answers (rest : List Byte) (b : Byte) (contents : List Byte) : Prop :=
      exec (.readStatus (b :: rest)) s = .next (replied 0x02 (.done (b :: contents) false) (closed s))
    let latches : Byte := flag s.update.tamperLatch 0 ||| flag s.update.floorLock 1
    let three (t : Triple) : Byte := flag t.pos 0 ||| flag t.neg 1 ||| flag t.pre 2
    let time (t : Option Nat) : List Byte := match t with
      | none => [0xFF, 0xFF]
      | some n => halfBytes (halfOf n)
    let slot (i : Option Image) : List Byte := match i with
      | none => [0, 0, 0, 0, 0]
      | some i => 1 :: wordBytes i.generation
    let q := s.sequencer
    let u := s.update
    (∀ rest : List Byte,
      answers rest 0
        ([s.power.power.code, s.protection.state.code, q.state.code, s.sweep.engine.code] ++ wordBytes s.sweep.number ++
          wordBytes (live s).generation ++
          [byteOf s.evaluator.profile.val,
            match s.evaluator.pendingProfile with
            | none => 0xFF
            | some p => byteOf p.val,
            u.state.code, s.chain.state.code, byteOf s.chain.enumRecord.count,
            flag s.arbiter.maskForward 0 ||| flag s.arbiter.maskSweep 1, byteOf s.capture.stack.length, latches]) ∧
      answers rest 1
        ([s.sweep.engine.code] ++ wordBytes s.sweep.number ++
          match s.sweep.last with
          | none => List.replicate 11 0
          | some r =>
            [1] ++ wordBytes r.number ++ wordBytes r.generation ++
              [byteOf r.profile.val,
                flag r.flags.overrun 0 ||| flag r.flags.convertHeld 1 ||| flag r.flags.deferred 2 ||| flag r.flags.mirrorGap 3 |||
                  flag r.flags.disturbed 4 ||| flag r.flags.syncLost 5 ||| flag r.flags.sumChecked 6 ||| flag r.flags.sumMismatch 7]) ∧
      answers rest 2
        ([q.state.code, three q.drive, three q.feedback,
            flag q.closePending 0 ||| flag q.openPending 1 ||| flag q.deferTimer.isSome 2] ++
          (match q.lastClose with
            | none => List.replicate 7 0
            | some r => [r.result.code] ++ time r.prechargeMs ++ wordBytes r.sweep) ++
          match q.lastOpen with
          | none => List.replicate 8 0
          | some r =>
            [r.sequence.cause.code ||| flag r.sequence.underLoad 7, r.result.code] ++ time r.sequence.deferMs ++ wordBytes r.sweep) ∧
      answers rest 3
        ([u.state.code] ++
          (match u.stage with
            | none => [0, 0, 0, 0]
            | some g => wordBytes g.image.generation) ++ [u.lastResult.code] ++
          (match u.rejected with
            | none => [0xFF, 0xFF, 0xFF]
            | some (t, i) => byteOf t.code :: halfBytes (halfOf i)) ++
          [byteOf u.mismatches,
            match s.tables.liveSlot with
            | none => 0
            | some .a => 1
            | some .b => 2] ++ slot s.tables.slotA ++ slot s.tables.slotB ++ [latches]) ∧
      answers rest 4
        ([byteOf s.capture.stack.length] ++
          (s.capture.stack.map fun c => (c.program.code ||| flag c.ended 7) :: halfBytes c.id).flatten ++
          [flag s.capture.pendingSet.precharge.isSome 0 ||| flag s.capture.pendingSet.close.isSome 1 |||
              flag s.capture.pendingSet.opening.isSome 2 ||| flag s.capture.pendingSet.trip.isSome 3,
            byteOf s.capture.buffer.length] ++ halfBytes s.capture.nextId) ∧
      answers rest 5
        ([byteOf s.link.forward.length, byteOf s.link.upstream.length, byteOf (s.link.reserved + 1), byteOf (freeCount s - 1)] ++
          halfBytes s.notice.pending ++ halfBytes s.notice.enable ++ halfBytes s.notice.map) ∧
      answers rest 6
        ([s.power.power.code,
            match s.power.record.first with
            | none => 0
            | some w => w.code] ++ halfBytes s.power.record.cycles ++ wordBytes s.power.record.seconds)) ∧
    (∀ (b : Byte) (rest : List Byte), 6 < b.toNat →
      exec (.readStatus (b :: rest)) s = .next (replied 0x02 (.refused .range []) (closed s))) ∧
    exec (.readStatus []) s = .next (replied 0x02 (.refused .range []) (closed s))

/-- READ-EVENTS answers the channel, its request set and the pending set as they stood, and clears the flags of that set and the
channel's notice-owed mark; the other channel keeps its set; any other value is refused with RANGE.
SET-EVENTS replaces the enable set and the channel map, changes no pending flag, and sets or clears the notice-owed mark of a
channel as its request set becomes non-empty or empty; ALERT_OUT follows the new URGENT request set. A payload too short for the two
sets is refused with RANGE. Bit 15 of each set, which names no source, is stored as 0 (the model's choice, log 25). -/
def Obligations.ReadEventsAndSetEvents : Prop :=
  (∀ (b : Byte) (rest : List Byte) (s : State), Accepting s →
    (b = 0 →
      let set := s.notice.pending &&& s.notice.enable &&& s.notice.map
      exec (.readEvents (b :: rest)) s =
        .next (replied 0x03 (.done (0 :: halfBytes set ++ halfBytes s.notice.pending) false)
          { closed s with
            notice :=
              { s.notice with
                pending := s.notice.pending &&& ~~~set
                owedUrgent := false
                owedRoutine :=
                  if s.notice.pending &&& s.notice.enable &&& ~~~s.notice.map = 0 then false else s.notice.owedRoutine } })) ∧
    (b = 1 →
      let set := s.notice.pending &&& s.notice.enable &&& ~~~s.notice.map
      exec (.readEvents (b :: rest)) s =
        .next (replied 0x03 (.done (1 :: halfBytes set ++ halfBytes s.notice.pending) false)
          { closed s with
            notice :=
              { s.notice with
                pending := s.notice.pending &&& ~~~set
                owedRoutine := false
                owedUrgent :=
                  if s.notice.pending &&& s.notice.enable &&& s.notice.map = 0 then false else s.notice.owedUrgent } })) ∧
    (1 < b.toNat → exec (.readEvents (b :: rest)) s = .next (replied 0x03 (.refused .range []) (closed s))) ∧
    exec (.readEvents []) s = .next (replied 0x03 (.refused .range []) (closed s))) ∧
  (∀ (a b c d : Byte) (rest : List Byte) (s : State), Accepting s →
    let enable : Half := (a ++ b) &&& 0x7FFF
    let map : Half := (c ++ d) &&& 0x7FFF
    let set (e m : Half) : Half := s.notice.pending &&& e &&& m
    let mark (old : Bool) (before now : Half) : Bool := if now = 0 then false else if before = 0 then true else old
    ∃ n : NoticeUnit, n.pending = s.notice.pending ∧ n.enable = enable ∧ n.map = map ∧
      n.owedUrgent = mark s.notice.owedUrgent (set s.notice.enable s.notice.map) (set enable map) ∧
      n.owedRoutine = mark s.notice.owedRoutine (set s.notice.enable (~~~s.notice.map)) (set enable (~~~map)) ∧
      exec (.setEvents (a :: b :: c :: d :: rest)) s = .next (replied 0x04 .ok { closed s with notice := n }) ∧
      (alertOut { closed s with notice := n } = true ↔ set enable map ≠ 0)) ∧
  ∀ (p : List Byte) (s : State), Accepting s → p.length < 4 →
    exec (.setEvents p) s = .next (replied 0x04 (.refused .range []) (closed s))

/-- A NOTICE enters the Upstream Queue when its mark is set, an entry is free, no NOTICE of its channel is queued and the power state is
ACTIVE or the drain phase; it carries the channel's request set, clears the mark, and URGENT goes first. None enters otherwise.
A MIRROR that is offered enters when at least five entries are free, with TAINT in SAFE_OPEN, and is dropped with MIRROR_GAP otherwise;
how many of the NOTICEs that may enter at that instant it meets in the queue, none, URGENT alone or both, is left open (free choices,
log 5). The mirrors of a CELLS answer are its two halves and that of an AUX answer is one, each channel with value and status byte, or
zeros when it is not evaluated; with mirroring off none is offered. -/
def Obligations.NoticesAndMirrorsEnter : Prop :=
  let may (urgent : Bool) (s : State) : Prop :=
    (if urgent then s.notice.owedUrgent else s.notice.owedRoutine) = true ∧
      s.link.upstream.length + s.link.reserved < 16 ∧
      (∀ f ∈ s.link.upstream, ¬ (f.kind = 0x62 ∧ f.payload.head? = some (if urgent then 0 else 1))) ∧
      (s.power.power = .active ∨ s.power.power = .drain)
  let placed (payload : List Byte) (s : State) : State :=
    if s.link.upstream.length + s.link.reserved ≤ 11 then
      { s with
        link.upstream := s.link.upstream ++
          [{ address := 0, kind := 0x63, flags := (if s.protection.state = .safeOpen then 0x80 else 0) ||| 1, payload := payload }] }
    else { s with sweep.record := s.sweep.record.map fun r => { r with flags := { r.flags with mirrorGap := true } } }
  let spent (s : State) : State := { s with choices := s.choices + 1 }
  let idle (s : State) : Prop := ¬ may true s ∧ ¬ may false s
  let shown (s : State) (i : Nat) : List Byte :=
    if evaluated (live s) i then halfBytes (BitVec.ofInt 16 (channelAt s i).value) ++ [statusByte (channelAt s i)] else [0, 0, 0]
  let mirror (p : Nat) (kind : Byte) (first n : Nat) (s : State) : State :=
    offerMirror ([byteOf p, kind] ++ wordBytes s.sweep.number ++ ((List.range' ((p - 1) * 20 + first) n).map (shown s)).flatten) s
  (∀ s : State,
    (may true s →
      exec .noticeAdmitted s =
        .next
          { s with
            notice.owedUrgent := false
            link.upstream := s.link.upstream ++
              [{ address := 0, kind := 0x62, flags := 0,
                 payload := 0 :: halfBytes (s.notice.pending &&& s.notice.enable &&& s.notice.map) }] }) ∧
    (¬ may true s → may false s →
      exec .noticeAdmitted s =
        .next
          { s with
            notice.owedRoutine := false
            link.upstream := s.link.upstream ++
              [{ address := 0, kind := 0x62, flags := 0,
                 payload := 1 :: halfBytes (s.notice.pending &&& s.notice.enable &&& ~~~s.notice.map) }] }) ∧
    (idle s → exec .noticeAdmitted s = .next s) ∧
    ∀ u v, exec .noticeAdmitted s = .next u → exec .noticeAdmitted u = .next v → admitNotices s = v) ∧
  (∀ (payload : List Byte) (s : State),
    (idle s → offerMirror payload s = placed payload s) ∧
    (¬ idle s → Config.choice s.choices = false → offerMirror payload s = placed payload (spent s)) ∧
    ∀ u, ¬ idle s → Config.choice s.choices = true → exec .noticeAdmitted (spent s) = .next u →
      (idle u → offerMirror payload s = placed payload u) ∧
      (¬ idle u → Config.choice u.choices = false → offerMirror payload s = placed payload (spent u)) ∧
      ∀ v, ¬ idle u → Config.choice u.choices = true → exec .noticeAdmitted (spent u) = .next v →
        offerMirror payload s = placed payload v) ∧
  ∀ (p : Nat) (s : State),
    ((live s).sweepHeader.modes.getLsbD 3 = false → ∀ k, mirrorAnswer p k s = s) ∧
    ((live s).sweepHeader.modes.getLsbD 3 = true →
      mirrorAnswer p .cells s = mirror p 0x80 8 8 (mirror p 0 0 8 s) ∧ mirrorAnswer p .aux s = mirror p 1 16 4 s)

/-- HUB-RESET with the contactors OPEN or FAULTED takes the DIRECTED reset, an ARMED swap first and last a TAMPER_IN whose kept reading is
asserted, in the same step and without another debounce (the model's reading, log 30): it sets the latch and raises TAMPER. Its reply is
the one entry of the queue. In any other contactor state it is refused with CONTACTORS. -/
def Obligations.HubResetValues : Prop :=
  ∀ s : State, Accepting s →
    (openOrFaulted s = false → exec .hubReset s = .next (replied 0x05 (.refused .contactors []) (closed s))) ∧
    (openOrFaulted s = true →
      let u := swapImage (closed s)
      let length := if (live u).sweepHeader.modes.getLsbD 0 then 20 else 10
      let reset : State :=
        superviseFeedback
          { u with
            update :=
              if u.update.state = .staging ∨ u.update.state = .verifying ∨ u.update.state = .sealed ∨ u.update.state = .committing then
                { u.update with
                  state := .idle, stage := none, window := none, openWrite := none, tag := none, target := none, commit := none
                  commitTampered := false }
              else u.update
            sweep :=
              { u.sweep with
                engine := .stopped, counter := 0, waitCount := 0, rotation := remap (fun _ x => x.rotFirst.toNat) (live u).slots
                reads := [], triggers := [], deferredSlots := [], slotsPassed := 0, quiet := .before, record := none
                tickSpan := if u.power.power = .active then u.sweep.tickSpan else length
                tickLeft := if u.power.power = .active then u.sweep.tickLeft else length }
            chain :=
              { u.chain with
                inFlight := none
                state := if u.chain.state = .numbering then .unnumbered else u.chain.state
                enumNext := 0, enumKinds := [], misses := Vector.replicate 24 0, lost := Vector.replicate 24 false }
            arbiter :=
              { maskForward := false, maskSweep := false, lastGranted := none, highPointer := none, lowPointer := none, highCount := 0
                lowTurnDue := false }
            evaluator :=
              { u.evaluator with
                channels := remap (fun _ c => { c with warn := .clear, counter := 0, tripped := false }) u.evaluator.channels
                pendingProfile := none, matchedVPack := none }
            capture.stack := []
            capture.pendingSet := { precharge := none, close := none, opening := none, trip := none }
            power :=
              { u.power with
                power := .active, drainTimer := none, watchTimer := none, settleTimer := none, frames := [], cycle := false
                cellsAnswered := false, wakeKept := false, persistence := Vector.replicate 480 0, noAnswer := Vector.replicate 24 0 }
            sequencer.closePending := false
            link := { exchange := none, answerSlot := none, forward := [], upstream := [], reserved := 0 }
            notice := { u.notice with pending := 0, owedUrgent := false, owedRoutine := false } }
      (s.update.tamperReading = false → exec .hubReset s = .next (replied 0x05 .ok reset)) ∧
      (s.update.tamperReading = true →
        exec .hubReset s =
          .next (replied 0x05 .ok
            { reset with
              update.tamperLatch := true
              notice :=
                { reset.notice with
                  pending := 0x0010
                  owedUrgent := decide ((0x0010 : Half) &&& reset.notice.enable &&& reset.notice.map ≠ 0)
                  owedRoutine := decide ((0x0010 : Half) &&& reset.notice.enable &&& ~~~reset.notice.map ≠ 0) } })))

/-! ### Commands of the Sweep Engine, the chain, the Evaluator and the Protection Unit -/

/-- In SAFE_OPEN the four commands CLOSE, UPDATE-ACTIVATE, ENUMERATE and SWEEP-START are refused with PROTECTED, and in the drain phase
with STATE, as UPDATE-SEAL outside LOCKED is; an unknown code is refused with RANGE in every state; nothing is changed. -/
def Obligations.RefusalsOnTheStateAlone : Prop :=
  ∀ s : State, Accepting s →
    (s.protection.state = .safeOpen →
      exec .closeContactors s = .next (replied 0x0F (.refused .safeOpen []) (closed s)) ∧
      exec .updateActivate s = .next (replied 0x17 (.refused .safeOpen []) (closed s)) ∧
      exec .enumerate s = .next (replied 0x09 (.refused .safeOpen []) (closed s)) ∧
      exec .sweepStart s = .next (replied 0x06 (.refused .safeOpen []) (closed s))) ∧
    (s.protection.state ≠ .safeOpen → s.power.power = .drain →
      exec .closeContactors s = .next (replied 0x0F (.refused .state []) (closed s)) ∧
      exec .updateActivate s = .next (replied 0x17 (.refused .state []) (closed s)) ∧
      exec .enumerate s = .next (replied 0x09 (.refused .state []) (closed s)) ∧
      exec .sweepStart s = .next (replied 0x06 (.refused .state []) (closed s))) ∧
    (∀ p, s.update.state ≠ .locked → s.power.power = .drain →
      exec (.updateSeal p) s = .next (replied 0x16 (.refused .state []) (closed s))) ∧
    ∀ code : Byte, code ≠ 0x15 → exec (.unknownCommand code) s = .next (replied code (.refused .range []) (closed s))

/-- SWEEP-START past its checks: from STOPPED a sweep begins at once, or in LOCKED mode the wait for SYNC_IN begins with a switch point;
STOPPING goes back to RUNNING; RUNNING and WAITING_SYNC stay as they are. An un-NUMBERED chain is refused with CHAIN and a Sweep Table
without slots with STATE.
SWEEP-STOP by the engine state: RUNNING becomes STOPPING and the sweep goes on; WAITING_SYNC becomes STOPPED at once, where pending
changes take effect and a switch point is offered; STOPPED and STOPPING stay. -/
def Obligations.SweepStartAndStop : Prop :=
  (∀ s : State, Accepting s → s.protection.state ≠ .safeOpen → s.power.power ≠ .drain →
     (s.chain.state ≠ .numbered → exec .sweepStart s = .next (replied 0x06 (.refused .chain []) (closed s))) ∧
     (s.chain.state = .numbered → slotCount (live s) = 0 → exec .sweepStart s = .next (replied 0x06 (.refused .state []) (closed s))) ∧
     (s.chain.state = .numbered → slotCount (live s) ≠ 0 →
       (s.sweep.engine = .stopped → lockedMode (live s) = false →
         exec .sweepStart s = .next (replied 0x06 .ok (arbitrate (beginSweep false (closed s))))) ∧
       (s.sweep.engine = .stopped → lockedMode (live s) = true →
         exec .sweepStart s =
           .next (replied 0x06 .ok (switchPoint { closed s with sweep.engine := .waitingSync, sweep.waitCount := 0 }))) ∧
       (s.sweep.engine = .stopping → exec .sweepStart s = .next (replied 0x06 .ok { closed s with sweep.engine := .running })) ∧
       (s.sweep.engine = .running ∨ s.sweep.engine = .waitingSync → exec .sweepStart s = .next (replied 0x06 .ok (closed s))))) ∧
  ∀ s : State, Accepting s →
    (s.sweep.engine = .running → exec .sweepStop s = .next (replied 0x07 .ok { closed s with sweep.engine := .stopping })) ∧
    (s.sweep.engine = .waitingSync →
      exec .sweepStop s =
        .next (replied 0x07 .ok (arbitrate (pendingThenOffer { closed s with sweep.engine := .stopped })))) ∧
    (s.sweep.engine = .stopped ∨ s.sweep.engine = .stopping → exec .sweepStop s = .next (replied 0x07 .ok (closed s)))

/-- CHAIN-GATE replaces both masks and a grant decision follows; without its byte it is refused with RANGE.
ENUMERATE past PROTECTED and STATE: BUSY unless the engine is STOPPED, the contactors OPEN, the capture stack empty and no numbering
in progress; then the chain is NUMBERING with k = 0 and no kind reported, and the next grant follows.
SET-PROFILE: above 3 RANGE; while STOPPED the profile is active at once and no change is pending; otherwise it becomes pending, or
withdraws the pending one when it is the active profile. -/
def Obligations.ChainGateEnumerateAndSetProfile : Prop :=
  (∀ s : State, Accepting s →
     (∀ (b : Byte) (rest : List Byte),
       exec (.chainGate (b :: rest)) s =
         .next (replied 0x08 .ok
           (arbitrate { closed s with arbiter.maskForward := b.getLsbD 0, arbiter.maskSweep := b.getLsbD 1 }))) ∧
     exec (.chainGate []) s = .next (replied 0x08 (.refused .range []) (closed s))) ∧
  (∀ s : State, Accepting s → s.protection.state ≠ .safeOpen → s.power.power ≠ .drain →
     let idle := s.sweep.engine = .stopped ∧ s.sequencer.state = .opened ∧ s.capture.stack = [] ∧ s.chain.state ≠ .numbering
     (idle →
       exec .enumerate s =
         .next (replied 0x09 .accepted
           (arbitrate { closed s with chain.state := .numbering, chain.enumNext := 0, chain.enumKinds := [] }))) ∧
     (¬ idle → exec .enumerate s = .next (replied 0x09 (.refused .busy []) (closed s)))) ∧
  ∀ s : State, Accepting s →
    (∀ (n : Fin 4) (rest : List Byte),
      (s.sweep.engine = .stopped →
        exec (.setProfile (byteOf n.val :: rest)) s =
          .next (replied 0x0A .ok { closed s with evaluator.profile := n, evaluator.pendingProfile := none })) ∧
      (s.sweep.engine ≠ .stopped → n ≠ s.evaluator.profile →
        exec (.setProfile (byteOf n.val :: rest)) s = .next (replied 0x0A .ok { closed s with evaluator.pendingProfile := some n })) ∧
      (s.sweep.engine ≠ .stopped → n = s.evaluator.profile →
        exec (.setProfile (byteOf n.val :: rest)) s = .next (replied 0x0A .ok { closed s with evaluator.pendingProfile := none }))) ∧
    (∀ (b : Byte) (rest : List Byte), 3 < b.toNat →
      exec (.setProfile (b :: rest)) s = .next (replied 0x0A (.refused .range []) (closed s))) ∧
    exec (.setProfile []) s = .next (replied 0x0A (.refused .range []) (closed s))

/-- READ-SAMPLES answers consecutive records in the VALUES or DETAIL form, at most three in DETAIL and none above index 479, with the
empty record for a channel that is not evaluated; a first index above 479, a count outside 1 to 8 or another form is refused with
RANGE, and a payload too short as well; nothing is changed. The status byte holds status, CLAMPED, warn state and tripped mark, and a
stamp has its kind and its number. -/
def Obligations.ReadSamplesReplies : Prop :=
  (∀ c : Channel,
    statusByte c =
      (match c.status with
        | .none => 0
        | .fresh => 1
        | .held => 2
        | .stale => 3
        | .fault => 4) ||| (if c.clamped then 0x08 else 0) |||
        (match c.warn with
        | .clear => 0
        | .high => 0x10
        | .low => 0x20) ||| (if c.tripped then 0x40 else 0)) ∧
  (∀ (n : Word) (k id : Half) (step : Nat),
    Stamp.absent.bytes = [0, 0, 0, 0, 0] ∧ (Stamp.sweep n).bytes = 1 :: wordBytes n ∧ (Stamp.watch k).bytes = 2 :: 0 :: 0 :: halfBytes k ∧
      (Stamp.capture id step).bytes = 3 :: halfBytes id ++ [byteOf step, 0]) ∧
  (∀ (a b c d : Byte) (rest : List Byte) (s : State), Accepting s →
    let first := a.toNat * 256 + b.toNat
    let shown (i : Nat) : Channel := if evaluated (live s) i then channelAt s i else Channel.empty
    let ok := first ≤ 479 ∧ 1 ≤ c.toNat ∧ c.toNat ≤ 8
    (ok → d = 0 →
      let n := min c.toNat (480 - first)
      exec (.readSamples (a :: b :: c :: d :: rest)) s =
        .next (replied 0x0B
          (.done ([a, b, byteOf n] ++
            ((List.range n).map fun k =>
              halfBytes (BitVec.ofInt 16 (shown (first + k)).value) ++ [statusByte (shown (first + k))]).flatten) false) (closed s))) ∧
    (ok → d = 1 →
      let n := min (min c.toNat 3) (480 - first)
      exec (.readSamples (a :: b :: c :: d :: rest)) s =
        .next (replied 0x0B
          (.done ([a, b, byteOf n] ++
            ((List.range n).map fun k =>
              halfBytes (shown (first + k)).raw ++ [byteOf (shown (first + k)).counter] ++ (shown (first + k)).stamp.bytes).flatten)
            false) (closed s))) ∧
    (¬ ok ∨ 1 < d.toNat →
      exec (.readSamples (a :: b :: c :: d :: rest)) s = .next (replied 0x0B (.refused .range []) (closed s)))) ∧
  ∀ (p : List Byte) (s : State), Accepting s → p.length < 4 →
    exec (.readSamples p) s = .next (replied 0x0B (.refused .range []) (closed s))

/-- READ-PACK answers the pack sense record with every field and changes nothing. After a POWER-ON or HARD reset the record is NONE with
zeros, origin SWEEP and no stamp, and every command but a SENSE answer of the sweep or of a capture leaves it so. -/
def Obligations.ReadPackReplies : Prop :=
  (∀ s : State, Accepting s →
    let r := s.evaluator.pack
    exec .readPack s =
      .next (replied 0x0C
        (.done (halfBytes r.vPack ++ halfBytes r.vLink ++ halfBytes r.iPack ++
          [r.trigger, if r.fromCapture then 1 else 0, r.status.code] ++ r.stamp.bytes) false) (closed s))) ∧
  let fresh : PackSense :=
    { vPack := 0, vLink := 0, iPack := 0, trigger := 0, fromCapture := false, stamp := .absent, status := .none }
  (∀ s t : State, exec .powerOnReset s = .next t ∨ exec .hardReset s = .next t → t.evaluator.pack = fresh) ∧
  ∀ (c : Instr) (s t : State),
    (∀ rx k, c = .answerReceived rx → s.chain.inFlight = some k → k.requester ≠ .capture ∧
      (k.requester = .sweep → k.frame.kind = 0x09 ∨ k.frame.kind = 0x0A)) →
    s.evaluator.pack = fresh → exec c s = .next t → t.evaluator.pack = fresh

/-- CLEAR-TRIP has no effect in NORMAL with an empty record. Otherwise it is granted exactly when no evaluated channel persists, no
position is LOST, the contactors are OPEN or FAULTED and every feedback reads open; the refusal names the failed conditions, the lowest
persisting channel and the lowest LOST position, and changes nothing. -/
def Obligations.ClearTripTestsFourConditions : Prop :=
  ∀ s : State, Accepting s →
    let persists (i : Nat) : Prop :=
      i < 480 ∧ evaluated (live s) i = true ∧ (effective (live s) s.evaluator.profile i).persist ≤ (channelAt s i).counter
    let lost (p : Nat) : Prop := 1 ≤ p ∧ p ≤ 24 ∧ isLost s p = true
    let away : Prop := openOrFaulted s = false
    let contact : Prop := s.sequencer.feedback ≠ allOpen
    let idle : Prop := s.protection.state = .normal ∧ s.protection.record = none
    (idle → exec .clearTrip s = .next (replied 0x0E .ok (closed s))) ∧
    (¬ idle → (∀ i, ¬ persists i) → (∀ p, ¬ lost p) → ¬ away → ¬ contact →
      exec .clearTrip s =
        .next (replied 0x0E .ok (superviseFeedback
          { closed s with
            protection.state := .normal
            protection.record := none
            evaluator.channels := remap (fun _ c => { c with tripped := false }) s.evaluator.channels
            sequencer.state := .opened }))) ∧
    (¬ idle → (∃ i, persists i) ∨ (∃ p, lost p) ∨ away ∨ contact →
      ∃ (bits : Byte) (channel : Half) (position : Byte),
        exec .clearTrip s = .next (replied 0x0E (.refused .state (bits :: halfBytes channel ++ [position])) (closed s)) ∧
        (bits.getLsbD 0 = true ↔ ∃ i, persists i) ∧ (bits.getLsbD 1 = true ↔ ∃ p, lost p) ∧
        (bits.getLsbD 2 = true ↔ away) ∧ (bits.getLsbD 3 = true ↔ contact) ∧ bits &&& 0xF0 = 0 ∧
        (∀ i, persists i → (∀ j, j < i → ¬ persists j) → channel = halfOf i) ∧ ((∀ i, ¬ persists i) → channel = 0xFFFF) ∧
        (∀ p, lost p → (∀ q, q < p → ¬ lost q) → position = byteOf p) ∧ ((∀ p, ¬ lost p) → position = 0))

/-! ### Sweeps and activations -/

/-- A sweep begins at its boundary: pending changes take effect and a switch point is offered where one is, both before the number rises
(the model's choice, log 37); with the chain not NUMBERED or no slots the engine is STOPPED instead; otherwise the engine is RUNNING,
the number rises by 1 and wraps, the counter is 0, the record opens with the live generation and the active profile, FRESH records become
HELD, and a slot with offset 0 acts.
SYNC_IN begins the sweep that waits, with the timebase started afresh, and has no effect outside WAITING_SYNC. The wait that has
reached the period divided by 4 begins it with SYNC_LOST and raises the event; before that SYNC_WAIT_EXPIRY has no effect (log 3). -/
def Obligations.SweepBeginsAndTheWaitEnds : Prop :=
  (∀ (lost : Bool) (s : State),
     let u := atBoundary s
     let v : State :=
       { u with
         sweep :=
           { u.sweep with
             engine := .running, number := u.sweep.number + 1, counter := 0, slotsPassed := 0, deferredSlots := [], quiet := .before
             record := some
               { number := u.sweep.number + 1, generation := (live u).generation, profile := u.evaluator.profile
                 flags := ⟨false, false, false, false, false, lost, false, false⟩ } }
         evaluator :=
           { u.evaluator with
             channels := remap (fun _ c => { c with status := if c.status = .fresh then .held else c.status }) u.evaluator.channels
             pack := { u.evaluator.pack with status := if u.evaluator.pack.status = .fresh then .held else u.evaluator.pack.status }
             matchedVPack := none } }
     (u.chain.state ≠ .numbered ∨ slotCount (live u) = 0 → beginSweep lost s = { u with sweep.engine := .stopped }) ∧
     (u.chain.state = .numbered → slotCount (live u) ≠ 0 → (sweepSlot (live u) 0).offset ≠ 0 → beginSweep lost s = v) ∧
     (u.chain.state = .numbered → slotCount (live u) ≠ 0 → (sweepSlot (live u) 0).offset = 0 → beginSweep lost s = passSlot v)) ∧
  ∀ s : State,
    (s.sweep.engine ≠ .waitingSync → exec .syncIn s = .next s ∧ exec .syncWaitExpiry s = .next s) ∧
    (s.sweep.engine = .waitingSync →
      (let b := beginSweep false s
       let length := if (live b).sweepHeader.modes.getLsbD 0 then 20 else 10
       (b.sweep.engine = .running →
        exec .syncIn s = .next (arbitrate { b with sweep.tickSpan := length, sweep.tickLeft := length })) ∧
       (b.sweep.engine ≠ .running → exec .syncIn s = .next (arbitrate b))) ∧
      (s.sweep.waitCount < (live s).sweepHeader.period.toNat / 4 → exec .syncWaitExpiry s = .next s) ∧
      ((live s).sweepHeader.period.toNat / 4 ≤ s.sweep.waitCount →
        let b := beginSweep true s
        (b.sweep.engine = .running → exec .syncWaitExpiry s = .next (arbitrate (raise .syncLost b))) ∧
        (b.sweep.engine ≠ .running → exec .syncWaitExpiry s = .next (arbitrate b))))

/-- SLOT_DUE: the next slot whose offset the counter has reached is passed, and one behind the quiet window not before the slots deferred
to its end have acted. A slot that is passed acts by its kind when its divider divides the sweep number: CONVERT adds a trigger, held
while reads wait; SENSE and the reads add pairs that the read list does not hold, for CELL_MONITOR positions, and the rotation pointer
moves; a CONVERT or SENSE slot in the quiet window is deferred. With no slot reached nothing happens (log 3). -/
def Obligations.SlotsActAtTheirOffsets : Prop :=
  ∀ s : State,
    let i := s.sweep.slotsPassed
    let g := sweepSlot (live s) i
    let h := (live s).sweepHeader
    let due : Prop :=
      (s.sweep.engine = .running ∨ s.sweep.engine = .stopping) ∧ i < slotCount (live s) ∧ g.offset.toNat ≤ s.sweep.counter ∧
        (quietEnabled (live s) = true → h.quietEnd.toNat < g.offset.toNat → s.sweep.quiet = .after)
    let acts : Prop := s.sweep.number.toNat % g.divider.toNat = 0
    let u : State := { s with sweep.slotsPassed := i + 1 }
    let quiet : Prop := quietEnabled (live s) = true ∧ h.quietStart.toNat ≤ g.offset.toNat ∧ g.offset.toNat ≤ h.quietEnd.toNat
    let add (l : List ReadEntry) (e : ReadEntry) : List ReadEntry := if e ∈ l then l else l ++ [e]
    let q := look s.sweep.rotation 0 i
    let first := g.rotFirst.toNat
    let size := g.rotLast.toNat + 1 - first
    let positions : List Nat :=
      ((if g.fixedFirst = 0 then [] else List.range' g.fixedFirst.toNat (g.fixedLast.toNat + 1 - g.fixedFirst.toNat)) ++
        (List.range g.rotCount.toNat).map fun k => first + (q - first + k) % size).filter fun p => positionKind (live s) p == 1
    let read (kind : ReadKind) : State :=
      { u with
        sweep.reads := (positions.map fun p => ⟨p, kind⟩).foldl add s.sweep.reads
        sweep.rotation :=
          if g.rotCount = 0 then s.sweep.rotation else put s.sweep.rotation i (first + (q - first + g.rotCount.toNat) % size) }
    (¬ due → exec .slotDue s = .next s) ∧
    (due → exec .slotDue s = .next (arbitrate (passSlot s))) ∧
    (¬ acts → passSlot s = u) ∧
    (acts →
      (g.kind.toNat < 2 → quiet →
        passSlot s =
          markSweep (fun f => { f with deferred := true }) { u with sweep.deferredSlots := insertSlot i s.sweep.deferredSlots }) ∧
      (g.kind = 0 → ¬ quiet → s.sweep.reads = [] →
        passSlot s = { u with sweep.triggers := insertTrigger { slot := i, held := false } s.sweep.triggers }) ∧
      (g.kind = 0 → ¬ quiet → s.sweep.reads ≠ [] →
        passSlot s =
          markSweep (fun f => { f with convertHeld := true })
            { u with sweep.triggers := insertTrigger { slot := i, held := true } s.sweep.triggers }) ∧
      (g.kind = 1 → ¬ quiet →
        passSlot s =
          { u with
            sweep.reads := match packPosition (live s) with
              | some p => add s.sweep.reads ⟨p, .sense⟩
              | none => s.sweep.reads }) ∧
      (g.kind = 2 → passSlot s = read .cells) ∧
      (g.kind = 3 → passSlot s = read .aux))

/-- QUIET_WINDOW_START at QS: every trigger of the list is deferred with DEFERRED set and a switch point is offered. DEFERRED_SLOTS_DUE
past QE: the deferred slots, SENSE among them, act one after another in table order (the model's reading, log 12), a CONVERT judged afresh
against the read list and a SENSE adding its read. Neither does anything at any other time (log 3). -/
def Obligations.TheQuietWindow : Prop :=
  ∀ s : State,
    let sweeps : Prop := s.sweep.engine = .running ∨ s.sweep.engine = .stopping
    let starts : Prop :=
      sweeps ∧ quietEnabled (live s) = true ∧ s.sweep.quiet = .before ∧ (live s).sweepHeader.quietStart.toNat ≤ s.sweep.counter
    let ends : Prop := sweeps ∧ s.sweep.quiet = .inside ∧ (live s).sweepHeader.quietEnd.toNat < s.sweep.counter
    (starts → s.sweep.triggers = [] →
      exec .quietWindowStart s = .next (arbitrate (switchPoint { s with sweep.quiet := .inside }))) ∧
    (starts → s.sweep.triggers ≠ [] →
      exec .quietWindowStart s =
        .next (arbitrate (switchPoint (markSweep (fun f => { f with deferred := true })
          { s with
            sweep.quiet := .inside
            sweep.triggers := []
            sweep.deferredSlots := s.sweep.triggers.foldl (fun l e => insertSlot e.slot l) s.sweep.deferredSlots })))) ∧
    (¬ starts → exec .quietWindowStart s = .next s) ∧
    (ends →
      exec .deferredSlotsDue s =
        .next (arbitrate (s.sweep.deferredSlots.foldl
          (fun v i => if (sweepSlot (live v) i).kind = 1 then senseDue v else convertDue i v)
          { s with sweep.quiet := .after, sweep.deferredSlots := [] }))) ∧
    (¬ ends → exec .deferredSlotsDue s = .next s)

/-- SWEEP_END at the period: unfinished work is abandoned with OVERRUN and SWEEP_OVERRUN, a sweep read in flight will be discarded, the sum
check runs when every evaluated cell channel is FRESH of this sweep, the record is completed, and the engine begins the next sweep, waits
for SYNC_IN with a switch point, or stops. Before the period nothing happens (log 3). -/
def Obligations.SweepEndsAtThePeriod : Prop :=
  ∀ s : State,
    let done : Prop := (s.sweep.engine = .running ∨ s.sweep.engine = .stopping) ∧ (live s).sweepHeader.period.toNat ≤ s.sweep.counter
    (¬ done → exec .sweepEnd s = .next s) ∧
    ∀ r : SweepRecord, done → s.sweep.record = some r →
      let flying : Bool := match s.chain.inFlight with
        | some t => t.requester == .sweep && t.target.isSome && !t.discard
        | none => false
      let left : Bool := !s.sweep.reads.isEmpty || !s.sweep.triggers.isEmpty || flying
      let sum : Int := ((cellIndices (live s)).foldl (fun n i => n + (channelAt s i).value) 0 + 100) / 200
      let fresh : Bool :=
        (cellIndices (live s)).all fun i => (channelAt s i).status == .fresh && (channelAt s i).stamp == .sweep s.sweep.number
      let checked : Bool := s.evaluator.matchedVPack.isSome && fresh
      let wrong : Bool := match s.evaluator.matchedVPack with
        | some v => fresh && decide ((live s).sweepHeader.sumTolerance.toNat < (sum - (v.toNat : Int)).natAbs)
        | none => false
      let a := if left then raise .sweepOverrun s else s
      let b := if wrong then raise .sumMismatch a else a
      let u : State :=
        { b with
          chain.inFlight := if flying then s.chain.inFlight.map fun t => { t with discard := true } else s.chain.inFlight
          sweep.reads := []
          sweep.triggers := []
          sweep.record := none
          sweep.last := some
            { r with
              flags :=
                { r.flags with
                  overrun := r.flags.overrun || left, sumChecked := r.flags.sumChecked || checked
                  sumMismatch := r.flags.sumMismatch || wrong } } }
      (s.sweep.engine = .stopping →
        exec .sweepEnd s = .next (arbitrate (pendingThenOffer { u with sweep.engine := .stopped }))) ∧
      (s.sweep.engine = .running → lockedMode (live s) = true →
        exec .sweepEnd s = .next (arbitrate (switchPoint { u with sweep.engine := .waitingSync, sweep.waitCount := 0 }))) ∧
      (s.sweep.engine = .running → lockedMode (live s) = false → exec .sweepEnd s = .next (arbitrate (beginSweep false u)))

/-- The swap of an ARMED activation makes the committed image and its slot live, discards the stage, goes to IDLE with ACTIVATED and
UPDATE_RESULT, gives a tick that begins at this instant its new length (log 14), resets the rotation pointers for a new Sweep Table,
judges the chain by its enumeration record with the FAULTY mark kept (log 20) and the arbiter's count again for a new Chain Map at every
such swap (log 31), and empties the channels no longer evaluated; in any other update state it does nothing.
A pending profile becomes active after the swap. The pending changes come before the switch point that is offered with them, but for a
close that is pending while an activation of the safety set is ARMED, where the order is open (log 5). A sweep boundary offers a switch
point when quiet enable is off before or after the pending changes, or when no sweep can begin after them (log 27). -/
def Obligations.PendingChangesTakeEffect : Prop :=
  ∀ s : State,
    (s.update.state ≠ .armed → swapImage s = s) ∧
    (∀ (g : Stage) (img : Image), s.update.state = .armed → s.update.stage = some g → s.update.commit = some img →
      let t := swapImage s
      let h := ([0, 2, 4, 6].filter fun i => img.chainHeader.classes.getLsbD i).length
      let length := if img.sweepHeader.modes.getLsbD 0 then 20 else 10
      let begins := s.sweep.tickLeft = s.sweep.tickSpan
      t.tables = { s.tables with live := img, liveSlot := s.update.target } ∧
      t.update =
        { s.update with
          state := .idle, stage := none, window := none, openWrite := none, tag := none, target := none, commit := none
          commitTampered := false, lastResult := .activated, rejected := none } ∧
      t.notice = (raise .updateResult s).notice ∧
      t.sweep =
        { s.sweep with
          rotation := if holds g.set .sweep then remap (fun _ x => x.rotFirst.toNat) img.slots else s.sweep.rotation
          tickSpan := if begins then length else s.sweep.tickSpan
          tickLeft := if begins then length else s.sweep.tickLeft } ∧
      t.evaluator =
        { s.evaluator with
          channels := remap (fun i c => if evaluated (live s) i && !evaluated img i then Channel.empty else c) s.evaluator.channels } ∧
      (holds g.set .chainMap = false → t.chain = s.chain ∧ t.arbiter = s.arbiter) ∧
      (holds g.set .chainMap = true →
        t.chain =
          { s.chain with
            misses := remap (fun i n => if positionKind img (i + 1) = 0 then 0 else n) s.chain.misses
            lost := remap (fun i b => if positionKind img (i + 1) = 0 then false else b) s.chain.lost
            state :=
              if s.chain.state = .numbered ∨ s.chain.state = .mismatch then
                (if enumMatches s.chain.enumRecord img then .numbered else .mismatch)
              else s.chain.state } ∧
        t.arbiter =
          if h ≤ s.arbiter.highCount then { s.arbiter with highCount := h, lowTurnDue := true } else s.arbiter) ∧
      t.pending = s.pending ∧ t.choices = s.choices ∧ t.now = s.now ∧ t.protection = s.protection ∧ t.sequencer = s.sequencer ∧
      t.capture = s.capture ∧ t.power = s.power ∧ t.link = s.link) ∧
    (let t := swapImage s
     let spent : State := { s with choices := s.choices + 1 }
     let contended : Prop :=
       s.sequencer.closePending = true ∧ s.update.state = .armed ∧ ∃ g, s.update.stage = some g ∧ touchesSafety g.set = true
     let after := applyPending s
     let offered : Prop :=
       quietEnabled (live s) = false ∨ quietEnabled (live after) = false ∨ after.chain.state ≠ .numbered ∨ slotCount (live after) = 0
     (applyPending s =
       match s.evaluator.pendingProfile with
       | none => t
       | some p => { t with evaluator.profile := p, evaluator.pendingProfile := none }) ∧
     (¬ contended → pendingThenOffer s = switchPoint (applyPending s)) ∧
     (contended → Config.choice s.choices = true → pendingThenOffer s = applyPending (switchPoint spent)) ∧
     (contended → Config.choice s.choices = false → pendingThenOffer s = switchPoint (applyPending spent)) ∧
     (offered → atBoundary s = pendingThenOffer s) ∧ (¬ offered → atBoundary s = applyPending s))

/-! ### The chain -/

/-- The arbiter's choice: ENUMERATE alone in NUMBERING; otherwise the holder that may be granted again, then a LOW requester when a LOW
turn is due, then a HIGH one, then a LOW one, each the first after its pointer in round-robin order; none when no requester that is not
masked is raised. -/
def Obligations.GrantFollowsTheFourSteps : Prop :=
  ∀ s : State,
    let may (q : Requester) : Prop := raised s q = true ∧ masked s q = false
    let high (q : Requester) : Prop := classHigh (live s).chainHeader q = true
    let place (pointer : Option Requester) (q : Requester) : Nat :=
      let n : Requester → Nat := fun r => match r with
        | .forward => 0
        | .sweep => 1
        | .capture => 2
        | .watch => 3
        | .enumerate => 0
      match pointer with
      | none => n q
      | some .enumerate => n q
      | some r => (n q + 3 - n r) % 4
    let competes (q : Requester) : Prop := q ≠ .enumerate ∧ may q
    (s.chain.state = .numbering → chooseGrant s = some .enumerate) ∧
    (s.chain.state ≠ .numbering →
      (∀ q, s.arbiter.lastGranted = some q → q ≠ .enumerate → holdOn (live s).chainHeader q = true → may q → chooseGrant s = some q) ∧
      ((∀ q, s.arbiter.lastGranted = some q → q ≠ .enumerate → ¬ (holdOn (live s).chainHeader q = true ∧ may q)) →
        (∀ q, competes q → ¬ high q → (s.arbiter.lowTurnDue = true ∨ ∀ r, competes r → ¬ high r) →
          (∀ r, competes r → ¬ high r → place s.arbiter.lowPointer q ≤ place s.arbiter.lowPointer r) → chooseGrant s = some q) ∧
        (∀ q, competes q → high q → (s.arbiter.lowTurnDue = false ∨ ∀ r, competes r → high r) →
          (∀ r, competes r → high r → place s.arbiter.highPointer q ≤ place s.arbiter.highPointer r) → chooseGrant s = some q)) ∧
      ((∀ q, ¬ competes q) → chooseGrant s = none))

/-- Who is raised, masked, HIGH and held is as the manual says, and a decision with the chain free grants the requester chosen. A grant is
recorded: a HIGH one moves the HIGH pointer and counts, stopping at H, where a LOW turn falls due; a LOW one moves the LOW pointer and
clears count and mark; one of ENUMERATE leaves all. FORWARD sends the head of the Forward Queue as received; SWEEP its first ready
trigger, else the head of the read list, and in the quiet window the first read that is no SENSE, for which alone it is raised there (the
model's reading, log 13), and the held triggers become ready with the list empty; WATCH the next frame of the Power Manager; ENUMERATE the release, then ASSIGN(k). -/
def Obligations.GrantsAreRecordedAndSent : Prop :=
  (∀ h : ChainHeader,
    [Requester.forward, .sweep, .capture, .watch].map (classHigh h) = [0, 2, 4, 6].map h.classes.getLsbD ∧
      [Requester.forward, .sweep, .capture, .watch].map (holdOn h) = [1, 3, 5, 7].map h.classes.getLsbD) ∧
  ∀ s : State,
    let h := ([0, 2, 4, 6].filter fun i => (live s).chainHeader.classes.getLsbD i).length
    let n := min h (s.arbiter.highCount + 1)
    let broadcast (q : Requester) (origin kind : Byte) (payload : List Byte) (v : State) : State :=
      { v with
        chain.inFlight := some
          { requester := q, frame := { address := 31, kind := kind, flags := origin, payload := payload }, target := none
            expect := none, window := (live s).chainHeader.window, discard := false, context := none } }
    let addressed (q : Requester) (origin : Byte) (p : Nat) (kind expect : Byte) (payload : List Byte) (v : State) : State :=
      { v with
        chain.inFlight := some
          { requester := q, frame := { address := byteOf p, kind := kind, flags := origin, payload := payload }, target := some p
            expect := some expect, window := (live s).chainHeader.window, discard := false, context := none } }
    let quiet : Prop :=
      (s.sweep.engine = .running ∨ s.sweep.engine = .stopping) ∧ quietEnabled (live s) = true ∧
        (live s).sweepHeader.quietStart.toNat ≤ s.sweep.counter ∧ s.sweep.counter ≤ (live s).sweepHeader.quietEnd.toNat
    let ready := s.sweep.triggers.find? fun t => !t.held
    let granted (q : Requester) : State := recordGrant q s
    let read (e : ReadEntry) : State :=
      let left := s.sweep.reads.erase e
      let kinds : Byte × Byte := match e.kind with
        | .cells => (0x09, 0x11)
        | .aux => (0x0A, 0x12)
        | .sense => (0x0B, 0x13)
      addressed .sweep 1 e.position kinds.1 kinds.2 []
        { granted .sweep with
          sweep.reads := left
          sweep.triggers := if left = [] then s.sweep.triggers.map fun t => { t with held := false } else s.sweep.triggers }
    (raised s .forward = true ↔ s.link.forward ≠ []) ∧
    (raised s .sweep = true ↔ if quiet then ∃ e ∈ s.sweep.reads, e.kind ≠ .sense else ready ≠ none ∨ s.sweep.reads ≠ []) ∧
    (raised s .capture = true ↔ ∃ c, s.capture.stack.head? = some c ∧ c.step = .due) ∧
    (raised s .watch = true ↔ s.power.frames ≠ [] ∧ s.power.settleTimer = none) ∧
    [Requester.forward, .sweep, .capture, .watch].map (masked s) = [s.arbiter.maskForward, s.arbiter.maskSweep, false, false] ∧
    (s.chain.inFlight ≠ none ∨ s.chain.linkPowered = false ∨ chooseGrant s = none → arbitrate s = s) ∧
    (∀ q, s.chain.inFlight = none → s.chain.linkPowered = true → chooseGrant s = some q →
      (grant q s).chain.inFlight ≠ none ∨ chooseGrant (grant q s) = none → arbitrate s = grant q s) ∧
    (∀ q, q ≠ .enumerate → classHigh (live s).chainHeader q = true →
      recordGrant q s =
        { s with
          arbiter :=
            { s.arbiter with
              lastGranted := some q, highPointer := some q, highCount := n, lowTurnDue := s.arbiter.lowTurnDue || decide (h ≤ n) } }) ∧
    (∀ q, q ≠ .enumerate → classHigh (live s).chainHeader q = false →
      recordGrant q s =
        { s with arbiter := { s.arbiter with lastGranted := some q, lowPointer := some q, highCount := 0, lowTurnDue := false } }) ∧
    recordGrant .enumerate s = s ∧
    (∀ f rest, s.link.forward = f :: rest →
      grant .forward s =
        { granted .forward with
          link.forward := rest
          chain.inFlight := some
            { requester := .forward, frame := f, target := some f.address.toNat, expect := none, window := (live s).chainHeader.window
              discard := false, context := none } }) ∧
    (quiet → ∀ e, (s.sweep.reads.find? fun e => e.kind != .sense) = some e → grant .sweep s = read e) ∧
    (¬ quiet → ∀ t, ready = some t →
      grant .sweep s =
        broadcast .sweep 1 0x08 [s.sweep.number.extractLsb' 0 8]
          { granted .sweep with sweep.triggers := s.sweep.triggers.filter fun u => u.slot != t.slot }) ∧
    (¬ quiet → ready = none → ∀ e, s.sweep.reads.head? = some e → grant .sweep s = read e) ∧
    (∀ f rest, s.power.frames = f :: rest →
      let v : State := { granted .watch with power.frames := rest }
      grant .watch s =
        match f with
        | .chainWake => broadcast .watch 3 0x0E [] v
        | .trigger => broadcast .watch 3 0x08 [s.power.watchCount.extractLsb' 0 8] v
        | .readCells p => addressed .watch 3 p 0x09 0x11 [] v
        | .readAux p => addressed .watch 3 p 0x0A 0x12 [] v
        | .chainSleep => broadcast .watch 3 0x0D [] v) ∧
    (s.chain.enumNext = 0 → grant .enumerate s = broadcast .enumerate 0 0x0C [0] s) ∧
    (s.chain.enumNext ≠ 0 →
      grant .enumerate s = addressed .enumerate 0 s.chain.enumNext 0x0C 0x14 [byteOf s.chain.enumNext] s)

/-- An addressed forwarded transaction ends by its answer, by the window, or by a bad length, and its CHAIN_ANSWER enters the queue in the
reservation made for it: the answer's payload and kind when its check, its address and its kind are right, an empty payload with the
NO_ANSWER or BAD_ANSWER flag otherwise, TAINT in SAFE_OPEN. No miss count and no LOST mark changes. One to be discarded leaves nothing. -/
def Obligations.ForwardedOutcomeGoesUp : Prop :=
  ∀ (s : State) (t : Transaction) (p : Nat), s.chain.inFlight = some t → t.requester = .forward → t.target = some p → t.expect = none →
    let free : State := { s with chain.inFlight := none }
    let up (kind flags : Byte) (payload : List Byte) : Host.Outcome State Fault Refusal :=
      .next (arbitrate
        { free with
          link.reserved := s.link.reserved - 1
          link.upstream := s.link.upstream ++
            [{ address := byteOf p, kind := 0x40 + kind
               flags := (if s.protection.state = .safeOpen then 0x80 else 0) ||| flags ||| 4, payload := payload }] })
    (t.discard = true →
      (∀ rx f c, wholeFrame? rx = some (f, c) → exec (.answerReceived rx) s = .next (arbitrate free)) ∧
      (∀ begun, exec (.responseWindowClose begun) s = .next (arbitrate free)) ∧
      (∀ n : Byte, 32 < n.toNat → exec (.answerLengthBad n) s = .next (arbitrate free))) ∧
    (t.discard = false →
      (∀ rx f c, wholeFrame? rx = some (f, c) →
        (check f.body = c ∧ f.address = byteOf p ∧ 1 ≤ f.kind.toNat ∧ f.kind.toNat ≤ 31 →
          exec (.answerReceived rx) s = up f.kind 0 f.payload) ∧
        (¬ (check f.body = c ∧ f.address = byteOf p ∧ 1 ≤ f.kind.toNat ∧ f.kind.toNat ≤ 31) →
          exec (.answerReceived rx) s = up 0 0x10 [])) ∧
      exec (.responseWindowClose false) s = up 0 0x20 [] ∧
      exec (.responseWindowClose true) s = up 0 0x10 [] ∧
      ∀ n : Byte, 32 < n.toNat → exec (.answerLengthBad n) s = up 0 0x10 [])

/-- A broadcast ends when it has been sent: the release ASSIGN makes k 1, a CHAIN_WAKE in a watch cycle or in WAKING starts the settle of
2 ms, the TRIGGER of a watch cycle leads to its next frame, a CHAIN_SLEEP ends the cycle or enters DEEP_SLEEP with the watch counts at 0,
the watch timer started and the link unpowered, where a kept wake source begins WAKING at once. A kept source ends a cycle at the end of
the broadcast in flight, its CHAIN_SLEEP among them, with the link left powered (the model's reading, log 21). The next grant follows. A
frame no transaction awaits changes nothing, nor do ends of transactions that are not in flight (log 3). -/
def Obligations.BroadcastsEndAndStraysDoNothing : Prop :=
  ∀ s : State,
    (∀ t : Transaction, s.chain.inFlight = some t → t.target = none →
      let free : State := { s with chain.inFlight := none }
      let woken (v : State) : State :=
        { v with
          power :=
            { v.power with
              power := .wakingDark, watchTimer := none, settleTimer := none, frames := [], cycle := false, cellsAnswered := false
              wakeKept := false, persistence := Vector.replicate 480 0, noAnswer := Vector.replicate 24 0 } }
      let interval := (live s).watch.interval.toNat
      let timer : Option Nat := if interval = 0 then none else some (s.now + interval * 100000)
      let kept : Prop := s.power.cycle = true ∧ s.power.wakeKept = true
      let asleep : State :=
        { free with
          chain.linkPowered := false
          power :=
            { s.power with
              power := .deepSleep, watchTimer := timer, sleepStart := s.now, persistence := Vector.replicate 480 0
              noAnswer := Vector.replicate 24 0 } }
      (t.requester = .enumerate → exec .broadcastSent s = .next (arbitrate { free with chain.enumNext := 1 })) ∧
      (t.requester = .sweep ∨ t.requester = .forward ∨ t.requester = .capture → exec .broadcastSent s = .next (arbitrate free)) ∧
      (t.requester = .watch → kept → exec .broadcastSent s = .next (arbitrate (woken free))) ∧
      (t.requester = .watch → ¬ kept →
        (t.frame.kind = 0x0E →
          exec .broadcastSent s =
            .next (arbitrate
              { free with
                power.settleTimer :=
                  if s.power.cycle = true ∨ waking s = true then some (s.now + 200) else s.power.settleTimer })) ∧
        (t.frame.kind = 0x08 → exec .broadcastSent s = .next (arbitrate free)) ∧
        (t.frame.kind = 0x0D → s.power.power = .chainSleep →
          exec .broadcastSent s = .next (arbitrate (if s.power.wakeKept then woken asleep else asleep))) ∧
        (t.frame.kind = 0x0D → s.power.power ≠ .chainSleep → s.power.cycle = true →
          exec .broadcastSent s =
            .next (arbitrate { free with power.cycle := false, power.watchTimer := timer, chain.linkPowered := false })) ∧
        (t.frame.kind = 0x0D → s.power.power ≠ .chainSleep → s.power.cycle = false → exec .broadcastSent s = .next (arbitrate free))) ∧
      (∀ rx, exec (.answerReceived rx) s = .next s) ∧ (∀ begun, exec (.responseWindowClose begun) s = .next s) ∧
      ∀ n, exec (.answerLengthBad n) s = .next s) ∧
    (∀ t p, s.chain.inFlight = some t → t.target = some p → exec .broadcastSent s = .next s) ∧
    (s.chain.inFlight = none →
      exec .broadcastSent s = .next s ∧ (∀ rx, exec (.answerReceived rx) s = .next s) ∧
      (∀ begun, exec (.responseWindowClose begun) s = .next s) ∧ ∀ n, exec (.answerLengthBad n) s = .next s) ∧
    ∀ rx, exec (.strayFrame rx) s = .next s

/-- An ASSIGN ends: a kind is appended and the position's misses are cleared, k goes on to 24, and NO_ANSWER, BAD_ANSWER or position 24
end the enumeration, which is judged against the live Chain Map and raises CHAIN_RESULT. -/
def Obligations.EnumerationEndsAndIsJudged : Prop :=
  ∀ (s : State) (t : Transaction) (k : Nat), s.chain.inFlight = some t → t.requester = .enumerate → t.target = some k →
    t.expect = some 0x14 → 1 ≤ k → k ≤ 24 →
    let ended (kinds : List Byte) (faulty : Bool) (v : State) : State :=
      let count := kinds.length
      let same : Prop := faulty = false ∧ count = (allPositions.filter fun p => positionKind (live s) p != 0).length ∧
        ∀ j, j < count → kinds.getD j 0 = positionKind (live s) (j + 1)
      raise .chainResult
        { v with
          chain.enumRecord := { count := count, kinds := kinds, faulty := faulty }
          chain.state := if same then .numbered else .mismatch }
    let free : State := { s with chain.inFlight := none }
    (exec (.responseWindowClose false) s = .next (arbitrate (ended s.chain.enumKinds false free))) ∧
    (exec (.responseWindowClose true) s = .next (arbitrate (ended s.chain.enumKinds true free))) ∧
    (∀ m : Byte, 32 < m.toNat → exec (.answerLengthBad m) s = .next (arbitrate (ended s.chain.enumKinds true free))) ∧
    ∀ rx f c, wholeFrame? rx = some (f, c) →
      let kinds := s.chain.enumKinds ++ [f.payload.getD 0 0]
      let v : State :=
        { free with
          chain.enumKinds := kinds
          chain.misses := s.chain.misses.setIfInBounds (k - 1) 0
          chain.lost := s.chain.lost.setIfInBounds (k - 1) false }
      let good : Prop := check f.body = c ∧ f.address = byteOf k ∧ f.kind = 0x14 ∧ f.payload.length = 1
      (good → k < 24 → exec (.answerReceived rx) s = .next (arbitrate { v with chain.enumNext := k + 1 })) ∧
      (good → k = 24 → exec (.answerReceived rx) s = .next (arbitrate (ended kinds false v))) ∧
      (¬ good → exec (.answerReceived rx) s = .next (arbitrate (ended s.chain.enumKinds true free)))

/-- A sweep read that ends in NO_ANSWER or BAD_ANSWER, by the window, by a length above 32, or by an answer with a wrong check, address,
kind or length, counts as a miss at its position up to 7. Below the lost threshold, and at a position already LOST, nothing else
happens; reaching it makes the position LOST: its channels and a pack sense record of it are STALE, a MONITOR_LOST trip with the position
and the sweep number is taken, and the event is raised. -/
def Obligations.MissesMakeAPositionLost : Prop :=
  ∀ (s : State) (t : Transaction) (p length : Nat) (kind : Byte),
    s.chain.inFlight = some t → t.requester = .sweep → t.target = some p → 1 ≤ p → p ≤ 24 → t.expect = some kind →
    (kind, length) ∈ [((0x11 : Byte), 32), (0x12, 8), (0x13, 7)] →
    let n := min 7 (look s.chain.misses 0 (p - 1) + 1)
    let u : State := { s with chain.inFlight := none, chain.misses := s.chain.misses.setIfInBounds (p - 1) n }
    let marked : State :=
      { u with
        chain.lost := s.chain.lost.setIfInBounds (p - 1) true
        evaluator.channels :=
          remap (fun i c => if i / 20 + 1 = p then { c with status := if c.status = .none then .none else .stale } else c)
            s.evaluator.channels
        evaluator.pack.status :=
          if packPosition (live s) = some p ∧ s.evaluator.pack.status ≠ .none then .stale else s.evaluator.pack.status }
    let missed : Host.Outcome State Fault Refusal :=
      .next (arbitrate
        (if look s.chain.lost false (p - 1) = true ∨ n < (live s).chainHeader.lostThreshold.toNat then u
        else
          raise .monitorLost (takeOutsideTrip
            { cause := .monitorLost, position := some p, channel := none, value := none, stamp := .sweep s.sweep.number
              generation := (live s).generation, profile := s.evaluator.profile } marked)))
    (∀ begun, exec (.responseWindowClose begun) s = missed) ∧
    (∀ m : Byte, 32 < m.toNat → exec (.answerLengthBad m) s = missed) ∧
    ∀ rx f c, wholeFrame? rx = some (f, c) →
      ¬ (check f.body = c ∧ f.address = byteOf p ∧ f.kind = kind ∧ f.payload.length = length) → exec (.answerReceived rx) s = missed

/-- A good CELLS or AUX answer of the sweep clears the misses of its position, and its codes are evaluated one after another in channel
order before the mirrors are offered and the next grant is made.
A good SENSE answer of the sweep writes the pack sense record FRESH with the sweep number, keeps V_PACK as matched when the trigger
byte is the low byte of the sweep number, lets the Sequencer judge the record and offers the mirror.
A good answer to a read whose sweep has ended meanwhile clears the misses and is neither evaluated nor mirrored. -/
def Obligations.SweepAnswersAreEvaluated : Prop :=
  (∀ (s : State) (t : Transaction) (p : Nat) (rx : List Byte) (f : Frame),
     s.chain.inFlight = some t → t.requester = .sweep → t.target = some p → t.discard = false → goodFrame? rx = some f → f.address = byteOf p →
     let u : State :=
       { s with
         chain.inFlight := none
         chain.misses := s.chain.misses.setIfInBounds (p - 1) 0
         chain.lost := s.chain.lost.setIfInBounds (p - 1) false }
     let code (k : Nat) : Half := f.payload.getD (2 * k) 0 ++ f.payload.getD (2 * k + 1) 0
     (t.frame.kind = 0x09 → t.expect = some 0x11 → f.kind = 0x11 → f.payload.length = 32 →
       exec (.answerReceived rx) s =
         .next (arbitrate (mirrorAnswer p .cells
           ((List.range 16).foldl (fun v k => evaluateChannel p k (code k) v) u)))) ∧
     (t.frame.kind = 0x0A → t.expect = some 0x12 → f.kind = 0x12 → f.payload.length = 8 →
       exec (.answerReceived rx) s =
         .next (arbitrate (mirrorAnswer p .aux
           ((List.range 4).foldl (fun v k => evaluateChannel p (16 + k) (code k) v) u))))) ∧
  (∀ (s : State) (t : Transaction) (p length : Nat) (kind : Byte) (rx : List Byte) (f : Frame),
     s.chain.inFlight = some t → t.requester = .sweep → t.target = some p → t.discard = true → t.expect = some kind →
     (kind, length) ∈ [((0x11 : Byte), 32), (0x12, 8), (0x13, 7)] → goodFrame? rx = some f → f.address = byteOf p → f.kind = kind →
     f.payload.length = length →
     exec (.answerReceived rx) s =
       .next (arbitrate
         { s with
           chain.inFlight := none
           chain.misses := s.chain.misses.setIfInBounds (p - 1) 0
           chain.lost := s.chain.lost.setIfInBounds (p - 1) false })) ∧
  ∀ (s : State) (t : Transaction) (p : Nat) (rx : List Byte) (f : Frame) (a b c d e g h : Byte),
    s.chain.inFlight = some t → t.requester = .sweep → t.target = some p → t.discard = false → t.frame.kind = 0x0B → t.expect = some 0x13 →
    goodFrame? rx = some f → f.address = byteOf p → f.kind = 0x13 → f.payload = [a, b, c, d, e, g, h] →
    let low := s.sweep.number.extractLsb' 0 8
    let u : State :=
      { s with
        chain.inFlight := none
        chain.misses := s.chain.misses.setIfInBounds (p - 1) 0
        chain.lost := s.chain.lost.setIfInBounds (p - 1) false
        evaluator.pack :=
          { vPack := a ++ b, vLink := c ++ d, iPack := e ++ g, trigger := h, fromCapture := false, stamp := .sweep s.sweep.number
            status := .fresh }
        evaluator.matchedVPack := if h = low then some (a ++ b) else s.evaluator.matchedVPack }
    let v := judgeRecord u
    exec (.answerReceived rx) s =
      .next (arbitrate
        (if (live v).sweepHeader.modes.getLsbD 3 = true then
          offerMirror ([byteOf p, 2] ++ wordBytes v.sweep.number ++ [a, b, c, d, e, g, h] ++ [if h = v.sweep.number.extractLsb' 0 8 then 1 else 0]) v
        else v))

/-- A watch read ends. NO_ANSWER and BAD_ANSWER count a miss as a sweep read does, with the cycle's WATCH stamp; a good answer clears the
misses, its evaluated channels are written with that stamp and without judging, and then each is judged in channel order: a sample
beyond the watch thresholds, drawn in by the floor, or a sensor fault adds to the watch counter up to 3 and any other clears it, and the
count that reaches the watch persistence trips WATCH_LIMIT, or LIMIT_FLOOR beyond a floor threshold, with LIMIT_TRIP, and with the source
WATCH_LIMIT after all. The ratio code of an AUX code above 4095 is a free value that is kept and read (the model's choice, log 9). A READ_AUX then judges the position: answered in this cycle clears its no-answer count, and the second cycle
without an answer takes WATCH_LOST. A source kept during the transaction ends the cycle in WAKING. -/
def Obligations.WatchReadsAreJudged : Prop :=
  (∀ (p c : Nat) (code : Half) (s : State),
    let i := (p - 1) * 20 + c
    let old := channelAt s i
    let raw := if 16 ≤ i % 20 then halfOf (ratioCode code) else code
    let write (new : Channel) (v : State) : State := { v with evaluator.channels := s.evaluator.channels.setIfInBounds i new }
    (evaluated (live s) i = false → storeWatchChannel p c code s = s) ∧
    (evaluated (live s) i = true → readingOf (live s) i code = .fault →
      storeWatchChannel p c code s =
        write { old with raw := raw, stamp := .watch s.power.watchCount, status := .fault }
          (if old.status = .fault then s else raise .limitWarn s)) ∧
    ∀ v clamped, evaluated (live s) i = true → readingOf (live s) i code = .value v clamped →
      storeWatchChannel p c code s =
        write { old with value := v, clamped := clamped, raw := raw, stamp := .watch s.power.watchCount, status := .fresh } s) ∧
  (∀ (p c : Nat) (tripped : Bool) (s : State),
    let i := (p - 1) * 20 + c
    let r := channelAt s i
    let w := (live s).watch
    let f := floorRecord (live s) (classOf (cellEntry (live s) i))
    let aux := 16 ≤ i % 20
    let floorOver : Int := if aux then f.otTrip.toInt else f.ovTrip.toNat
    let floorUnder : Int := if aux then f.utTrip.toInt else f.uvTrip.toNat
    let above : Int := min (if aux then w.ot.toInt else w.ov.toNat) floorOver
    let under : Int := max (if aux then w.ut.toInt else w.uv.toNat) floorUnder
    let before := look s.power.persistence 0 i
    let count := if r.status = .fault ∨ above < r.value ∨ r.value < under then min 3 (before + 1) else 0
    let u : State := { s with power.persistence := s.power.persistence.setIfInBounds i count }
    (evaluated (live s) i = false → judgeWatchChannel p c (tripped, s) = (tripped, s)) ∧
    (evaluated (live s) i = true → ¬ (before < w.persistence.toNat ∧ w.persistence.toNat ≤ count) →
      judgeWatchChannel p c (tripped, s) = (tripped, u)) ∧
    (evaluated (live s) i = true → before < w.persistence.toNat → w.persistence.toNat ≤ count →
      judgeWatchChannel p c (tripped, s) =
        (true, raise .limitTrip (takeOutsideTrip
          { cause := if r.status ≠ .fault ∧ (floorOver < r.value ∨ r.value < floorUnder) then .limitFloor else .watchLimit
            position := some p, channel := some c, value := some r.value, stamp := .watch s.power.watchCount
            generation := (live s).generation, profile := s.evaluator.profile } u)))) ∧
  ∀ (s : State) (t : Transaction) (p : Nat),
    s.chain.inFlight = some t → t.requester = .watch → t.target = some p → 1 ≤ p → p ≤ 24 →
    let free : State := { s with chain.inFlight := none }
    let n := min 7 (look s.chain.misses 0 (p - 1) + 1)
    let counted : State := { free with chain.misses := s.chain.misses.setIfInBounds (p - 1) n }
    let cleared : State :=
      { free with
        chain.misses := s.chain.misses.setIfInBounds (p - 1) 0
        chain.lost := s.chain.lost.setIfInBounds (p - 1) false }
    let missed : State :=
      if look s.chain.lost false (p - 1) = true ∨ n < (live s).chainHeader.lostThreshold.toNat then counted
      else
        raise .monitorLost (takeOutsideTrip
          { cause := .monitorLost, position := some p, channel := none, value := none, stamp := .watch s.power.watchCount
            generation := (live s).generation, profile := s.evaluator.profile }
          { counted with
            chain.lost := s.chain.lost.setIfInBounds (p - 1) true
            evaluator.channels :=
              remap (fun i c => if i / 20 + 1 = p then { c with status := if c.status = .none then .none else .stale } else c)
                s.evaluator.channels
            evaluator.pack.status :=
              if packPosition (live s) = some p ∧ s.evaluator.pack.status ≠ .none then .stale else s.evaluator.pack.status })
    let silent (v : State) : State :=
      let m := min 2 (look v.power.noAnswer 0 (p - 1) + 1)
      let u : State := { v with power.noAnswer := v.power.noAnswer.setIfInBounds (p - 1) m }
      if m = 2 then takeWake .watchLost u else u
    let heard (v : State) : State := { v with power.noAnswer := v.power.noAnswer.setIfInBounds (p - 1) 0 }
    let ended (v : State) : Host.Outcome State Fault Refusal :=
      .next (arbitrate
        (if v.power.cycle = true ∧ v.power.wakeKept = true then
          { v with
            power :=
              { v.power with
                power := .wakingDark, watchTimer := none, settleTimer := none, frames := [], cycle := false, cellsAnswered := false
                wakeKept := false, persistence := Vector.replicate 480 0, noAnswer := Vector.replicate 24 0 } }
        else v))
    let judged (first count : Nat) (f : Frame) (v : State) : State :=
      let stored := (List.range count).foldl
        (fun v k => storeWatchChannel p (first + k) (f.payload.getD (2 * k) 0 ++ f.payload.getD (2 * k + 1) 0) v) v
      let r := (List.range count).foldl (fun a k => judgeWatchChannel p (first + k) a) (false, stored)
      if r.1 then takeWake .watchLimit r.2 else r.2
    (t.frame.kind = 0x09 → t.expect = some 0x11 →
      let lost := ended { missed with power.cellsAnswered := false }
      (∀ begun, exec (.responseWindowClose begun) s = lost) ∧ (∀ m : Byte, 32 < m.toNat → exec (.answerLengthBad m) s = lost) ∧
      ∀ rx f c, wholeFrame? rx = some (f, c) →
        let good : Prop := check f.body = c ∧ f.address = byteOf p ∧ f.kind = 0x11 ∧ f.payload.length = 32
        (¬ good → exec (.answerReceived rx) s = lost) ∧
        (good → exec (.answerReceived rx) s = ended (judged 0 16 f { cleared with power.cellsAnswered := true }))) ∧
    (t.frame.kind = 0x0A → t.expect = some 0x12 →
      let lost := ended (if missed.power.cellsAnswered then heard missed else silent missed)
      (∀ begun, exec (.responseWindowClose begun) s = lost) ∧ (∀ m : Byte, 32 < m.toNat → exec (.answerLengthBad m) s = lost) ∧
      ∀ rx f c, wholeFrame? rx = some (f, c) →
        let good : Prop := check f.body = c ∧ f.address = byteOf p ∧ f.kind = 0x12 ∧ f.payload.length = 8
        (¬ good → exec (.answerReceived rx) s = lost) ∧
        (good → exec (.answerReceived rx) s = ended (heard (judged 16 4 f cleared))))

/-- A grant to CAPTURE takes the step's offset and reads the PACK_SENSE position of a NUMBERED chain; without one, or with the chain not
NUMBERED, the step is recorded MISSED at once. A good SENSE answer leaves its record in the buffer of 64 and makes the pack sense record,
STALE when the position read is LOST (the model's choice, log 38), which the Sequencer judges; any other end leaves a MISSED record and
no pack sense record. After its record a waiting step is DUE; an ended run on top whose ticks are out or that a pop uncovered leaves, at
the end of the step that was in flight (log 40), and raises no CAPTURE_DONE also when all its steps are recorded (the model's reading,
log 16); any other run with no step left leaves with CAPTURE_DONE; and a run that leaves is a pop, from below the top where it stands and
without uncovering a run (the model's reading, log 15). -/
def Obligations.CaptureStepsEnd : Prop :=
  let room (b : List CaptureRecord) : List CaptureRecord := if 64 < b.length then b.drop 1 else b
  let missed (c : Context) : CaptureRecord :=
    { id := c.id, program := c.program, step := c.flightStep, offset := c.flightOffset, vPack := 0, vLink := 0, iPack := 0
      late := c.late, missed := true, underLoad := c.underLoad }
  (∀ (s : State) (c : Context) (below : List Context), s.capture.stack = c :: below →
    let k : Context := { c with flightStep := c.nextStep - 1, flightOffset := min 65535 (s.sweep.ticks - c.started) }
    let v := recordGrant .capture s
    (∀ p, packPosition (live s) = some p → s.chain.state = .numbered →
      grant .capture s =
        { v with
          capture.stack := { k with step := .inFlight } :: below
          chain.inFlight := some
            { requester := .capture, frame := { address := byteOf p, kind := 0x0B, flags := 2, payload := [] }, target := some p
              expect := some 0x13, window := (live s).chainHeader.window, discard := false, context := some c.id } }) ∧
    (packPosition (live s) = none ∨ s.chain.state ≠ .numbered →
      grant .capture s =
        finishStep c.id { v with capture.stack := k :: below, capture.buffer := room (s.capture.buffer ++ [missed k]) })) ∧
  (∀ (s : State) (t : Transaction) (p : Nat) (id : Half) (c : Context),
    s.chain.inFlight = some t → t.requester = .capture → t.target = some p → t.context = some id → t.expect = some 0x13 →
    (s.capture.stack.find? fun x => x.id == id) = some c →
    let free : State := { s with chain.inFlight := none }
    let failed : Host.Outcome State Fault Refusal :=
      .next (arbitrate (finishStep id { free with capture.buffer := room (s.capture.buffer ++ [missed c]) }))
    (∀ begun, exec (.responseWindowClose begun) s = failed) ∧ (∀ m : Byte, 32 < m.toNat → exec (.answerLengthBad m) s = failed) ∧
    ∀ rx f k, wholeFrame? rx = some (f, k) →
      let good : Prop := check f.body = k ∧ f.address = byteOf p ∧ f.kind = 0x13
      (¬ (good ∧ f.payload.length = 7) → exec (.answerReceived rx) s = failed) ∧
      ∀ v1 v2 l1 l2 i1 i2 trigger : Byte, good → f.payload = [v1, v2, l1, l2, i1, i2, trigger] →
        exec (.answerReceived rx) s =
          .next (arbitrate (finishStep id (judgeRecord
            { free with
              capture.buffer :=
                room (s.capture.buffer ++ [{ missed c with vPack := v1 ++ v2, vLink := l1 ++ l2, iPack := i1 ++ i2, missed := false }])
              evaluator.pack :=
                { vPack := v1 ++ v2, vLink := l1 ++ l2, iPack := i1 ++ i2, trigger := trigger, fromCapture := true
                  stamp := .capture id c.flightStep, status := if isLost s p then .stale else .fresh } })))) ∧
  ∀ (s : State) (c : Context) (above below : List Context), s.capture.stack = above ++ c :: below →
    (∀ x ∈ above ++ below, x.id ≠ c.id) →
    let u : State :=
      { s with
        capture.stack := above ++ { c with step := if c.waiting then .due else .none, waiting := false } :: below }
    let gone : State := { s with capture.stack := above ++ below }
    let leaves : Prop := above = [] ∧ (c.ticksRemaining = 0 ∨ c.leaving = true)
    let complete : Prop := c.nextStep = c.count ∧ c.waiting = false
    (c.ended = true → leaves → finishStep c.id s = servePop (below.length + 1) gone) ∧
    (c.ended = true → ¬ leaves → finishStep c.id s = u) ∧
    (c.ended = false → complete → above = [] → finishStep c.id s = servePop (below.length + 1) (raise .captureDone gone)) ∧
    (c.ended = false → complete → above ≠ [] →
      finishStep c.id s = (servePending [.trip, .opening, .close, .precharge] (raise .captureDone gone)).2) ∧
    (c.ended = false → ¬ complete → finishStep c.id s = u)

/-! ### The Sample Evaluator and the Protection Unit -/

/-- A cell code is corrected by (r × (1,000,000 + g) + 500,000) / 1,000,000 rounded down, plus the offset, and clamped to 0 to 65535; a
ratio code of a good curve gives the end temperature outside the curve and inside it the interpolation with the quotient rounded to the
nearest integer, halves away from zero, plus the offset, clamped to the ends of the curve; 0 and 4095 are a sensor fault. -/
def Obligations.ReadingsAreCorrected : Prop :=
  (∀ (r : Nat) (g o c : Int),
    1000000 * (c - o) ≤ r * (1000000 + g) + 500000 → r * (1000000 + g) + 500000 < 1000000 * (c - o + 1) →
      correctCell r g o = if c < 0 then .value 0 true else if 65535 < c then .value 65535 true else .value c false) ∧
  ∀ (img : Image) (o : Int), (∀ i, i < 9 → goodBreakpoint img i = true) →
    let code (i : Nat) : Nat := (breakpoint img i).code.toNat
    let temp (i : Nat) : Int := (breakpoint img i).temp.toInt
    let bounded (t : Int) (clamped : Bool) : Reading :=
      if temp 0 < t then .value (temp 0) true else if t < temp 8 then .value (temp 8) true else .value t clamped
    correctAux img 0 o = .fault ∧ correctAux img 4095 o = .fault ∧
    (∀ r, 0 < r → r ≤ code 0 → correctAux img r o = bounded (temp 0 + o) true) ∧
    (∀ r, code 8 ≤ r → r < 4095 → correctAux img r o = bounded (temp 8 + o) true) ∧
    ∀ (i r m : Nat), i < 8 → code 0 < r → code i ≤ r → r < code (i + 1) →
      let d := code (i + 1) - code i
      let n := (r - code i) * (temp i - temp (i + 1)).toNat
      2 * d * m ≤ 2 * n + d → 2 * n + d < 2 * d * (m + 1) → correctAux img r o = bounded (temp i - m + o) false

/-- A code of a sweep answer at an evaluated channel: the record takes value, CLAMPED, raw code and stamp and is FRESH (a sensor fault keeps
value and CLAMPED and is FAULT), the warn state moves by its table, the counter counts beyond-trip samples to 15 and is 0 after any other,
and a counter at or above the effective persistence with a clear mark raises the trip, LIMIT_FLOOR when the value lies beyond a floor
threshold. A channel that is not evaluated is left alone. The ratio code of an AUX
code above 4095 is a free value that is kept and judged like any other (the model's choice, log 9). -/
def Obligations.SampleIsJudged : Prop :=
  ∀ (p c : Nat) (code : Half) (s : State),
    let i := channelIndex p c
    let e := effective (live s) (sweepProfile s) i
    let old := channelAt s i
    let raw := if 16 ≤ i % 20 then halfOf (ratioCode code) else code
    let record (new : Channel) (warns beyond floor : Bool) (value : Option Int) : State :=
      let n := if beyond then min 15 (old.counter + 1) else 0
      let mark := beyond && old.tripped
      let trips := decide (e.persist ≤ n) && !mark
      let a := if warns then raise .limitWarn s else s
      let b : State :=
        { a with evaluator.channels := s.evaluator.channels.setIfInBounds i { new with counter := n, tripped := mark || trips } }
      if trips then
        raise .limitTrip (takeOutsideTrip
          { cause := if floor then .limitFloor else .limitProfile, position := some p, channel := some c, value := value
            stamp := .sweep s.sweep.number, generation := sweepGeneration s, profile := sweepProfile s } b)
      else b
    (evaluated (live s) i = false → evaluateChannel p c code s = s) ∧
    (evaluated (live s) i = true → readingOf (live s) i code = .fault →
      evaluateChannel p c code s =
        record { old with raw := raw, stamp := .sweep s.sweep.number, status := .fault } (old.status != .fault) true false none) ∧
    ∀ (v : Int) (clamped : Bool) (w : Warn), evaluated (live s) i = true → readingOf (live s) i code = .value v clamped →
      (old.warn = .clear ∧ (e.overWarn < v ∧ w = .high ∨ v ≤ e.overWarn ∧ v < e.underWarn ∧ w = .low ∨
          e.underWarn ≤ v ∧ v ≤ e.overWarn ∧ w = .clear) ∨
        old.warn = .high ∧ (v < e.underWarn ∧ w = .low ∨ e.underWarn ≤ v ∧ v ≤ e.overWarn - e.hyst ∧ w = .clear ∨
          e.underWarn ≤ v ∧ e.overWarn - e.hyst < v ∧ w = .high) ∨
        old.warn = .low ∧ (e.overWarn < v ∧ w = .high ∨ e.underWarn + e.hyst ≤ v ∧ v ≤ e.overWarn ∧ w = .clear ∨
          v ≤ e.overWarn ∧ v < e.underWarn + e.hyst ∧ w = .low)) →
        evaluateChannel p c code s =
          record { old with value := v, clamped := clamped, raw := raw, stamp := .sweep s.sweep.number, status := .fresh, warn := w }
            (w != .clear && w != old.warn) (decide (e.overTrip < v) || decide (v < e.underTrip))
            (decide (e.floorOver < v) || decide (v < e.floorUnder)) (some v)

/-- A trip is taken: it fills an empty record or counts as a later trip up to 255 with its cause, the level rises to HARD for a HARD
response, SOFT makes ALERT but in SAFE_OPEN and does nothing more, and HARD makes SAFE_OPEN and leaves every output open. Six causes have
a fixed response and the response map gives those of LIMIT_PROFILE and MONITOR_LOST. A trip of another block, whose order stops a timer
of the Sequencer at the instant of its expiry, is followed by that timer's own trip: of several timers PRECHARGE_TIMEOUT alone, else the
disagreement timers, else silence (the model's choice, log 41). A HARD trip and the silence expiry of one instant leave the same
protection state, level and count of trips in either order. -/
def Obligations.TripIsTaken : Prop :=
  ∀ (t : Trip) (s : State),
    let hard : Prop :=
      t.cause = .limitFloor ∨ t.cause = .contactorFeedback ∨ t.cause = .weld ∨ t.cause = .controllerSilence ∨
        t.cause = .limitProfile ∧ (live s).contactor.responseMap.getLsbD 0 = true ∨
        t.cause = .monitorLost ∧ (live s).contactor.responseMap.getLsbD 1 = true
    let r : Response := if hard then .hard else .soft
    let record : TripRecord := match s.protection.record with
      | none =>
        { first := t, power := s.power.power, firstResponse := r, laterCount := 0, latestCause := none, level := r, resetSince := false }
      | some o =>
        { o with
          laterCount := min 255 (o.laterCount + 1), latestCause := some t.cause
          level := if hard then .hard else o.level }
    let u := takeTrip t s
    (¬ hard → u = { s with protection := { state := if s.protection.state = .safeOpen then .safeOpen else .alert, record := some record } }) ∧
    (hard →
      u.protection = { state := .safeOpen, record := some record } ∧ (drivesFit s.sequencer = true → u.sequencer.drive = allOpen) ∧
      (t.cause = .contactorFeedback → u.sequencer.state = .faulted) ∧
      u.pending = s.pending ∧ u.choices = s.choices ∧ u.now = s.now ∧ u.tables = s.tables ∧ u.update = s.update ∧ u.chain = s.chain ∧
      u.arbiter = s.arbiter ∧ u.evaluator = s.evaluator ∧ u.power = s.power ∧ u.link = s.link) ∧
    let q := s.sequencer
    let o := u.sequencer
    let v := takeOutsideTrip t s
    let ran (timer : Option Nat) : Prop := ∃ i, timer = some i ∧ i ≤ s.now
    let stopped (before after : Option Nat) : Prop := ran before ∧ after = none
    let own (cause : TripCause) (w : State) : State :=
      takeTrip
        { cause := cause, position := none, channel := none, value := none, stamp := .sweep s.sweep.number
          generation := (live s).generation, profile := s.evaluator.profile } w
    let feedback (w : State) : State := raise .contactorFault (own .contactorFeedback w)
    let precharge : Prop := q.state = .precharging ∧ stopped q.prechargeTimer o.prechargeTimer
    let disagreement : Prop :=
      stopped q.disagreePos o.disagreePos ∨ stopped q.disagreeNeg o.disagreeNeg ∨ stopped q.disagreePre o.disagreePre
    let silence : Prop := stopped q.silenceTimer o.silenceTimer
    let expiring := ([q.disagreePos, q.disagreeNeg, q.disagreePre].filter fun timer => timer.any fun i => decide (i ≤ s.now)).length
    (precharge → v = raise .contactorFault (own .prechargeTimeout u)) ∧
    (¬ precharge → disagreement →
      (expiring = 1 → v = feedback u) ∧ (expiring = 2 → v = feedback (feedback u)) ∧ (expiring = 3 → v = feedback (feedback (feedback u)))) ∧
    (¬ precharge → ¬ disagreement → silence → v = raise .controllerSilence (own .controllerSilence u)) ∧
    (¬ precharge → ¬ disagreement → ¬ silence → v = u) ∧
    ∀ w : State, hard → t.cause ≠ .contactorFeedback → q.state = .closed → ran q.silenceTimer → ¬ disagreement →
      exec .silenceTimerExpiry s = .next w →
      let x := takeOutsideTrip t w
      exec .silenceTimerExpiry v = .next v ∧ v.protection.state = x.protection.state ∧
        v.protection.record.map (·.level) = x.protection.record.map (·.level) ∧
        v.protection.record.map (·.laterCount) = x.protection.record.map (·.laterCount)

/-! ### The Contactor Sequencer -/

/-- CLOSE past PROTECTED and STATE, its checks in their order; granted during a sweep it waits as the close-pending mark, and otherwise
PRECHARGING begins at once with NEG and PRE driven, its timers started and the PRECHARGE event reported. -/
def Obligations.CloseChecksAndBegins : Prop :=
  ∀ s : State, Accepting s → s.protection.state ≠ .safeOpen → s.power.power = .active →
    let q := s.sequencer
    let usable : Prop := ∃ p, packPosition (live s) = some p ∧ isLost s p = false
    (q.state = .faulted → exec .closeContactors s = .next (replied 0x0F (.refused .state []) (closed s))) ∧
    (q.state = .precharging ∨ q.state = .closing ∨ q.state = .closed → exec .closeContactors s = .next (replied 0x0F .ok (closed s))) ∧
    (q.state = .opening ∨ q.state = .weldCheck → exec .closeContactors s = .next (replied 0x0F (.refused .busy []) (closed s))) ∧
    (q.state = .opened → q.closePending = true → exec .closeContactors s = .next (replied 0x0F .ok (closed s))) ∧
    (q.state = .opened → q.closePending = false →
      (s.chain.state ≠ .numbered → exec .closeContactors s = .next (replied 0x0F (.refused .chain []) (closed s))) ∧
      (s.chain.state = .numbered → ¬ usable → exec .closeContactors s = .next (replied 0x0F (.refused .contactors []) (closed s))) ∧
      (s.chain.state = .numbered → usable → safetyActivation s = true →
        exec .closeContactors s = .next (replied 0x0F (.refused .busy []) (closed s))) ∧
      (s.chain.state = .numbered → usable → safetyActivation s = false →
        (s.sweep.engine = .running ∨ s.sweep.engine = .stopping →
          exec .closeContactors s = .next (replied 0x0F .accepted { closed s with sequencer.closePending := true })) ∧
        (s.sweep.engine = .stopped ∨ s.sweep.engine = .waitingSync →
          exec .closeContactors s =
            .next (replied 0x0F .accepted (arbitrate (captureEvent .precharge false
              { superviseFeedback { closed s with sequencer.drive := { pos := false, neg := true, pre := true } } with
                sequencer.state := .precharging
                sequencer.prechargeTimer := some (s.now + (live s).contactor.preTimeout.toNat * 100)
                sequencer.silenceTimer := some (s.now + (live s).contactor.silenceLimit.toNat * 1000)
                sequencer.prechargeStart := s.now
                sequencer.prechargeMs := none
                sequencer.qualifying := 0 }))))))

/-- OPEN by the contactor state: a pending close is CANCELLED; a close in progress is broken off at once, INTERRUPTED, into WELD_CHECK; in
CLOSED it waits for a switch point during a sweep, and otherwise opens at once or is deferred by the current; anywhere else it has no
effect. -/
def Obligations.OpenByContactorState : Prop :=
  ∀ s : State, Accepting s →
    let q := s.sequencer
    let v : State := closed s
    let broken (kept : Option Nat) : State :=
      superviseFeedback
        { v with
          sequencer.drive := allOpen
          sequencer.prechargeTimer := none
          sequencer.silenceTimer := none
          sequencer.state := .weldCheck
          sequencer.weldTimer := some (s.now + (live s).contactor.weldTime.toNat * 100)
          sequencer.lastClose := some { result := .interrupted, prechargeMs := kept, sweep := s.sweep.number } }
    let sequence (u : State) : State :=
      { captureEvent .opening false u with sequencer.openSequence := some { cause := .interrupt, underLoad := false, deferMs := none } }
    (q.state = .opened → q.closePending = true →
      exec .openContactors s =
        .next (replied 0x10 .ok
          { v with
            sequencer.closePending := false
            sequencer.lastClose := some { result := .cancelled, prechargeMs := none, sweep := s.sweep.number } })) ∧
    (q.state = .opened ∧ q.closePending = false ∨ q.state = .closed ∧ (q.openPending = true ∨ q.deferTimer.isSome = true) ∨
        q.state = .opening ∨ q.state = .weldCheck ∨ q.state = .faulted →
      exec .openContactors s = .next (replied 0x10 .ok v)) ∧
    (q.state = .precharging →
      exec .openContactors s = .next (replied 0x10 .accepted (arbitrate (sequence (prechargingLeft (broken none)))))) ∧
    (q.state = .closing →
      exec .openContactors s = .next (replied 0x10 .accepted (arbitrate (sequence (broken q.prechargeMs))))) ∧
    (q.state = .closed → q.openPending = false → q.deferTimer = none →
      (s.sweep.engine = .running ∨ s.sweep.engine = .stopping →
        exec .openContactors s = .next (replied 0x10 .accepted { v with sequencer.openPending := true })) ∧
      (s.sweep.engine = .stopped ∨ s.sweep.engine = .waitingSync → q.closePending = false →
        let light : Prop :=
          (s.evaluator.pack.status = .fresh ∨ s.evaluator.pack.status = .held) ∧
            s.evaluator.pack.iPack.toInt.natAbs ≤ (live s).contactor.breakLimit.toNat
        (light → exec .openContactors s = .next (replied 0x10 .accepted (arbitrate (beginOpening false none v)))) ∧
        (¬ light → (live s).contactor.deferLimit = 0 →
          exec .openContactors s = .next (replied 0x10 .accepted (arbitrate (beginOpening true (some 0) v)))) ∧
        (¬ light → (live s).contactor.deferLimit ≠ 0 →
          exec .openContactors s =
            .next (replied 0x10 .accepted (arbitrate
              { v with
                sequencer.deferTimer := some (s.now + (live s).contactor.deferLimit.toNat * 100)
                sequencer.deferStart := s.now })))))

/-- A switch point: a pending close passes its five tests and PRECHARGING begins, or is WITHDRAWN with CONTACTOR_DONE; a pending open opens
when the current can be judged and is at or below the break limit, opens under load at once with a defer limit of 0, and is deferred
otherwise; without a mark the offer is ignored. An opening drives POS_DRV open, starts the dwell, stops the other timers and reports OPEN;
a dwell of 0 ends at once. Supervision stops every disagreement timer in FAULTED and outside ACTIVE; otherwise the timer of a contactor
stops on agreement, runs on while it runs, and starts with the feedback time on a disagreement. -/
def Obligations.SwitchPointsAndOpenings : Prop :=
  (∀ s : State,
    let q := s.sequencer
    let t := (live s).contactor
    let may : Prop :=
      s.protection.state ≠ .safeOpen ∧ s.power.power = .active ∧ s.chain.state = .numbered ∧
        (∃ p, packPosition (live s) = some p ∧ isLost s p = false) ∧
        ¬ ∃ g, (s.update.state = .committing ∨ s.update.state = .armed) ∧ s.update.stage = some g ∧ g.set &&& 0x4F ≠ 0
    let light : Prop :=
      (s.evaluator.pack.status = .fresh ∨ s.evaluator.pack.status = .held) ∧
        s.evaluator.pack.iPack.toInt.natAbs ≤ t.breakLimit.toNat
    let v : State := { s with sequencer.openPending := false }
    (q.closePending = false → q.openPending = false → switchPoint s = s) ∧
    (q.closePending = true → may →
      switchPoint s =
        captureEvent .precharge false
          { superviseFeedback { s with sequencer.closePending := false, sequencer.drive := ⟨false, true, true⟩ } with
            sequencer.state := .precharging
            sequencer.prechargeTimer := some (s.now + t.preTimeout.toNat * 100)
            sequencer.silenceTimer := some (s.now + t.silenceLimit.toNat * 1000)
            sequencer.prechargeStart := s.now
            sequencer.prechargeMs := none
            sequencer.qualifying := 0 }) ∧
    (q.closePending = true → ¬ may →
      switchPoint s =
        raise .contactorDone
          { s with
            sequencer.closePending := false
            sequencer.lastClose := some { result := .withdrawn, prechargeMs := none, sweep := s.sweep.number } }) ∧
    (q.closePending = false → q.openPending = true →
      (light → switchPoint s = beginOpening false none v) ∧
      (¬ light → t.deferLimit = 0 → switchPoint s = beginOpening true (some 0) v) ∧
      (¬ light → t.deferLimit ≠ 0 →
        switchPoint s =
          { v with
            sequencer.deferTimer := some (s.now + t.deferLimit.toNat * 100)
            sequencer.deferStart := s.now }))) ∧
  (∀ (load : Bool) (deferral : Option Nat) (s : State),
    let opening : State :=
      captureEvent .opening load
        { superviseFeedback { s with sequencer.drive := { s.sequencer.drive with pos := false } } with
          sequencer.silenceTimer := none
          sequencer.deferTimer := none
          sequencer.dwellTimer := some (s.now + (live s).contactor.openDwell.toNat * 100)
          sequencer.state := .opening
          sequencer.openSequence := some { cause := .request, underLoad := load, deferMs := deferral } }
    ((live s).contactor.openDwell ≠ 0 → beginOpening load deferral s = opening) ∧
    ((live s).contactor.openDwell = 0 → exec .dwellTimerExpiry opening = .next (beginOpening load deferral s))) ∧
  ∀ s : State,
    let q := s.sequencer
    let timer (old : Option Nat) (drive feedback : Bool) : Option Nat :=
      if drive = feedback then none
      else match old with
        | some t => some t
        | none => some (s.now + (live s).contactor.feedbackTime.toNat * 100)
    (q.state = .faulted ∨ s.power.power ≠ .active →
      superviseFeedback s =
        { s with sequencer := { q with disagreePos := none, disagreeNeg := none, disagreePre := none } }) ∧
    (q.state ≠ .faulted → s.power.power = .active →
      superviseFeedback s =
        { s with
          sequencer :=
            { q with
              disagreePos := timer q.disagreePos q.drive.pos q.feedback.pos
              disagreeNeg := timer q.disagreeNeg q.drive.neg q.feedback.neg
              disagreePre := timer q.disagreePre q.drive.pre q.feedback.pre } })

/-- A new pack sense record is judged by the contactor state. In PRECHARGING a qualifying record counts and any other starts the count
again, and the second in a row drives POS_DRV and keeps the precharge time: CLOSING, where a POS_FB that reads closed already reaches
CLOSED at once (the model's reading, log 35). With SAFE_OPEN or outside ACTIVE, which no run reaches there, nothing is driven (log 26). In
CLOSED a record at or below the break limit ends a deferral with an opening. In WELD_CHECK a record that shows the link collapsed passes
the check. In any other state nothing happens. -/
def Obligations.PackRecordsAreJudged : Prop :=
  ∀ s : State,
    let q := s.sequencer
    let r := s.evaluator.pack
    let t := (live s).contactor
    let good : Prop := r.status = .fresh ∨ r.status = .held
    let qualifies : Prop := good ∧ 0 < r.vPack.toNat ∧ r.vPack.toNat * t.preRatio.toNat ≤ r.vLink.toNat * 256
    let counted : State := { s with sequencer.qualifying := q.qualifying + 1 }
    let drives : Prop := s.protection.state ≠ .safeOpen ∧ s.power.power = .active
    let closing : State :=
      captureEvent .close false (prechargingLeft
        { superviseFeedback { counted with sequencer.drive := ⟨true, true, true⟩ } with
          sequencer.prechargeTimer := none
          sequencer.prechargeMs := some ((s.now - q.prechargeStart) / 100)
          sequencer.state := .closing })
    (q.state = .precharging →
      (¬ qualifies → judgeRecord s = { s with sequencer.qualifying := 0 }) ∧
      (qualifies → q.qualifying = 0 ∨ ¬ drives → judgeRecord s = counted) ∧
      (qualifies → 1 ≤ q.qualifying → drives →
        (q.feedback.pos = false → judgeRecord s = closing) ∧
        (q.feedback.pos = true →
          judgeRecord s =
            raise .contactorDone
              { superviseFeedback { closing with sequencer.drive := ⟨true, true, false⟩ } with
                sequencer.state := .closed
                sequencer.lastClose := some
                  { result := .closed, prechargeMs := some ((s.now - q.prechargeStart) / 100), sweep := s.sweep.number } }))) ∧
    (q.state = .closed →
      let ends : Prop := q.deferTimer ≠ none ∧ good ∧ r.iPack.toInt.natAbs ≤ t.breakLimit.toNat
      (ends → judgeRecord s = beginOpening false (some ((s.now - q.deferStart) / 100)) s) ∧ (¬ ends → judgeRecord s = s)) ∧
    (q.state = .weldCheck →
      let passes : Prop := good ∧ r.vLink.toNat * 256 < r.vPack.toNat * t.weldRatio.toNat
      let opened : State := superviseFeedback { s with sequencer.state := .opened, sequencer.weldTimer := none }
      (passes → q.openSequence = none → judgeRecord s = raise .contactorDone opened) ∧
      (∀ o, passes → q.openSequence = some o →
        judgeRecord s =
          raise .contactorDone
            { opened with
              sequencer.openSequence := none
              sequencer.lastOpen := some { sequence := o, result := .opened, sweep := s.sweep.number } }) ∧
      (¬ passes → judgeRecord s = s)) ∧
    (q.state = .opened ∨ q.state = .closing ∨ q.state = .opening ∨ q.state = .faulted → judgeRecord s = s)

/-- The timers of the sequences: PRECHARGE_TIMEOUT breaks the close off into WELD_CHECK with a SOFT trip; the defer timer opens under load;
the dwell timer opens NEG and, with every feedback open, enters WELD_CHECK; the weld timer reaches OPEN without a voltage test and FAULTED
with a WELD trip otherwise. A timer that does not run in its state, or whose instant has not come, does nothing (log 3). -/
def Obligations.SequenceTimersExpire : Prop :=
  ∀ s : State,
    let q := s.sequencer
    let ran (timer : Option Nat) : Prop := ∃ t, timer = some t ∧ t ≤ s.now
    let trip (cause : TripCause) : Trip :=
      { cause := cause, position := none, channel := none, value := none, stamp := .sweep s.sweep.number
        generation := (live s).generation, profile := s.evaluator.profile }
    (q.state = .precharging → ran q.prechargeTimer →
      let broken : State :=
        superviseFeedback
          { s with
            sequencer.drive := allOpen
            sequencer.prechargeTimer := none
            sequencer.silenceTimer := none
            sequencer.state := .weldCheck
            sequencer.weldTimer := some (s.now + (live s).contactor.weldTime.toNat * 100)
            sequencer.lastClose := some { result := .timedOut, prechargeMs := none, sweep := s.sweep.number } }
      exec .prechargeTimeout s =
        .next (arbitrate (raise .contactorFault (takeTrip (trip .prechargeTimeout)
          { captureEvent .opening false (prechargingLeft broken) with
            sequencer.openSequence := some { cause := .timeout, underLoad := false, deferMs := none } })))) ∧
    (q.state ≠ .precharging ∨ ¬ ran q.prechargeTimer → exec .prechargeTimeout s = .next s) ∧
    (∀ t, q.state = .closed → q.deferTimer = some t → t ≤ s.now →
      exec .deferTimerExpiry s = .next (arbitrate (beginOpening true (some ((t - q.deferStart) / 100)) s))) ∧
    (q.state ≠ .closed ∨ ¬ ran q.deferTimer → exec .deferTimerExpiry s = .next s) ∧
    (q.state = .opening → ran q.dwellTimer →
      let opened : State := { s with sequencer.dwellTimer := none, sequencer.drive := { q.drive with neg := false } }
      (q.feedback ≠ allOpen → exec .dwellTimerExpiry s = .next (superviseFeedback opened)) ∧
      (q.feedback = allOpen →
        exec .dwellTimerExpiry s =
          .next (superviseFeedback
            { opened with
              sequencer.state := .weldCheck
              sequencer.weldTimer := some (s.now + (live s).contactor.weldTime.toNat * 100) }))) ∧
    (q.state ≠ .opening ∨ ¬ ran q.dwellTimer → exec .dwellTimerExpiry s = .next s) ∧
    (q.state = .weldCheck → ran q.weldTimer →
      let ended (r : OpenResult) (v : State) : State := match q.openSequence with
        | none => v
        | some o => { v with sequencer.openSequence := none, sequencer.lastOpen := some { sequence := o, result := r, sweep := s.sweep.number } }
      ((live s).contactor.weldRatio = 0 →
        exec .weldTimerExpiry s =
          .next (arbitrate (raise .contactorDone (ended .opened
            (superviseFeedback { s with sequencer.state := .opened, sequencer.weldTimer := none }))))) ∧
      ((live s).contactor.weldRatio ≠ 0 →
        exec .weldTimerExpiry s =
          .next (arbitrate (raise .contactorFault (takeTrip (trip .weld) (ended .welded
            { s with
              sequencer.state := .faulted, sequencer.weldTimer := none, sequencer.disagreePos := none, sequencer.disagreeNeg := none
              sequencer.disagreePre := none })))))) ∧
    (q.state ≠ .weldCheck ∨ ¬ ran q.weldTimer → exec .weldTimerExpiry s = .next s)

/-- A debounced feedback takes its level in ACTIVE alone; in CLOSING a closed POS_FB reaches CLOSED, opens PRE and ends the close; in
OPENING with NEG open and every feedback open WELD_CHECK begins. A disagreement timer that expires trips CONTACTOR_FEEDBACK with its
event, once for it and once for each other disagreement timer that expires at the same instant (the model's reading, log 39), and the
silence timer trips CONTROLLER_SILENCE with its event; neither does anything when it does not run or its instant has not come (log 3). A
frame accepted at the instant of the silence expiry restarts the timer, and no trip is raised. -/
def Obligations.FeedbacksAndGuards : Prop :=
  ∀ (c : Contactor) (level : Bool) (s : State),
    let q := s.sequencer
    let reading : Triple := match c with
      | .pos => { q.feedback with pos := level }
      | .neg => { q.feedback with neg := level }
      | .pre => { q.feedback with pre := level }
    let u : State := superviseFeedback { s with sequencer.feedback := reading }
    let timer : Option Nat := match c with
      | .pos => q.disagreePos
      | .neg => q.disagreeNeg
      | .pre => q.disagreePre
    let stopped : State := match c with
      | .pos => { s with sequencer.disagreePos := none }
      | .neg => { s with sequencer.disagreeNeg := none }
      | .pre => { s with sequencer.disagreePre := none }
    let trip (cause : TripCause) : Trip :=
      { cause := cause, position := none, channel := none, value := none, stamp := .sweep s.sweep.number
        generation := (live s).generation, profile := s.evaluator.profile }
    let disagreed (v : State) : State := raise .contactorFault (takeTrip (trip .contactorFeedback) v)
    let ran (timer : Option Nat) : Prop := ∃ t, timer = some t ∧ t ≤ s.now
    let others : List (Option Nat) := match c with
      | .pos => [q.disagreeNeg, q.disagreePre]
      | .neg => [q.disagreePos, q.disagreePre]
      | .pre => [q.disagreePos, q.disagreeNeg]
    (s.power.power ≠ .active → exec (.feedbackDebounced c level) s = .next s) ∧
    (s.power.power = .active → q.state = .closing → reading.pos = true →
      exec (.feedbackDebounced c level) s =
        .next (raise .contactorDone
          { superviseFeedback { u with sequencer.drive := { q.drive with pre := false } } with
            sequencer.state := .closed
            sequencer.lastClose := some { result := .closed, prechargeMs := q.prechargeMs, sweep := s.sweep.number } })) ∧
    (s.power.power = .active → q.state = .opening → q.drive.neg = false → reading = allOpen →
      exec (.feedbackDebounced c level) s =
        .next (superviseFeedback
          { u with
            sequencer.state := .weldCheck
            sequencer.weldTimer := some (s.now + (live s).contactor.weldTime.toNat * 100) })) ∧
    (s.power.power = .active → ¬ (q.state = .closing ∧ reading.pos = true) →
      ¬ (q.state = .opening ∧ q.drive.neg = false ∧ reading = allOpen) → exec (.feedbackDebounced c level) s = .next u) ∧
    (ran timer →
      ((∀ o ∈ others, ¬ ran o) → exec (.disagreementTimerExpiry c) s = .next (arbitrate (disagreed stopped))) ∧
      ((∃ o ∈ others, ran o) → (∃ o ∈ others, ¬ ran o) →
        exec (.disagreementTimerExpiry c) s = .next (arbitrate (disagreed (disagreed stopped)))) ∧
      ((∀ o ∈ others, ran o) →
        exec (.disagreementTimerExpiry c) s = .next (arbitrate (disagreed (disagreed (disagreed stopped)))))) ∧
    (¬ ran timer → exec (.disagreementTimerExpiry c) s = .next s) ∧
    (ran q.silenceTimer →
      exec .silenceTimerExpiry s =
        .next (arbitrate (raise .controllerSilence (takeTrip (trip .controllerSilence) { s with sequencer.silenceTimer := none })))) ∧
    (¬ ran q.silenceTimer → exec .silenceTimerExpiry s = .next s) ∧
    ((live s).contactor.silenceLimit ≠ 0 → exec .silenceTimerExpiry (acceptFrame s) = .next (acceptFrame s))

/-- A HARD trip orders the opening. With an output driven, in PRECHARGING, CLOSING, CLOSED, or OPENING before NEG_DRV opens, every output
opens, marks and timers are cleared, a close sequence ends FORCED, the sweep record gets DISTURBED, WELD_CHECK begins with its timer,
and the TRIP event and an open sequence of cause TRIP are reported. In OPEN a pending close ends FORCED; in the rest nothing opens. The
cause CONTACTOR_FEEDBACK enters FAULTED in place of WELD_CHECK and ends an open sequence with FEEDBACK_FAULT, but in FAULTED nothing
happens. -/
def Obligations.HardTripsForceTheOpening : Prop :=
  (∀ (t : Trip) (s : State),
    responseTo (live s) t.cause = .hard →
      ∃ p : ProtectionUnit, p.state = .safeOpen ∧ takeTrip t s = openOrder t.cause { s with protection := p }) ∧
  ∀ (cause : TripCause) (s : State),
    let q := s.sequencer
    let weld := (live s).contactor.weldTime.toNat * 100
    let faulted (v : State) : State := superviseFeedback { v with sequencer.state := .faulted, sequencer.weldTimer := none }
    let noted (v : State) : State := match v.sequencer.openSequence with
      | none => v
      | some o =>
        { v with
          sequencer.openSequence := none
          sequencer.lastOpen := some { sequence := o, result := .feedbackFault, sweep := s.sweep.number } }
    let standing (v : State) : State := if cause = .contactorFeedback then noted (faulted v) else v
    let forced (kept : Option Nat) : CloseRecord := { result := .forced, prechargeMs := kept, sweep := s.sweep.number }
    let released : State :=
      { superviseFeedback { s with sequencer.drive := allOpen } with
        sequencer.closePending := false
        sequencer.openPending := false
        sequencer.prechargeTimer := none
        sequencer.silenceTimer := none
        sequencer.deferTimer := none
        sequencer.dwellTimer := none
        sequencer.lastClose :=
          if q.state = .precharging then some (forced none)
          else if q.state = .closing then some (forced q.prechargeMs)
          else q.lastClose
        sweep.record :=
          if s.sweep.engine = .running ∨ s.sweep.engine = .stopping then
            s.sweep.record.map fun r => { r with flags := { r.flags with disturbed := true } }
          else s.sweep.record }
    let entered : State :=
      if cause = .contactorFeedback then faulted released
      else superviseFeedback { released with sequencer.state := .weldCheck, sequencer.weldTimer := some (s.now + weld) }
    let opened : State :=
      { captureEvent .trip false (if q.state = .precharging then prechargingLeft entered else entered) with
        sequencer.openSequence := some { cause := .trip, underLoad := false, deferMs := none } }
    (q.state = .precharging ∨ q.state = .closing ∨ q.state = .closed ∨ q.state = .opening ∧ q.drive.neg = true →
      openOrder cause s = if cause = .contactorFeedback then noted opened else opened) ∧
    (q.state = .opened → q.closePending = true →
      openOrder cause s = standing { s with sequencer.closePending := false, sequencer.lastClose := some (forced none) }) ∧
    (q.state = .opened ∧ q.closePending = false ∨ q.state = .opening ∧ q.drive.neg = false ∨ q.state = .weldCheck →
      openOrder cause s = standing s) ∧
    (q.state = .faulted → openOrder cause s = s)

/-! ### The Capture Unit -/

/-- An event of a program with a count other than 0 pushes a run with the next id, whose old records leave the buffer and whose step 0 is
due at once; with four contexts on the stack it joins or merges into the pending set and raises CAPTURE_LATE; a count of 0 ignores it.
CAPTURE_STEP_DUE, of the top run alone, so that a run covered with its ticks at 0 waits to be uncovered (the model's choice, log 42): a
step that was waiting is given up as a MISSED record, the new one waits in its place behind a step in flight or is DUE, and the next is
timed. ENDED_CONTEXT_LEAVES: the ended top context without a step in flight is popped when its ticks have run out or a pop has uncovered
it. At any other time neither does anything (log 3). -/
def Obligations.CaptureRunsAndSteps : Prop :=
  (∀ (p : Program) (load : Bool) (s : State),
     let f := programField (live s) p
     (f.count = 0 → captureEvent p load s = s) ∧
     (f.count ≠ 0 → s.capture.stack.length < 4 →
       captureEvent p load s =
         { s with
           capture.stack :=
             { program := p, id := s.capture.nextId, count := f.count.toNat, interval := f.interval.toNat, nextStep := 1
               ticksRemaining := if 1 < f.count.toNat then f.interval.toNat else 0, step := .due, waiting := false, started := s.sweep.ticks
               late := false, underLoad := load, ended := false, flightStep := 0, flightOffset := 0, leaving := false } :: s.capture.stack
           capture.nextId := s.capture.nextId + 1
           capture.buffer := s.capture.buffer.filter fun r => r.id != s.capture.nextId }) ∧
     (f.count ≠ 0 → 4 ≤ s.capture.stack.length →
       captureEvent p load s =
         raise .captureLate
           { s with
             capture.pendingSet := s.capture.pendingSet.put p (some (load || (s.capture.pendingSet.get p).getD false)) })) ∧
  ∀ s : State,
    (s.capture.stack = [] → exec .captureStepDue s = .next s ∧ exec .endedContextLeaves s = .next s) ∧
    ∀ (c : Context) (rest : List Context), s.capture.stack = c :: rest →
      let due : Prop := c.ended = false ∧ c.ticksRemaining = 0 ∧ c.nextStep < c.count
      let next : Context :=
        { c with
          waiting := c.step == .inFlight
          step := if c.step = .inFlight then .inFlight else .due
          nextStep := c.nextStep + 1
          ticksRemaining := if c.nextStep + 1 < c.count then c.interval else 0 }
      let missed : CaptureRecord :=
        { id := c.id, program := c.program, step := c.nextStep - 1, offset := min 65535 (s.sweep.ticks - c.started), vPack := 0, vLink := 0
          iPack := 0, late := c.late, missed := true, underLoad := c.underLoad }
      let room (b : List CaptureRecord) : List CaptureRecord := if 64 < b.length then b.drop 1 else b
      (¬ due → exec .captureStepDue s = .next s) ∧
      (due → c.step ≠ .due → c.waiting = false →
        exec .captureStepDue s = .next (arbitrate { s with capture.stack := next :: rest })) ∧
      (due → c.step = .due ∨ c.waiting = true →
        exec .captureStepDue s =
          .next (arbitrate { s with capture.stack := next :: rest, capture.buffer := room (s.capture.buffer ++ [missed]) })) ∧
      (c.ended = true → c.step ≠ .inFlight → c.ticksRemaining = 0 ∨ c.leaving = true →
        exec .endedContextLeaves s = .next (arbitrate (servePop (rest.length + 1) { s with capture.stack := rest }))) ∧
      (¬ (c.ended = true ∧ c.step ≠ .inFlight ∧ (c.ticksRemaining = 0 ∨ c.leaving = true)) → exec .endedContextLeaves s = .next s)

/-- A pop serves the pending set in the order TRIP, OPEN, CLOSE, PRECHARGE: programs of count 0 are dropped, and the first other is pushed
as a LATE run with its under-load mark and leaves the set. When none is pushed, the run uncovered becomes the top; an ended one leaves in
its turn, and is marked to leave while its step is in flight. When PRECHARGING is left, every PRECHARGE run on the stack is ended and
drops a step that is DUE or waits, a pending PRECHARGE is dropped, and an ended top with its ticks out and no step in flight leaves. -/
def Obligations.PopsServeThePendingSet : Prop :=
  (∀ (s : State) (before behind : List Program) (p : Program) (load : Bool),
    before ++ p :: behind = [.trip, .opening, .close, .precharge] →
    (∀ q ∈ before, s.capture.pendingSet.get q ≠ none → (programField (live s) q).count = 0) →
    s.capture.pendingSet.get p = some load → (programField (live s) p).count ≠ 0 →
    let f := programField (live s) p
    servePending [.trip, .opening, .close, .precharge] s =
      (true,
        { s with
          capture :=
            { stack :=
                { program := p, id := s.capture.nextId, count := f.count.toNat, interval := f.interval.toNat, nextStep := 1
                  ticksRemaining := if 1 < f.count.toNat then f.interval.toNat else 0, step := .due, waiting := false
                  started := s.sweep.ticks, late := true, underLoad := load, ended := false, flightStep := 0, flightOffset := 0
                  leaving := false } :: s.capture.stack
              pendingSet := (before ++ [p]).foldl (fun set q => set.put q none) s.capture.pendingSet
              nextId := s.capture.nextId + 1
              buffer := s.capture.buffer.filter fun r => r.id != s.capture.nextId } })) ∧
  (∀ s : State,
    (∀ q, s.capture.pendingSet.get q ≠ none → (programField (live s) q).count = 0) →
    servePending [.trip, .opening, .close, .precharge] s =
      (false, { s with capture.pendingSet := { precharge := none, close := none, opening := none, trip := none } })) ∧
  (∀ (n : Nat) (s t : State),
    (servePending [.trip, .opening, .close, .precharge] s = (true, t) → servePop (n + 1) s = t) ∧
    (servePending [.trip, .opening, .close, .precharge] s = (false, t) →
      (t.capture.stack = [] → servePop (n + 1) s = t) ∧
      ∀ c rest, t.capture.stack = c :: rest →
        (c.ended = false → servePop (n + 1) s = t) ∧
        (c.ended = true → c.step = .inFlight →
          servePop (n + 1) s = { t with capture.stack := { c with leaving := true } :: rest }) ∧
        (c.ended = true → c.step ≠ .inFlight → servePop (n + 1) s = servePop n { t with capture.stack := rest }))) ∧
  ∀ s : State,
    let ended (c : Context) : Context :=
      if c.program = .precharge then
        { c with ended := true, waiting := false, step := if c.step = .inFlight then .inFlight else .none }
      else c
    let marked : State := { s with capture.stack := s.capture.stack.map ended, capture.pendingSet.precharge := none }
    (s.capture.stack = [] → prechargingLeft s = marked) ∧
    ∀ c rest, s.capture.stack = c :: rest →
      let leaves : Prop :=
        (ended c).ended = true ∧ c.step ≠ .inFlight ∧ (c.ticksRemaining = 0 ∨ c.leaving = true)
      (leaves → prechargingLeft s = servePop (rest.length + 1) { marked with capture.stack := rest.map ended }) ∧
      (¬ leaves → prechargingLeft s = marked)

/-- READ-CAPTURE answers the lowest recorded step of the run at or above the first step and the next one held when it follows on it (the
model's reading, log 34), with MORE when a record above the last one answered is held, under a run byte of standing, program, LATE and
OPENED_UNDER_LOAD and a step byte of first step and number, and changes nothing; a first step above 31 or a short payload is refused with
RANGE. READ-TABLE answers as many of the entries asked for as fit 22 bytes, from the live image or the stage, with the table, the page
(CURRENT the active profile's; for a table without pages a free value, log 18), the generation, the first entry and the number, and
refuses with RANGE, an unknown table or a short payload among them, or STATE. -/
def Obligations.CaptureAndTableReads : Prop :=
  ∀ s : State, Accepting s →
    (∀ (a b n : Byte) (rest : List Byte),
      let id : Half := a ++ b
      let held : List CaptureRecord := (List.range' n.toNat (32 - n.toNat)).filterMap fun k =>
        s.capture.buffer.find? fun r => r.id == id && r.step == k
      let two : List CaptureRecord := match held with
        | r :: next :: _ => if next.step = r.step + 1 then [r, next] else [r]
        | _ => held
      let standing : Byte := match s.capture.stack.find? fun c => c.id == id with
        | none => 2
        | some c => if c.ended then 1 else 0
      let program (p : Program) : Byte := match p with
        | .precharge => 0
        | .close => 4
        | .opening => 8
        | .trip => 12
      (31 < n.toNat → exec (.readCapture (a :: b :: n :: rest)) s = .next (replied 0x11 (.refused .range []) (closed s))) ∧
      (n.toNat ≤ 31 →
        exec (.readCapture (a :: b :: n :: rest)) s =
          .next (replied 0x11
            (.done ([a, b] ++
              (match two with
                | [] => [standing, 0]
                | r :: _ =>
                  [standing ||| program r.program ||| (if r.late then 0x10 else 0) ||| (if r.underLoad then 0x20 else 0),
                    byteOf (r.step + 32 * two.length)]) ++
              (two.map fun r =>
                halfBytes (halfOf r.offset) ++ halfBytes r.vPack ++ halfBytes r.vLink ++ halfBytes r.iPack ++
                  [if r.missed then 1 else 0]).flatten) (decide (two.length < held.length))) (closed s)))) ∧
    (∀ p, p.length < 3 → exec (.readCapture p) s = .next (replied 0x11 (.refused .range []) (closed s))) ∧
    (∀ p, p.length < 6 → exec (.readTable p) s = .next (replied 0x1B (.refused .range []) (closed s))) ∧
    (∀ (b : Byte) (rest : List Byte), 7 < b.toNat →
      exec (.readTable (b :: rest)) s = .next (replied 0x1B (.refused .range []) (closed s))) ∧
    (∀ (t : Table) (page source a b n : Byte) (rest : List Byte),
      let first := a.toNat * 256 + b.toNat
      let p : List Byte := byteOf t.code :: page :: source :: a :: b :: n :: rest
      let ok : Prop := n ≠ 0 ∧ (t = .limits → page.toNat ≤ 4 ∧ first < 16) ∧ (t ≠ .limits → first < t.size)
      let shown : Nat :=
        if t = .limits then (if page = 4 then s.evaluator.profile.val else page.toNat) else (Config.unpagedPage page.toNat).val
      let reply (img : Image) (stage : Byte) : Prop :=
        let asked : List Nat :=
          if t = .limits then List.range' (shown * 16 + first) (min n.toNat (16 - first))
          else List.range' first (min n.toNat (t.size - first))
        let entries := asked.map (entryBytes img t)
        ∃ k, k ≤ entries.length ∧ (entries.take k).flatten.length ≤ 22 ∧
          (k < entries.length → 22 < (entries.take (k + 1)).flatten.length) ∧
          exec (.readTable p) s =
            .next (replied 0x1B
              (.done ([byteOf t.code, byteOf shown ||| stage] ++ wordBytes img.generation ++ halfBytes (halfOf (first * 128 + k)) ++
                (entries.take k).flatten) false) (closed s))
      (¬ ok ∨ 1 < source.toNat → exec (.readTable p) s = .next (replied 0x1B (.refused .range []) (closed s))) ∧
      (ok → source = 0 → reply (live s) 0) ∧
      (ok → source = 1 → s.update.stage = none → exec (.readTable p) s = .next (replied 0x1B (.refused .state []) (closed s))) ∧
      ∀ g, ok → source = 1 → s.update.stage = some g → reply g.image 0x80)

/-! ### The Power Manager -/

/-- SLEEP in the drain phase is DONE without effect; in ACTIVE its checks are made in their order, and past them the wake record and the
watch cycle count are cleared, the drain phase begins with its timer of 20 ms, a pending close is WITHDRAWN with CONTACTOR_DONE and the
disagreement timers stop.
The drain phase ends when queue, reservations, link answer and Forward Queue are empty, no forwarded transaction is in flight and no
exchange runs, or at the timer with all of that discarded and the notice of a discarded NOTICE owed again; the port is then unpowered, an
exchange in progress at the timer becomes dark (the model's reading, log 24), and CHAIN_SLEEP is to be sent. Outside the drain phase
neither does anything, and the timer nothing before its instant (log 3). -/
def Obligations.SleepDrainsAndPowersDown : Prop :=
  (∀ s : State, Accepting s →
    let away : Prop := openOrFaulted s = false ∨ s.sequencer.drive ≠ allOpen
    let busy : Prop := s.sweep.engine ≠ .stopped ∨ s.capture.stack ≠ [] ∨ s.chain.state = .numbering
    let working : Prop := s.update.state = .verifying ∨ s.update.state = .committing ∨ s.update.state = .armed
    let v : State :=
      { closed s with
        power.power := .drain
        power.drainTimer := some (s.now + 2000)
        power.watchCount := 0
        power.record := { first := none, cycles := 0, seconds := 0 }
        sequencer.disagreePos := none
        sequencer.disagreeNeg := none
        sequencer.disagreePre := none }
    (s.power.power = .drain → exec .sleep s = .next (replied 0x12 .ok (closed s))) ∧
    (s.power.power = .active →
      (away → exec .sleep s = .next (replied 0x12 (.refused .contactors []) (closed s))) ∧
      (¬ away → busy → exec .sleep s = .next (replied 0x12 (.refused .busy []) (closed s))) ∧
      (¬ away → ¬ busy → working → exec .sleep s = .next (replied 0x12 (.refused .state []) (closed s))) ∧
      (¬ away → ¬ busy → ¬ working → s.sequencer.closePending = false → exec .sleep s = .next (replied 0x12 .ok v)) ∧
      (¬ away → ¬ busy → ¬ working → s.sequencer.closePending = true →
        exec .sleep s =
          .next (replied 0x12 .ok (raise .contactorDone
            { v with
              sequencer.closePending := false
              sequencer.lastClose := some { result := .withdrawn, prechargeMs := none, sweep := s.sweep.number } }))))) ∧
  ∀ s : State,
    let flying : Prop := ∃ t, s.chain.inFlight = some t ∧ t.requester = .forward
    let done : Prop :=
      s.power.power = .drain ∧ s.link.upstream = [] ∧ s.link.reserved = 0 ∧ s.link.answerSlot = none ∧ s.link.forward = [] ∧ ¬ flying ∧
        s.link.exchange = none
    let held (urgent : Bool) : Bool :=
      s.link.upstream.any fun f => f.kind == 0x62 && f.payload.head? == some (if urgent then 0 else 1)
    (done →
      exec .drainComplete s =
        .next (arbitrate { s with power.power := .chainSleep, power.drainTimer := none, power.frames := [.chainSleep] })) ∧
    (¬ done → exec .drainComplete s = .next s) ∧
    (s.power.power = .drain → (∃ t, s.power.drainTimer = some t ∧ t ≤ s.now) →
      exec .drainTimerExpiry s =
        .next (arbitrate
          { s with
            power.power := .chainSleep
            power.drainTimer := none
            power.frames := [.chainSleep]
            notice.owedUrgent := s.notice.owedUrgent || (held true && s.notice.pending &&& s.notice.enable &&& s.notice.map != 0)
            notice.owedRoutine := s.notice.owedRoutine || (held false && s.notice.pending &&& s.notice.enable &&& ~~~s.notice.map != 0)
            link :=
              { exchange := s.link.exchange.map fun _ => .dark, answerSlot := none, forward := [], upstream := [], reserved := 0 }
            chain.inFlight := s.chain.inFlight.map fun t => if t.requester = .forward then { t with discard := true } else t })) ∧
    (s.power.power ≠ .drain ∨ (¬ ∃ t, s.power.drainTimer = some t ∧ t ≤ s.now) → exec .drainTimerExpiry s = .next s)

/-- A wake source is taken by the power state: none in ACTIVE and WAKING; kept, with the first cause, in ENTERING_SLEEP and
while a transaction of a watch cycle is in flight; WAKING at once in DEEP_SLEEP otherwise, with the watch counts cleared, the watch timer
stopped and the cycle ended. WAKE_IN and LINK are such sources; a chip-select edge while the port is powered is none.
The watch timer begins a cycle when the chain is NUMBERED, with the count one higher up to 65535 and CHAIN_WAKE, TRIGGER, the reads of
the watched cell monitors in range order and CHAIN_SLEEP to send, and starts again otherwise; the settle ends in ACTIVE for WAKING with
the timebase started afresh and WAKE raised; the oscillator powers port and link and asks for CHAIN_WAKE. Out of place, or before the
instant of its timer, none of them does anything (log 3). -/
def Obligations.WakesAndWatchCyclesBegin : Prop :=
  (∀ (w : WakeSource) (s : State),
    let first : Option WakeSource := match s.power.record.first with
      | none => some w
      | some x => some x
    let flying : Prop := s.power.cycle = true ∧ s.chain.inFlight ≠ none
    (s.power.power = .active ∨ s.power.power = .wakingDark ∨ s.power.power = .wakingLit → takeWake w s = s) ∧
    (s.power.power = .drain ∨ s.power.power = .chainSleep ∨ s.power.power = .deepSleep ∧ flying →
      takeWake w s = { s with power.wakeKept := true, power.record.first := first }) ∧
    (s.power.power = .deepSleep → ¬ flying →
      takeWake w s =
        { s with
          power :=
            { s.power with
              power := .wakingDark, watchTimer := none, settleTimer := none, frames := [], cycle := false, cellsAnswered := false
              wakeKept := false, persistence := Vector.replicate 480 0, noAnswer := Vector.replicate 24 0
              record := { s.power.record with first := first } } }) ∧
    exec .wakeIn s = .next (takeWake .wakeIn s) ∧
    (portPowered s = false → exec .linkWake s = .next (takeWake .link s)) ∧
    (portPowered s = true → exec .linkWake s = .next s)) ∧
  ∀ s : State,
    let w := (live s).watch
    let ran (timer : Option Nat) : Prop := ∃ t, timer = some t ∧ t ≤ s.now
    let count : Half := if s.power.watchCount = 65535 then 65535 else s.power.watchCount + 1
    let range : List Nat :=
      if w.rangeFirst.toNat ≤ w.rangeLast.toNat then List.range' w.rangeFirst.toNat (w.rangeLast.toNat + 1 - w.rangeFirst.toNat)
      else List.range' w.rangeFirst.toNat (25 - w.rangeFirst.toNat) ++ List.range' 1 w.rangeLast.toNat
    let length := if (live s).sweepHeader.modes.getLsbD 0 then 20 else 10
    (s.power.power = .deepSleep → ran s.power.watchTimer → s.chain.state = .numbered →
      exec .watchTimerExpiry s =
        .next (arbitrate
          { s with
            power.watchTimer := none
            power.watchCount := count
            power.record.cycles := count
            power.cycle := true
            power.cellsAnswered := false
            power.frames :=
              [.chainWake, .trigger] ++
                ((range.filter fun p => positionKind (live s) p == 1).flatMap fun p => [.readCells p, .readAux p]) ++ [.chainSleep]
            chain.linkPowered := true })) ∧
    (s.power.power = .deepSleep → ran s.power.watchTimer → s.chain.state ≠ .numbered →
      exec .watchTimerExpiry s =
        .next (arbitrate
          { s with power.watchTimer := if w.interval = 0 then none else some (s.now + w.interval.toNat * 100000) })) ∧
    (s.power.power ≠ .deepSleep ∨ ¬ ran s.power.watchTimer → exec .watchTimerExpiry s = .next s) ∧
    (ran s.power.settleTimer → waking s = false →
      exec .chainSettleEnd s = .next (arbitrate { s with power.settleTimer := none })) ∧
    (ran s.power.settleTimer → waking s = true →
      exec .chainSettleEnd s =
        .next (arbitrate (raise .wake (admitNotices (superviseFeedback
          { s with
            power.settleTimer := none
            power.power := .active
            sweep.tickSpan := length
            sweep.tickLeft := length }))))) ∧
    (¬ ran s.power.settleTimer → exec .chainSettleEnd s = .next s) ∧
    (s.power.power = .wakingDark →
      exec .oscillatorStarted s =
        .next (arbitrate { s with power.power := .wakingLit, chain.linkPowered := true, power.frames := [.chainWake] })) ∧
    (s.power.power ≠ .wakingDark → exec .oscillatorStarted s = .next s)

/-! ### The Update Engine and the Table Store -/

/-- UPDATE-BEGIN makes its checks in their order and, past them, makes the stage a copy of the live image with the generation and the table
set of the command and enters STAGING.
UPDATE-WINDOW sets a range of a table of the set with the cursor at its first entry; UPDATE-SEAL keeps the tag, clears window, cursor
and open write and enters VERIFYING; both are refused with LOCKED in LOCKED, with STATE outside STAGING, and with RANGE past that. That a
short payload too meets the checks before RANGE, one whose parameter is missing passed over, is the model's reading (log 17). -/
def Obligations.UpdateBeginWindowAndSeal : Prop :=
  (∀ (set a b c d : Byte) (rest : List Byte) (s : State), Accepting s →
     let generation : Word := (a ++ b) ++ (c ++ d)
     let reply (r : Reason) : Host.Outcome State Fault Refusal := .next (replied 0x13 (.refused r []) (closed s))
     exec (.updateBegin (set :: a :: b :: c :: d :: rest)) s =
       if s.update.mismatches = 3 then reply .locked
       else if s.update.tamperLatch = true then reply .tamper
       else if generation.toNat ≤ (live s).generation.toNat then reply .generation
       else if set.getLsbD 3 = true ∧ s.update.floorLock = true then reply .locked
       else if s.update.state ≠ .idle then reply .busy
       else if set = 0 then reply .range
       else
         .next (replied 0x13 .ok
           { closed s with
             update.state := .staging
             update.stage := some { image := { live s with generation := generation }, set := set } })) ∧
  (∀ (p : List Byte) (s : State), Accepting s → p.length < 5 →
     exec (.updateBegin p) s =
       .next (replied 0x13
         (.refused
           (if s.update.mismatches = 3 then .locked
           else if s.update.tamperLatch = true then .tamper
           else if (∃ set, p.head? = some set ∧ set.getLsbD 3 = true) ∧ s.update.floorLock = true then .locked
           else if s.update.state ≠ .idle then .busy
           else .range) []) (closed s))) ∧
  ∀ s : State, Accepting s →
    (∀ p, s.update.state = .locked →
      exec (.updateWindow p) s = .next (replied 0x14 (.refused .locked []) (closed s)) ∧
      exec (.updateSeal p) s = .next (replied 0x16 (.refused .locked []) (closed s))) ∧
    (∀ p, s.update.state ≠ .locked → s.update.state ≠ .staging →
      exec (.updateWindow p) s = .next (replied 0x14 (.refused .state []) (closed s)) ∧
      exec (.updateSeal p) s = .next (replied 0x16 (.refused .state []) (closed s))) ∧
    (∀ (t : Table) (a b c d : Byte) (rest : List Byte) (g : Stage), s.update.state = .staging → s.update.stage = some g →
      let first := a.toNat * 256 + b.toNat
      let last := c.toNat * 256 + d.toNat
      let ok : Prop := holds g.set t = true ∧ first ≤ last ∧ last < t.size
      (ok →
        exec (.updateWindow (byteOf t.code :: a :: b :: c :: d :: rest)) s =
          .next (replied 0x14 .ok
            { closed s with update.window := some { table := t, first := first, last := last, cursor := first } })) ∧
      (¬ ok →
        exec (.updateWindow (byteOf t.code :: a :: b :: c :: d :: rest)) s =
          .next (replied 0x14 (.refused .range []) (closed s)))) ∧
    (∀ p : List Byte, s.update.state = .staging → p.length < 5 ∨ 7 < (p.getD 0 0).toNat →
      exec (.updateWindow p) s = .next (replied 0x14 (.refused .range []) (closed s))) ∧
    (∀ p, s.update.state = .staging → s.power.power = .active →
      (p.length < 16 → exec (.updateSeal p) s = .next (replied 0x16 (.refused .range []) (closed s))) ∧
      (16 ≤ p.length →
        exec (.updateSeal p) s =
          .next (replied 0x16 .accepted
            { closed s with
              update.state := .verifying
              update.window := none
              update.openWrite := none
              update.tag := some (BitVec.ofNat 128 (beNat (p.take 16))) })))

/-- UPDATE-WRITE with an entry part of any number of entries, each as long as the layout at its cursor: a START in REPLACE mode puts every
field of an entry at the cursor, in MERGE mode the selected fields alone, a CONTINUE goes on in the open write's mode, the cursor rises by
1 an entry, and the entries past the window are counted as ignored; the reply counts both and gives the cursor. With no entry it writes
none. An entry part that does not divide, a field select or control byte out of range and a payload under three bytes are RANGE; that such
a short payload is LOCKED, STATE or SEQUENCE before it is RANGE is the model's reading (log 17). Every refusal leaves stage and cursor and closes the open write. -/
def Obligations.UpdateWriteWritesAtTheCursor : Prop :=
  ∀ (s : State), Accepting s →
    let v : State := taken s
    let refused (r : Reason) : Host.Outcome State Fault Refusal := .next (replied 0x15 (.refused r []) { v with update.openWrite := none })
    (∀ p, s.update.state = .locked → exec (.updateWrite p) s = refused .locked) ∧
    (∀ p, s.update.state ≠ .locked → s.update.state ≠ .staging → exec (.updateWrite p) s = refused .state) ∧
    ∀ g, s.update.state = .staging → s.update.stage = some g →
      (∀ p, s.update.window = none → exec (.updateWrite p) s = refused .sequence) ∧
      ∀ w, s.update.window = some w →
        let fields (i : Nat) : List Nat := fieldWidths w.table (min i w.last)
        let most := max (fieldWidths w.table w.first).length (fieldWidths w.table w.last).length
        let fit (entries : List (List Byte)) : Prop :=
          ∀ k e, entries[k]? = some e → e.length = (fields (w.cursor + k)).sum
        let placed (o : OpenWrite) (img : Image) (i : Nat) (entry : List Byte) : Image :=
          let new := unpackFields (fields i) entry
          let old := entryFields img w.table i
          setEntry img w.table i
            (if o.merge then (List.range (fields i).length).map fun k => if o.select.getLsbD k then new.getD k 0 else old.getD k 0
            else new)
        let written (o : OpenWrite) (entries : List (List Byte)) : Host.Outcome State Fault Refusal :=
          let n := min entries.length (w.last + 1 - w.cursor)
          .next (replied 0x15 (.done ([byteOf n, byteOf (entries.length - n)] ++ halfBytes (halfOf (w.cursor + n))) false)
            { v with
              update.stage := some
                { g with image := ((entries.take n).zipIdx w.cursor).foldl (fun img e => placed o img e.2 e.1) g.image }
              update.window := some { w with cursor := w.cursor + n }
              update.openWrite := some o })
        (∀ control p, control.getLsbD 1 = true → s.update.openWrite = none → exec (.updateWrite (control :: p)) s = refused .sequence) ∧
        (∀ p, p.length < 3 → ((p.getD 0 0).getLsbD 1 = true → s.update.openWrite ≠ none) → exec (.updateWrite p) s = refused .range) ∧
        ∀ control h l : Byte,
          let open? : Prop := control.getLsbD 1 = true → s.update.openWrite ≠ none
          (∀ entries, fit entries →
            let p : List Byte := control :: h :: l :: entries.flatten
            (∀ o, control.getLsbD 1 = true → s.update.openWrite = some o → exec (.updateWrite p) s = written o entries) ∧
            (control = 0 → exec (.updateWrite p) s = written { merge := false, select := h ++ l } entries) ∧
            (control = 1 → h ++ l ≠ (0 : Half) → (h ++ l).toNat < 2 ^ most →
              exec (.updateWrite p) s = written { merge := true, select := h ++ l } entries) ∧
            (control = 1 → h ++ l = (0 : Half) ∨ 2 ^ most ≤ (h ++ l).toNat → exec (.updateWrite p) s = refused .range) ∧
            (control.getLsbD 1 = false → 1 < control.toNat → exec (.updateWrite p) s = refused .range)) ∧
          ∀ bytes, (∀ entries, fit entries → entries.flatten ≠ bytes) → open? →
            exec (.updateWrite (control :: h :: l :: bytes)) s = refused .range

/-- VERIFY_END: the first entry that fails a structural test, in table and entry order, sends the update back to STAGING as
REJECTED_STRUCTURE; past it an equal tag over the sealed content, that is the table set, the staged generation and the entries of each
table of the set, makes SEALED and clears the counter, a different one adds to it and goes back to STAGING, and the third locks the
protocol and discards the stage. UPDATE_RESULT is raised in every case. Outside VERIFYING nothing happens (log 3). -/
def Obligations.VerifyingEnds : Prop :=
  ∀ s : State,
    (s.update.state ≠ .verifying → exec .verifyEnd s = .next s) ∧
    ∀ (g : Stage) (tag : Tag), s.update.state = .verifying → s.update.stage = some g → s.update.tag = some tag →
      let v : State := raise .updateResult s
      let img := g.image
      let heat (x : Half) : Prop := -400 ≤ x.toInt ∧ x.toInt ≤ 1500
      let kind (p : Nat) : Byte := positionKind img p
      let point (i : Nat) : Breakpoint := look img.thermal { code := 0, temp := 0 } i
      let program (f : ProgramField) : Prop := f.count.toNat ≤ 32 ∧ 1 ≤ f.interval.toNat
      let good (t : Table) (i : Nat) : Prop := match t with
        | .chainMap =>
          if i = 0 then
            2 ≤ img.chainHeader.window.toNat ∧ img.chainHeader.window.toNat ≤ 200 ∧ 1 ≤ img.chainHeader.lostThreshold.toNat ∧
              img.chainHeader.lostThreshold.toNat ≤ 7
          else
            (kind i).toNat ≤ 2 ∧ (kind i = 0 ∨ i = 1 ∨ kind (i - 1) ≠ 0) ∧ (kind i = 2 → ∀ p, 1 ≤ p → p < i → kind p ≠ 2)
        | .cellMap =>
          let e := cellEntry img i
          if 16 ≤ i % 20 then e.gain = 0 ∧ -100 ≤ e.offset.toInt ∧ e.offset.toInt ≤ 100
          else -8192 ≤ e.gain.toInt ∧ e.gain.toInt ≤ 8191 ∧ -512 ≤ e.offset.toInt ∧ e.offset.toInt ≤ 511
        | .limits =>
          let r := look img.limits LimitRecord.blank i
          r.vHyst.toNat ≤ 2000 ∧ (1 ≤ r.vPersist.toNat ∧ r.vPersist.toNat ≤ 15) ∧
            (heat r.otTrip ∧ heat r.otWarn ∧ heat r.utWarn ∧ heat r.utTrip) ∧ r.tHyst.toNat ≤ 200 ∧
            (1 ≤ r.tPersist.toNat ∧ r.tPersist.toNat ≤ 15) ∧
            (r.uvTrip.toNat < r.uvWarn.toNat ∧ r.uvWarn.toNat < r.ovWarn.toNat ∧ r.ovWarn.toNat < r.ovTrip.toNat) ∧
            (r.utTrip.toInt < r.utWarn.toInt ∧ r.utWarn.toInt < r.otWarn.toInt ∧ r.otWarn.toInt < r.otTrip.toInt)
        | .floor =>
          let r := floorRecord img i
          (1 ≤ r.vPersist.toNat ∧ r.vPersist.toNat ≤ 15) ∧ (1 ≤ r.tPersist.toNat ∧ r.tPersist.toNat ≤ 15) ∧
            (heat r.otTrip ∧ heat r.utTrip) ∧ r.uvTrip.toNat < r.ovTrip.toNat ∧ r.utTrip.toInt < r.otTrip.toInt
        | .thermal =>
          (1 ≤ (point i).code.toNat ∧ (point i).code.toNat ≤ 4094) ∧ heat (point i).temp ∧
            (i ≠ 0 → (point (i - 1)).code.toNat < (point i).code.toNat ∧ (point i).temp.toInt < (point (i - 1)).temp.toInt)
        | .sweep =>
          let h := img.sweepHeader
          let x := sweepSlot img (i - 1)
          if i = 0 then
            (20 ≤ h.period.toNat ∧ h.period.toNat ≤ 10000) ∧ h.quietStart.toNat ≤ h.quietEnd.toNat ∧
              h.quietEnd.toNat + 2 ≤ h.period.toNat ∧ h.slotCount.toNat ≤ 16
          else
            i ≤ h.slotCount.toNat →
              x.offset.toNat ≤ h.period.toNat - 1 ∧ (i = 1 ∨ (sweepSlot img (i - 2)).offset.toNat < x.offset.toNat) ∧
                x.kind.toNat ≤ 3 ∧ (1 ≤ x.divider.toNat ∧ x.divider.toNat ≤ 16) ∧
                (x.kind = 2 ∨ x.kind = 3 →
                  x.fixedFirst.toNat ≤ 24 ∧
                    (x.fixedFirst ≠ 0 → x.fixedFirst.toNat ≤ x.fixedLast.toNat ∧ x.fixedLast.toNat ≤ 24) ∧ x.rotCount.toNat ≤ 24 ∧
                    (x.rotCount ≠ 0 →
                      1 ≤ x.rotFirst.toNat ∧ x.rotFirst.toNat ≤ x.rotLast.toNat ∧ x.rotLast.toNat ≤ 24))
        | .contactor =>
          let r := img.contactor
          (10 ≤ r.preTimeout.toNat ∧ r.preTimeout.toNat ≤ 5000) ∧ 128 ≤ r.preRatio.toNat ∧
            (5 ≤ r.feedbackTime.toNat ∧ r.feedbackTime.toNat ≤ 200) ∧ r.openDwell.toNat ≤ 100 ∧ r.breakLimit.toNat ≤ 32767 ∧
            r.deferLimit.toNat ≤ 2000 ∧ (10 ≤ r.weldTime.toNat ∧ r.weldTime.toNat ≤ 2000) ∧ 2 ≤ r.silenceLimit.toNat ∧
            program r.precharge ∧ program r.close ∧ program r.opening ∧ program r.trip
        | .watch =>
          let r := img.watch
          (1 ≤ r.rangeFirst.toNat ∧ r.rangeFirst.toNat ≤ 24) ∧ (1 ≤ r.rangeLast.toNat ∧ r.rangeLast.toNat ≤ 24) ∧
            r.uv.toNat < r.ov.toNat ∧ (heat r.ot ∧ heat r.ut) ∧ r.ut.toInt < r.ot.toInt ∧
            (1 ≤ r.persistence.toNat ∧ r.persistence.toNat ≤ 3)
      let sound : Prop := ∀ t i, holds g.set t = true → i < t.size → good t i
      let sealedBytes : List Byte :=
        g.set :: wordBytes img.generation ++
          (([Table.chainMap, .cellMap, .limits, .floor, .thermal, .sweep, .contactor, .watch].filter (holds g.set)).map fun t =>
            ((List.range t.size).map (entryBytes img t)).flatten).flatten
      (∀ t i, holds g.set t = true → i < t.size → ¬ good t i → (∀ j, j < i → good t j) →
          (∀ u j, holds g.set u = true → u.code < t.code → j < u.size → good u j) →
        exec .verifyEnd s =
          .next
            { v with
              update.state := .staging
              update.tag := none
              update.lastResult := .rejectedStructure
              update.rejected := some (t, i) }) ∧
      (sound → Config.keyedTag sealedBytes = tag →
        exec .verifyEnd s =
          .next
            { v with
              update.state := .sealed
              update.tag := none
              update.mismatches := 0
              update.lastResult := .sealed
              update.rejected := none }) ∧
      (sound → Config.keyedTag sealedBytes ≠ tag → s.update.mismatches < 2 →
        exec .verifyEnd s =
          .next
            { v with
              update.state := .staging
              update.tag := none
              update.mismatches := s.update.mismatches + 1
              update.lastResult := .rejectedTag
              update.rejected := none }) ∧
      (sound → Config.keyedTag sealedBytes ≠ tag → s.update.mismatches = 2 →
        exec .verifyEnd s =
          .next
            { v with
              update :=
                { s.update with
                  state := .locked, stage := none, window := none, openWrite := none, tag := none, target := none, commit := none
                  commitTampered := false, mismatches := 3, lastResult := .rejectedTag, rejected := none } })

/-- UPDATE-ACTIVATE past PROTECTED and STATE: LOCKED, no effect in COMMITTING and ARMED, STATE outside SEALED, CONTACTORS for a set that
touches the safety set with the contactors neither OPEN nor FAULTED; otherwise the commit begins into the slot that is not live, whose
mark is erased, with the live image, the staged tables of the set and the staged generation composed. COMMIT_END: a commit read back whole
writes the mark, is ARMED, and is swapped at once with the engine STOPPED; one that did not read back goes back to SEALED as COMMIT_FAILED
with the slot invalid; a tampered one is discarded as ABORTED_TAMPER whatever its read-back (the model's reading, log 19). Outside
COMMITTING nothing happens (log 3). -/
def Obligations.ActivateAndCommit : Prop :=
  (∀ s : State, Accepting s → s.protection.state ≠ .safeOpen → s.power.power = .active →
     (s.update.state = .locked → exec .updateActivate s = .next (replied 0x17 (.refused .locked []) (closed s))) ∧
     (s.update.state = .committing ∨ s.update.state = .armed → exec .updateActivate s = .next (replied 0x17 .ok (closed s))) ∧
     (s.update.state = .idle ∨ s.update.state = .staging ∨ s.update.state = .verifying →
       exec .updateActivate s = .next (replied 0x17 (.refused .state []) (closed s))) ∧
     ∀ g, s.update.state = .sealed → s.update.stage = some g →
       (touchesSafety g.set = true → openOrFaulted s = false →
         exec .updateActivate s = .next (replied 0x17 (.refused .contactors []) (closed s))) ∧
       (touchesSafety g.set = false ∨ openOrFaulted s = true →
         ∃ img : Image,
           img.generation = g.image.generation ∧
           (∀ t i, entryFields img t i = if holds g.set t then entryFields g.image t i else entryFields (live s) t i) ∧
           let v : State :=
             { closed s with
               update.state := .committing
               update.commit := some img
               update.commitTampered := false }
           (s.tables.liveSlot ≠ some .a →
             exec .updateActivate s =
               .next (replied 0x17 .accepted { v with update.target := some .a, tables.slotA := none })) ∧
           (s.tables.liveSlot = some .a →
             exec .updateActivate s =
               .next (replied 0x17 .accepted { v with update.target := some .b, tables.slotB := none })))) ∧
  ∀ s : State,
    (∀ readBack, s.update.state ≠ .committing → exec (.commitEnd readBack) s = .next s) ∧
    ∀ (id : SlotId) (img : Image), s.update.state = .committing → s.update.target = some id → s.update.commit = some img →
      let v : State := raise .updateResult s
      let armed : State := match id with
        | .a => { s with update.state := .armed, tables.slotA := some img }
        | .b => { s with update.state := .armed, tables.slotB := some img }
      (∀ readBack, s.update.commitTampered = true →
        exec (.commitEnd readBack) s =
          .next
            { v with
              update :=
                { s.update with
                  state := .idle, stage := none, window := none, openWrite := none, tag := none, target := none, commit := none
                  commitTampered := false, lastResult := .abortedTamper, rejected := none } }) ∧
      (s.update.commitTampered = false →
        exec (.commitEnd false) s =
          .next
            { v with
              update.state := .sealed
              update.target := none
              update.commit := none
              update.lastResult := .commitFailed
              update.rejected := none }) ∧
      (s.update.commitTampered = false → s.sweep.engine ≠ .stopped → exec (.commitEnd true) s = .next armed) ∧
      (s.update.commitTampered = false → s.sweep.engine = .stopped → exec (.commitEnd true) s = .next (swapImage armed))

/-- UPDATE-ABORT by the update state: nothing to do in IDLE; in STAGING, VERIFYING and SEALED the stage, window, cursor, open write and kept
tag go, the state is IDLE and the last result ABORTED without an event; refused with STATE in COMMITTING and ARMED and with LOCKED in
LOCKED. The same generation may be begun again. -/
def Obligations.AbortDiscardsTheUpdate : Prop :=
  ∀ s : State, Accepting s →
    (s.update.state = .idle → exec .updateAbort s = .next (replied 0x18 .ok (closed s))) ∧
    (s.update.state = .staging ∨ s.update.state = .verifying ∨ s.update.state = .sealed →
      exec .updateAbort s =
        .next (replied 0x18 .ok
          { closed s with
            update :=
              { s.update with
                state := .idle, stage := none, window := none, openWrite := none, tag := none, target := none, commit := none
                commitTampered := false, lastResult := .aborted, rejected := none } })) ∧
    (s.update.state = .committing ∨ s.update.state = .armed →
      exec .updateAbort s = .next (replied 0x18 (.refused .state []) (closed s))) ∧
    (s.update.state = .locked → exec .updateAbort s = .next (replied 0x18 (.refused .locked []) (closed s))) ∧
    ∀ (t : State) (set : Byte) (generation : Word),
      s.update.state = .staging ∨ s.update.state = .verifying ∨ s.update.state = .sealed → exec .updateAbort s = .next t →
      s.update.mismatches < 3 → s.update.tamperLatch = false → (live s).generation.toNat < generation.toNat → set ≠ 0 →
      holds set .floor = false ∨ s.update.floorLock = false → beginRefusal (some set) (some generation) t = none

/-- LOCK-FLOOR sets the floor lock, clear in a new part, with no effect when it is set and refused with BUSY while an update of FLOOR is in
progress. A set lock is cleared by no command and no reset, UPDATE-BEGIN refuses a set with FLOOR and judges every other set as without
the lock, the FLOOR table of the live image then stays as it is, under every LIMITS and WATCH table the effective trip thresholds stay
inside the floor's, and the UPDATE section reports the lock. -/
def Obligations.FloorLockHolds : Prop :=
  (∀ s : State, Accepting s →
    (s.update.floorLock = true → exec .lockFloor s = .next (replied 0x19 .ok (closed s))) ∧
    (s.update.floorLock = false → updateHolds .floor s = true →
      exec .lockFloor s = .next (replied 0x19 (.refused .busy []) (closed s))) ∧
    (s.update.floorLock = false → updateHolds .floor s = false →
      exec .lockFloor s = .next (replied 0x19 .ok { closed s with update.floorLock := true }))) ∧
  (∀ (c : Instr) (s t : State), exec c s = .next t → s.update.floorLock = true → t.update.floorLock = true) ∧
  (∀ s t : State, generationsFit s = true → floorFits s = true → step s = .next t →
    floorFits t = true ∧ (s.update.floorLock = true → (live t).floor = (live s).floor)) ∧
  (∀ (set : Byte) (generation : Word) (s : State), s.update.floorLock = true → holds set .floor = true →
    s.update.mismatches ≠ 3 → s.update.tamperLatch = false → (live s).generation.toNat < generation.toNat →
    beginRefusal (some set) (some generation) s = some .locked) ∧
  (∀ (set : Byte) (generation : Word) (s : State), holds set .floor = false →
    beginRefusal (some set) (some generation) s =
      beginRefusal (some set) (some generation) { s with update.floorLock := false }) ∧
  State.reset.update.floorLock = false ∧
  (∀ s : State, ((sectionBytes s .update).getLastD 0).getLsbD 1 = s.update.floorLock) ∧
  ∀ (img : Image) (p : Fin 4) (i : Nat),
    let e := effective img p i
    e.overTrip ≤ e.floorOver ∧ e.floorUnder ≤ e.underTrip ∧ e.overWarn ≤ e.overTrip ∧ e.underTrip ≤ e.underWarn ∧
      (watchThresholds img i).1 ≤ e.floorOver ∧ e.floorUnder ≤ (watchThresholds img i).2

/-- CLEAR-TAMPER makes its checks in their order and clears the latch, after which UPDATE-BEGIN is not refused with TAMPER. TAMPER_IN
becoming asserted sets it, raises TAMPER, takes the wake source, discards an update in STAGING, VERIFYING or SEALED and marks one in
COMMITTING; an assertion after the clearing sets the latch again, and while it reads asserted TAMPER_IN does nothing (log 3). -/
def Obligations.TamperLatchIsSetAndCleared : Prop :=
  ∀ s : State,
    (Accepting s →
      exec .clearTamper s =
        .next
          (if s.update.tamperLatch = false then replied 0x1A .ok (closed s)
          else if s.update.state = .locked then replied 0x1A (.refused .locked []) (closed s)
          else if s.update.tamperReading = true then replied 0x1A (.refused .tamper []) (closed s)
          else if s.update.state ≠ .idle then replied 0x1A (.refused .busy []) (closed s)
          else replied 0x1A .ok { closed s with update.tamperLatch := false })) ∧
    (∀ set generation, s.update.tamperLatch = false → beginRefusal set generation s ≠ some .tamper) ∧
    (s.update.tamperReading = true → exec .tamperIn s = .next s) ∧
    (s.update.tamperReading = false →
      let u := takeWake .tamper (raise .tamper { s with update.tamperReading := true, update.tamperLatch := true })
      (s.update.state = .idle ∨ s.update.state = .locked ∨ s.update.state = .armed → exec .tamperIn s = .next u) ∧
      (s.update.state = .committing → exec .tamperIn s = .next { u with update.commitTampered := true }) ∧
      (s.update.state = .staging ∨ s.update.state = .verifying ∨ s.update.state = .sealed →
        exec .tamperIn s =
          .next (raise .updateResult
            { u with
              update :=
                { u.update with
                  state := .idle, stage := none, window := none, openWrite := none, tag := none, target := none, commit := none
                  commitTampered := false, lastResult := .abortedTamper, rejected := none } })) ∧
      (∀ t, exec .tamperIn s = .next t → t.update.tamperLatch = true ∧ t.update.tamperReading = true)) ∧
    exec .tamperInDeasserted s = .next { s with update.tamperReading := false }

/-! ### Resets -/

/-- A POWER-ON or HARD reset makes the valid slot of the higher generation live, slot A of two equal ones and the blank image of none, and
sets everything else to its reset value; the slots, the tamper latch and the floor lock stay. HARD keeps the trip record, marked as
followed by a reset, the mismatch counter with LOCKED, the last result and the wake record. CHAIN_WAKE is granted to WATCH. The
debounced TAMPER_IN reading is kept, and one that reads asserted is taken in the same step (the model's reading, log 30). -/
def Obligations.ColdResets : Prop :=
  ∀ s : State,
    let chosen : Image × Option SlotId := match s.tables.slotA, s.tables.slotB with
      | none, none => (Image.blank, none)
      | some a, none => (a, some .a)
      | none, some b => (b, some .b)
      | some a, some b => if a.generation.toNat < b.generation.toNat then (b, some .b) else (a, some .a)
    let header := chosen.1.chainHeader
    let length := if chosen.1.sweepHeader.modes.getLsbD 0 then 20 else 10
    let watchHigh := header.classes.getLsbD 6
    let onlyWatch := !header.classes.getLsbD 0 && !header.classes.getLsbD 2 && !header.classes.getLsbD 4
    let fresh : Channel :=
      { value := 0, raw := 0, stamp := .absent, status := .none, clamped := false, warn := .clear, counter := 0, tripped := false }
    let cold : State :=
      { pending := s.pending
        choices := s.choices
        now := s.now
        tables := { live := chosen.1, liveSlot := chosen.2, slotA := s.tables.slotA, slotB := s.tables.slotB }
        update :=
          { state := .idle, stage := none, window := none, openWrite := none, tag := none, target := none, commit := none
            commitTampered := false, lastResult := .none, rejected := none, mismatches := 0, tamperLatch := s.update.tamperLatch
            floorLock := s.update.floorLock, tamperReading := s.update.tamperReading }
        sweep :=
          { engine := .stopped, number := 0, counter := 0, waitCount := 0, rotation := remap (fun _ x => x.rotFirst.toNat) chosen.1.slots
            reads := [], triggers := [], deferredSlots := [], slotsPassed := 0, quiet := .before, record := none, last := none
            ticks := 0, tickSpan := length, tickLeft := length }
        chain :=
          { inFlight := some
              { requester := .watch, frame := { address := 31, kind := 0x0E, flags := 3, payload := [] }, target := none
                expect := none, window := header.window, discard := false, context := none }
            linkPowered := true, state := .unnumbered, enumRecord := { count := 0, kinds := [], faulty := false }, enumNext := 0
            enumKinds := [], misses := Vector.replicate 24 0, lost := Vector.replicate 24 false }
        arbiter :=
          { maskForward := false, maskSweep := false, lastGranted := some .watch, highPointer := if watchHigh then some .watch else none
            lowPointer := if watchHigh then none else some .watch, highCount := if watchHigh then 1 else 0
            lowTurnDue := watchHigh && onlyWatch }
        evaluator :=
          { channels := Vector.replicate 480 fresh
            pack :=
              { vPack := 0, vLink := 0, iPack := 0, trigger := 0, fromCapture := false, stamp := .absent, status := .none }
            profile := 0, pendingProfile := none, matchedVPack := none }
        protection := { state := .normal, record := none }
        sequencer :=
          { state := .opened, drive := ⟨false, false, false⟩, feedback := ⟨false, false, false⟩, closePending := false
            openPending := false, prechargeTimer := none, silenceTimer := none, deferTimer := none, dwellTimer := none
            weldTimer := none, disagreePos := none, disagreeNeg := none, disagreePre := none, prechargeStart := 0
            prechargeMs := none, deferStart := 0, qualifying := 0, openSequence := none, lastClose := none, lastOpen := none }
        capture :=
          { stack := [], pendingSet := { precharge := none, close := none, opening := none, trip := none }, nextId := 0, buffer := [] }
        power :=
          { power := .active, drainTimer := none, watchTimer := none, settleTimer := none, frames := [], cycle := false
            cellsAnswered := false, watchCount := 0, persistence := Vector.replicate 480 0, noAnswer := Vector.replicate 24 0
            wakeKept := false, record := { first := none, cycles := 0, seconds := 0 }, sleepStart := 0 }
        link := { exchange := none, answerSlot := none, forward := [], upstream := [], reserved := 0 }
        notice := { pending := 0, enable := 0x7FFF, map := 0x003F, owedUrgent := false, owedRoutine := false } }
    let hard : State :=
      { cold with
        protection.record := s.protection.record.map fun r => { r with resetSince := true }
        update.mismatches := s.update.mismatches
        update.state := if s.update.mismatches = 3 then .locked else .idle
        update.lastResult := s.update.lastResult
        update.rejected := s.update.rejected
        power.record := s.power.record }
    (s.update.tamperReading = false → exec .powerOnReset s = .next cold ∧ exec .hardReset s = .next hard) ∧
    (s.update.tamperReading = true →
      let seen (t : State) : State :=
        { t with update.tamperLatch := true, notice := { t.notice with pending := 0x0010, owedUrgent := true } }
      exec .powerOnReset s = .next (seen cold) ∧ exec .hardReset s = .next (seen hard))

/-! ### Invariants of every step -/

/-- No output is driven in SAFE_OPEN or outside ACTIVE, the drives fit the contactor state, a pending mark stands in its contactor state
alone, and a watch cycle runs in DEEP_SLEEP alone, after every step from a state in which this holds. -/
def Obligations.OutputsStaySafe : Prop :=
  ∀ s t : State, outputsSafe s = true → step s = .next t → outputsSafe t = true

/-- Held and reserved entries stay within 16, every reservation stays owed to a forwarded frame, and the Forward Queue stays within four
frames; and the Upstream Queue never holds two NOTICE frames of one channel. -/
def Obligations.QueuesStayFit : Prop :=
  ∀ s t : State, step s = .next t → (queuesFit s = true → queuesFit t = true) ∧ (noticesFit s = true → noticesFit t = true)

/-- The live generation never falls, and what keeps it from falling is kept. -/
def Obligations.GenerationNeverFalls : Prop :=
  ∀ s t : State, generationsFit s = true → step s = .next t →
    (live s).generation.toNat ≤ (live t).generation.toNat ∧ generationsFit t = true

/-- The capture stack stays within four contexts, the pending set is non-empty only while it holds four, the buffer stays within 64
records, and the mismatch counter stays within 3 and is 3 exactly in LOCKED, from every
state in which this holds: a run that is complete leaves alone, also where two runs had one id. -/
def Obligations.CaptureAndCounterStayFit : Prop :=
  ∀ s t : State, stackFits s = true → bufferFits s = true → mismatchFits s = true → step s = .next t →
    stackFits t = true ∧ bufferFits t = true ∧ mismatchFits t = true

/-- SAFE_OPEN is left by a granted CLEAR-TRIP or a POWER-ON or HARD reset alone. -/
def Obligations.SafeOpenIsLeftByClearingAlone : Prop :=
  ∀ (c : Instr) (s t : State), s.protection.state = .safeOpen → exec c s = .next t → t.protection.state ≠ .safeOpen →
    t.protection.state = .normal ∧
      (c = .powerOnReset ∨ c = .hardReset ∨ c = .clearTrip ∨
        ∃ rx f rest, c = .exchangeEnd rx ∧ goodFrame? rx = some f ∧ f.kind = 0x03 ∧ f.payload = 0x0E :: rest)

/-- The state after reset meets every invariant stated of steps. -/
def Obligations.ResetMeetsTheInvariants : Prop :=
  outputsSafe State.reset = true ∧ queuesFit State.reset = true ∧ noticesFit State.reset = true ∧
    generationsFit State.reset = true ∧ floorFits State.reset = true ∧
    stackFits State.reset = true ∧ bufferFits State.reset = true ∧ mismatchFits State.reset = true

/-- An entry written to an image reads back as it was written, with the bits the layout does not assign stored as 0 (the model's choice,
log 25), and every other entry of every table reads as before. -/
def Obligations.EntryRoundTrip : Prop :=
  ∀ (img : Image) (t : Table) (i : Nat) (bytes : List Byte), i < t.size → bytes.length = entryWidth t i →
    let mask : Byte := match t with
      | .cellMap => 0x8F
      | _ => 0xFF
    let kept (k : Nat) (b : Byte) : Byte :=
      if t = .cellMap ∧ k = 0 then b &&& mask
      else if t = .sweep ∧ i = 0 ∧ k = 2 then b &&& 0x0F
      else if t = .contactor ∧ k = 13 then b &&& 0x03
      else b
    let new := setEntry img t i (unpackFields (fieldWidths t i) bytes)
    entryBytes new t i = bytes.mapIdx kept ∧
      ∀ (u : Table) (j : Nat), j < u.size → u ≠ t ∨ j ≠ i → entryBytes new u j = entryBytes img u j
end

