-- ==== Sys2Proof/Laws/Frames.lean ====
section
/-! SUPPORT. What the shared operations leave alone: for each operation, one lemma per field of the state that it does not change. -/

namespace Sys2Proof.Machine

set_option Elab.async false

/-- Evaluating an answer is a fold over its codes with their channel numbers. -/
theorem eachChannel_eq (f : Nat → Nat → Half → State → State) (p : Nat) (kind : ReadKind) (payload : List Byte) (s : State) :
    eachChannel f p kind payload s =
      ((codesOf (channelsOf kind).2 payload).zipIdx (channelsOf kind).1).foldl (fun s ch => f p ch.2 ch.1 s) s := by
  cases kind <;> rfl

/-- Judging a watch answer is a fold over its channel numbers. -/
theorem judgeWatch_eq (p : Nat) (kind : ReadKind) (s : State) :
    judgeWatch p kind s =
      (List.range' (channelsOf kind).1 (channelsOf kind).2).foldl (fun acc c => judgeWatchChannel p c acc) (false, s) := by
  cases kind <;> rfl

@[simp] theorem beginTick_pending (s : State) : (beginTick s).pending = s.pending := by
  unfold beginTick; rfl

@[simp] theorem beginTick_choices (s : State) : (beginTick s).choices = s.choices := by
  unfold beginTick; rfl

@[simp] theorem beginTick_now (s : State) : (beginTick s).now = s.now := by
  unfold beginTick; rfl

@[simp] theorem beginTick_tables (s : State) : (beginTick s).tables = s.tables := by
  unfold beginTick; rfl

@[simp] theorem beginTick_update (s : State) : (beginTick s).update = s.update := by
  unfold beginTick; rfl

@[simp] theorem beginTick_chain (s : State) : (beginTick s).chain = s.chain := by
  unfold beginTick; rfl

@[simp] theorem beginTick_arbiter (s : State) : (beginTick s).arbiter = s.arbiter := by
  unfold beginTick; rfl

@[simp] theorem beginTick_evaluator (s : State) : (beginTick s).evaluator = s.evaluator := by
  unfold beginTick; rfl

@[simp] theorem beginTick_protection (s : State) : (beginTick s).protection = s.protection := by
  unfold beginTick; rfl

@[simp] theorem beginTick_sequencer (s : State) : (beginTick s).sequencer = s.sequencer := by
  unfold beginTick; rfl

@[simp] theorem beginTick_capture (s : State) : (beginTick s).capture = s.capture := by
  unfold beginTick; rfl

@[simp] theorem beginTick_power (s : State) : (beginTick s).power = s.power := by
  unfold beginTick; rfl

@[simp] theorem beginTick_link (s : State) : (beginTick s).link = s.link := by
  unfold beginTick; rfl

@[simp] theorem beginTick_notice (s : State) : (beginTick s).notice = s.notice := by
  unfold beginTick; rfl

@[simp] theorem retick_pending (s : State) : (retick s).pending = s.pending := by
  unfold retick; split <;> simp

@[simp] theorem retick_choices (s : State) : (retick s).choices = s.choices := by
  unfold retick; split <;> simp

@[simp] theorem retick_now (s : State) : (retick s).now = s.now := by
  unfold retick; split <;> simp

@[simp] theorem retick_tables (s : State) : (retick s).tables = s.tables := by
  unfold retick; split <;> simp

@[simp] theorem retick_update (s : State) : (retick s).update = s.update := by
  unfold retick; split <;> simp

@[simp] theorem retick_chain (s : State) : (retick s).chain = s.chain := by
  unfold retick; split <;> simp

@[simp] theorem retick_arbiter (s : State) : (retick s).arbiter = s.arbiter := by
  unfold retick; split <;> simp

@[simp] theorem retick_evaluator (s : State) : (retick s).evaluator = s.evaluator := by
  unfold retick; split <;> simp

@[simp] theorem retick_protection (s : State) : (retick s).protection = s.protection := by
  unfold retick; split <;> simp

@[simp] theorem retick_sequencer (s : State) : (retick s).sequencer = s.sequencer := by
  unfold retick; split <;> simp

@[simp] theorem retick_capture (s : State) : (retick s).capture = s.capture := by
  unfold retick; split <;> simp

@[simp] theorem retick_power (s : State) : (retick s).power = s.power := by
  unfold retick; split <;> simp

@[simp] theorem retick_link (s : State) : (retick s).link = s.link := by
  unfold retick; split <;> simp

@[simp] theorem retick_notice (s : State) : (retick s).notice = s.notice := by
  unfold retick; split <;> simp

@[simp] theorem markSweep_pending (f : SweepFlags → SweepFlags) (s : State) : (markSweep f s).pending = s.pending := rfl

@[simp] theorem markSweep_choices (f : SweepFlags → SweepFlags) (s : State) : (markSweep f s).choices = s.choices := rfl

@[simp] theorem markSweep_now (f : SweepFlags → SweepFlags) (s : State) : (markSweep f s).now = s.now := rfl

@[simp] theorem markSweep_tables (f : SweepFlags → SweepFlags) (s : State) : (markSweep f s).tables = s.tables := rfl

@[simp] theorem markSweep_update (f : SweepFlags → SweepFlags) (s : State) : (markSweep f s).update = s.update := rfl

@[simp] theorem markSweep_chain (f : SweepFlags → SweepFlags) (s : State) : (markSweep f s).chain = s.chain := rfl

@[simp] theorem markSweep_arbiter (f : SweepFlags → SweepFlags) (s : State) : (markSweep f s).arbiter = s.arbiter := rfl

@[simp] theorem markSweep_evaluator (f : SweepFlags → SweepFlags) (s : State) : (markSweep f s).evaluator = s.evaluator := rfl

@[simp] theorem markSweep_protection (f : SweepFlags → SweepFlags) (s : State) : (markSweep f s).protection = s.protection := rfl

@[simp] theorem markSweep_sequencer (f : SweepFlags → SweepFlags) (s : State) : (markSweep f s).sequencer = s.sequencer := rfl

@[simp] theorem markSweep_capture (f : SweepFlags → SweepFlags) (s : State) : (markSweep f s).capture = s.capture := rfl

@[simp] theorem markSweep_power (f : SweepFlags → SweepFlags) (s : State) : (markSweep f s).power = s.power := rfl

@[simp] theorem markSweep_link (f : SweepFlags → SweepFlags) (s : State) : (markSweep f s).link = s.link := rfl

@[simp] theorem markSweep_notice (f : SweepFlags → SweepFlags) (s : State) : (markSweep f s).notice = s.notice := rfl

@[simp] theorem raise_pending (e : Event) (s : State) : (raise e s).pending = s.pending := rfl

@[simp] theorem raise_choices (e : Event) (s : State) : (raise e s).choices = s.choices := rfl

@[simp] theorem raise_now (e : Event) (s : State) : (raise e s).now = s.now := rfl

@[simp] theorem raise_tables (e : Event) (s : State) : (raise e s).tables = s.tables := rfl

@[simp] theorem raise_update (e : Event) (s : State) : (raise e s).update = s.update := rfl

@[simp] theorem raise_sweep (e : Event) (s : State) : (raise e s).sweep = s.sweep := rfl

@[simp] theorem raise_chain (e : Event) (s : State) : (raise e s).chain = s.chain := rfl

@[simp] theorem raise_arbiter (e : Event) (s : State) : (raise e s).arbiter = s.arbiter := rfl

@[simp] theorem raise_evaluator (e : Event) (s : State) : (raise e s).evaluator = s.evaluator := rfl

@[simp] theorem raise_protection (e : Event) (s : State) : (raise e s).protection = s.protection := rfl

@[simp] theorem raise_sequencer (e : Event) (s : State) : (raise e s).sequencer = s.sequencer := rfl

@[simp] theorem raise_capture (e : Event) (s : State) : (raise e s).capture = s.capture := rfl

@[simp] theorem raise_power (e : Event) (s : State) : (raise e s).power = s.power := rfl

@[simp] theorem raise_link (e : Event) (s : State) : (raise e s).link = s.link := rfl

@[simp] theorem takeChoice_pending (s : State) : (takeChoice s).2.pending = s.pending := rfl

@[simp] theorem takeChoice_now (s : State) : (takeChoice s).2.now = s.now := rfl

@[simp] theorem takeChoice_tables (s : State) : (takeChoice s).2.tables = s.tables := rfl

@[simp] theorem takeChoice_update (s : State) : (takeChoice s).2.update = s.update := rfl

@[simp] theorem takeChoice_sweep (s : State) : (takeChoice s).2.sweep = s.sweep := rfl

@[simp] theorem takeChoice_chain (s : State) : (takeChoice s).2.chain = s.chain := rfl

@[simp] theorem takeChoice_arbiter (s : State) : (takeChoice s).2.arbiter = s.arbiter := rfl

@[simp] theorem takeChoice_evaluator (s : State) : (takeChoice s).2.evaluator = s.evaluator := rfl

@[simp] theorem takeChoice_protection (s : State) : (takeChoice s).2.protection = s.protection := rfl

@[simp] theorem takeChoice_sequencer (s : State) : (takeChoice s).2.sequencer = s.sequencer := rfl

@[simp] theorem takeChoice_capture (s : State) : (takeChoice s).2.capture = s.capture := rfl

@[simp] theorem takeChoice_power (s : State) : (takeChoice s).2.power = s.power := rfl

@[simp] theorem takeChoice_link (s : State) : (takeChoice s).2.link = s.link := rfl

@[simp] theorem takeChoice_notice (s : State) : (takeChoice s).2.notice = s.notice := rfl

@[simp] theorem enqueue_pending (f : Frame) (s : State) : (enqueue f s).pending = s.pending := rfl

@[simp] theorem enqueue_choices (f : Frame) (s : State) : (enqueue f s).choices = s.choices := rfl

@[simp] theorem enqueue_now (f : Frame) (s : State) : (enqueue f s).now = s.now := rfl

@[simp] theorem enqueue_tables (f : Frame) (s : State) : (enqueue f s).tables = s.tables := rfl

@[simp] theorem enqueue_update (f : Frame) (s : State) : (enqueue f s).update = s.update := rfl

@[simp] theorem enqueue_sweep (f : Frame) (s : State) : (enqueue f s).sweep = s.sweep := rfl

@[simp] theorem enqueue_chain (f : Frame) (s : State) : (enqueue f s).chain = s.chain := rfl

@[simp] theorem enqueue_arbiter (f : Frame) (s : State) : (enqueue f s).arbiter = s.arbiter := rfl

@[simp] theorem enqueue_evaluator (f : Frame) (s : State) : (enqueue f s).evaluator = s.evaluator := rfl

@[simp] theorem enqueue_protection (f : Frame) (s : State) : (enqueue f s).protection = s.protection := rfl

@[simp] theorem enqueue_sequencer (f : Frame) (s : State) : (enqueue f s).sequencer = s.sequencer := rfl

@[simp] theorem enqueue_capture (f : Frame) (s : State) : (enqueue f s).capture = s.capture := rfl

@[simp] theorem enqueue_power (f : Frame) (s : State) : (enqueue f s).power = s.power := rfl

@[simp] theorem enqueue_notice (f : Frame) (s : State) : (enqueue f s).notice = s.notice := rfl

@[simp] theorem enqueueReserved_pending (f : Frame) (s : State) : (enqueueReserved f s).pending = s.pending := rfl

@[simp] theorem enqueueReserved_choices (f : Frame) (s : State) : (enqueueReserved f s).choices = s.choices := rfl

@[simp] theorem enqueueReserved_now (f : Frame) (s : State) : (enqueueReserved f s).now = s.now := rfl

@[simp] theorem enqueueReserved_tables (f : Frame) (s : State) : (enqueueReserved f s).tables = s.tables := rfl

@[simp] theorem enqueueReserved_update (f : Frame) (s : State) : (enqueueReserved f s).update = s.update := rfl

@[simp] theorem enqueueReserved_sweep (f : Frame) (s : State) : (enqueueReserved f s).sweep = s.sweep := rfl

@[simp] theorem enqueueReserved_chain (f : Frame) (s : State) : (enqueueReserved f s).chain = s.chain := rfl

@[simp] theorem enqueueReserved_arbiter (f : Frame) (s : State) : (enqueueReserved f s).arbiter = s.arbiter := rfl

@[simp] theorem enqueueReserved_evaluator (f : Frame) (s : State) : (enqueueReserved f s).evaluator = s.evaluator := rfl

@[simp] theorem enqueueReserved_protection (f : Frame) (s : State) : (enqueueReserved f s).protection = s.protection := rfl

@[simp] theorem enqueueReserved_sequencer (f : Frame) (s : State) : (enqueueReserved f s).sequencer = s.sequencer := rfl

@[simp] theorem enqueueReserved_capture (f : Frame) (s : State) : (enqueueReserved f s).capture = s.capture := rfl

@[simp] theorem enqueueReserved_power (f : Frame) (s : State) : (enqueueReserved f s).power = s.power := rfl

@[simp] theorem enqueueReserved_notice (f : Frame) (s : State) : (enqueueReserved f s).notice = s.notice := rfl

@[simp] theorem admitNotice_pending (urgent : Bool) (s : State) : (admitNotice urgent s).pending = s.pending := by
  unfold admitNotice
  try dsimp only
  (repeat' split) <;> simp

@[simp] theorem admitNotice_choices (urgent : Bool) (s : State) : (admitNotice urgent s).choices = s.choices := by
  unfold admitNotice
  try dsimp only
  (repeat' split) <;> simp

@[simp] theorem admitNotice_now (urgent : Bool) (s : State) : (admitNotice urgent s).now = s.now := by
  unfold admitNotice
  try dsimp only
  (repeat' split) <;> simp

@[simp] theorem admitNotice_tables (urgent : Bool) (s : State) : (admitNotice urgent s).tables = s.tables := by
  unfold admitNotice
  try dsimp only
  (repeat' split) <;> simp

@[simp] theorem admitNotice_update (urgent : Bool) (s : State) : (admitNotice urgent s).update = s.update := by
  unfold admitNotice
  try dsimp only
  (repeat' split) <;> simp

@[simp] theorem admitNotice_sweep (urgent : Bool) (s : State) : (admitNotice urgent s).sweep = s.sweep := by
  unfold admitNotice
  try dsimp only
  (repeat' split) <;> simp

@[simp] theorem admitNotice_chain (urgent : Bool) (s : State) : (admitNotice urgent s).chain = s.chain := by
  unfold admitNotice
  try dsimp only
  (repeat' split) <;> simp

@[simp] theorem admitNotice_arbiter (urgent : Bool) (s : State) : (admitNotice urgent s).arbiter = s.arbiter := by
  unfold admitNotice
  try dsimp only
  (repeat' split) <;> simp

@[simp] theorem admitNotice_evaluator (urgent : Bool) (s : State) : (admitNotice urgent s).evaluator = s.evaluator := by
  unfold admitNotice
  try dsimp only
  (repeat' split) <;> simp

@[simp] theorem admitNotice_protection (urgent : Bool) (s : State) : (admitNotice urgent s).protection = s.protection := by
  unfold admitNotice
  try dsimp only
  (repeat' split) <;> simp

@[simp] theorem admitNotice_sequencer (urgent : Bool) (s : State) : (admitNotice urgent s).sequencer = s.sequencer := by
  unfold admitNotice
  try dsimp only
  (repeat' split) <;> simp

@[simp] theorem admitNotice_capture (urgent : Bool) (s : State) : (admitNotice urgent s).capture = s.capture := by
  unfold admitNotice
  try dsimp only
  (repeat' split) <;> simp

@[simp] theorem admitNotice_power (urgent : Bool) (s : State) : (admitNotice urgent s).power = s.power := by
  unfold admitNotice
  try dsimp only
  (repeat' split) <;> simp

@[simp] theorem admitNotices_pending (s : State) : (admitNotices s).pending = s.pending := by
  unfold admitNotices
  try dsimp only
  simp

@[simp] theorem admitNotices_choices (s : State) : (admitNotices s).choices = s.choices := by
  unfold admitNotices
  try dsimp only
  simp

@[simp] theorem admitNotices_now (s : State) : (admitNotices s).now = s.now := by
  unfold admitNotices
  try dsimp only
  simp

@[simp] theorem admitNotices_tables (s : State) : (admitNotices s).tables = s.tables := by
  unfold admitNotices
  try dsimp only
  simp

@[simp] theorem admitNotices_update (s : State) : (admitNotices s).update = s.update := by
  unfold admitNotices
  try dsimp only
  simp

@[simp] theorem admitNotices_sweep (s : State) : (admitNotices s).sweep = s.sweep := by
  unfold admitNotices
  try dsimp only
  simp

@[simp] theorem admitNotices_chain (s : State) : (admitNotices s).chain = s.chain := by
  unfold admitNotices
  try dsimp only
  simp

@[simp] theorem admitNotices_arbiter (s : State) : (admitNotices s).arbiter = s.arbiter := by
  unfold admitNotices
  try dsimp only
  simp

@[simp] theorem admitNotices_evaluator (s : State) : (admitNotices s).evaluator = s.evaluator := by
  unfold admitNotices
  try dsimp only
  simp

@[simp] theorem admitNotices_protection (s : State) : (admitNotices s).protection = s.protection := by
  unfold admitNotices
  try dsimp only
  simp

@[simp] theorem admitNotices_sequencer (s : State) : (admitNotices s).sequencer = s.sequencer := by
  unfold admitNotices
  try dsimp only
  simp

@[simp] theorem admitNotices_capture (s : State) : (admitNotices s).capture = s.capture := by
  unfold admitNotices
  try dsimp only
  simp

@[simp] theorem admitNotices_power (s : State) : (admitNotices s).power = s.power := by
  unfold admitNotices
  try dsimp only
  simp

@[simp] theorem placeMirror_pending (p : List Byte) (s : State) : (placeMirror p s).pending = s.pending := by
  unfold placeMirror
  try dsimp only
  (repeat' split) <;> simp

@[simp] theorem placeMirror_choices (p : List Byte) (s : State) : (placeMirror p s).choices = s.choices := by
  unfold placeMirror
  try dsimp only
  (repeat' split) <;> simp

@[simp] theorem placeMirror_now (p : List Byte) (s : State) : (placeMirror p s).now = s.now := by
  unfold placeMirror
  try dsimp only
  (repeat' split) <;> simp

@[simp] theorem placeMirror_tables (p : List Byte) (s : State) : (placeMirror p s).tables = s.tables := by
  unfold placeMirror
  try dsimp only
  (repeat' split) <;> simp

@[simp] theorem placeMirror_update (p : List Byte) (s : State) : (placeMirror p s).update = s.update := by
  unfold placeMirror
  try dsimp only
  (repeat' split) <;> simp

@[simp] theorem placeMirror_chain (p : List Byte) (s : State) : (placeMirror p s).chain = s.chain := by
  unfold placeMirror
  try dsimp only
  (repeat' split) <;> simp

@[simp] theorem placeMirror_arbiter (p : List Byte) (s : State) : (placeMirror p s).arbiter = s.arbiter := by
  unfold placeMirror
  try dsimp only
  (repeat' split) <;> simp

@[simp] theorem placeMirror_evaluator (p : List Byte) (s : State) : (placeMirror p s).evaluator = s.evaluator := by
  unfold placeMirror
  try dsimp only
  (repeat' split) <;> simp

@[simp] theorem placeMirror_protection (p : List Byte) (s : State) : (placeMirror p s).protection = s.protection := by
  unfold placeMirror
  try dsimp only
  (repeat' split) <;> simp

@[simp] theorem placeMirror_sequencer (p : List Byte) (s : State) : (placeMirror p s).sequencer = s.sequencer := by
  unfold placeMirror
  try dsimp only
  (repeat' split) <;> simp

@[simp] theorem placeMirror_capture (p : List Byte) (s : State) : (placeMirror p s).capture = s.capture := by
  unfold placeMirror
  try dsimp only
  (repeat' split) <;> simp

@[simp] theorem placeMirror_power (p : List Byte) (s : State) : (placeMirror p s).power = s.power := by
  unfold placeMirror
  try dsimp only
  (repeat' split) <;> simp

@[simp] theorem placeMirror_notice (p : List Byte) (s : State) : (placeMirror p s).notice = s.notice := by
  unfold placeMirror
  try dsimp only
  (repeat' split) <;> simp

@[simp] theorem admitNext_pending (s : State) : (admitNext s).pending = s.pending := by
  unfold admitNext; split <;> simp

@[simp] theorem admitNext_now (s : State) : (admitNext s).now = s.now := by
  unfold admitNext; split <;> simp

@[simp] theorem admitNext_tables (s : State) : (admitNext s).tables = s.tables := by
  unfold admitNext; split <;> simp

@[simp] theorem admitNext_update (s : State) : (admitNext s).update = s.update := by
  unfold admitNext; split <;> simp

@[simp] theorem admitNext_chain (s : State) : (admitNext s).chain = s.chain := by
  unfold admitNext; split <;> simp

@[simp] theorem admitNext_arbiter (s : State) : (admitNext s).arbiter = s.arbiter := by
  unfold admitNext; split <;> simp

@[simp] theorem admitNext_evaluator (s : State) : (admitNext s).evaluator = s.evaluator := by
  unfold admitNext; split <;> simp

@[simp] theorem admitNext_protection (s : State) : (admitNext s).protection = s.protection := by
  unfold admitNext; split <;> simp

@[simp] theorem admitNext_sequencer (s : State) : (admitNext s).sequencer = s.sequencer := by
  unfold admitNext; split <;> simp

@[simp] theorem admitNext_capture (s : State) : (admitNext s).capture = s.capture := by
  unfold admitNext; split <;> simp

@[simp] theorem admitNext_power (s : State) : (admitNext s).power = s.power := by
  unfold admitNext; split <;> simp

@[simp] theorem noticesBefore_pending (n : Nat) (s : State) : (noticesBefore n s).pending = s.pending := by
  induction n generalizing s with
  | zero => rfl
  | succ n ih =>
    have h := takeChoice_pending s
    rw [noticesBefore]
    split
    · dsimp only
      split <;> simp_all
    · rfl

@[simp] theorem noticesBefore_now (n : Nat) (s : State) : (noticesBefore n s).now = s.now := by
  induction n generalizing s with
  | zero => rfl
  | succ n ih =>
    have h := takeChoice_now s
    rw [noticesBefore]
    split
    · dsimp only
      split <;> simp_all
    · rfl

@[simp] theorem noticesBefore_tables (n : Nat) (s : State) : (noticesBefore n s).tables = s.tables := by
  induction n generalizing s with
  | zero => rfl
  | succ n ih =>
    have h := takeChoice_tables s
    rw [noticesBefore]
    split
    · dsimp only
      split <;> simp_all
    · rfl

@[simp] theorem noticesBefore_update (n : Nat) (s : State) : (noticesBefore n s).update = s.update := by
  induction n generalizing s with
  | zero => rfl
  | succ n ih =>
    have h := takeChoice_update s
    rw [noticesBefore]
    split
    · dsimp only
      split <;> simp_all
    · rfl

@[simp] theorem noticesBefore_chain (n : Nat) (s : State) : (noticesBefore n s).chain = s.chain := by
  induction n generalizing s with
  | zero => rfl
  | succ n ih =>
    have h := takeChoice_chain s
    rw [noticesBefore]
    split
    · dsimp only
      split <;> simp_all
    · rfl

@[simp] theorem noticesBefore_arbiter (n : Nat) (s : State) : (noticesBefore n s).arbiter = s.arbiter := by
  induction n generalizing s with
  | zero => rfl
  | succ n ih =>
    have h := takeChoice_arbiter s
    rw [noticesBefore]
    split
    · dsimp only
      split <;> simp_all
    · rfl

@[simp] theorem noticesBefore_evaluator (n : Nat) (s : State) : (noticesBefore n s).evaluator = s.evaluator := by
  induction n generalizing s with
  | zero => rfl
  | succ n ih =>
    have h := takeChoice_evaluator s
    rw [noticesBefore]
    split
    · dsimp only
      split <;> simp_all
    · rfl

@[simp] theorem noticesBefore_protection (n : Nat) (s : State) : (noticesBefore n s).protection = s.protection := by
  induction n generalizing s with
  | zero => rfl
  | succ n ih =>
    have h := takeChoice_protection s
    rw [noticesBefore]
    split
    · dsimp only
      split <;> simp_all
    · rfl

@[simp] theorem noticesBefore_sequencer (n : Nat) (s : State) : (noticesBefore n s).sequencer = s.sequencer := by
  induction n generalizing s with
  | zero => rfl
  | succ n ih =>
    have h := takeChoice_sequencer s
    rw [noticesBefore]
    split
    · dsimp only
      split <;> simp_all
    · rfl

@[simp] theorem noticesBefore_capture (n : Nat) (s : State) : (noticesBefore n s).capture = s.capture := by
  induction n generalizing s with
  | zero => rfl
  | succ n ih =>
    have h := takeChoice_capture s
    rw [noticesBefore]
    split
    · dsimp only
      split <;> simp_all
    · rfl

@[simp] theorem noticesBefore_power (n : Nat) (s : State) : (noticesBefore n s).power = s.power := by
  induction n generalizing s with
  | zero => rfl
  | succ n ih =>
    have h := takeChoice_power s
    rw [noticesBefore]
    split
    · dsimp only
      split <;> simp_all
    · rfl

@[simp] theorem offerMirror_pending (p : List Byte) (s : State) : (offerMirror p s).pending = s.pending := by
  unfold offerMirror; simp

@[simp] theorem offerMirror_now (p : List Byte) (s : State) : (offerMirror p s).now = s.now := by
  unfold offerMirror; simp

@[simp] theorem offerMirror_tables (p : List Byte) (s : State) : (offerMirror p s).tables = s.tables := by
  unfold offerMirror; simp

@[simp] theorem offerMirror_update (p : List Byte) (s : State) : (offerMirror p s).update = s.update := by
  unfold offerMirror; simp

@[simp] theorem offerMirror_chain (p : List Byte) (s : State) : (offerMirror p s).chain = s.chain := by
  unfold offerMirror; simp

@[simp] theorem offerMirror_arbiter (p : List Byte) (s : State) : (offerMirror p s).arbiter = s.arbiter := by
  unfold offerMirror; simp

@[simp] theorem offerMirror_evaluator (p : List Byte) (s : State) : (offerMirror p s).evaluator = s.evaluator := by
  unfold offerMirror; simp

@[simp] theorem offerMirror_protection (p : List Byte) (s : State) : (offerMirror p s).protection = s.protection := by
  unfold offerMirror; simp

@[simp] theorem offerMirror_sequencer (p : List Byte) (s : State) : (offerMirror p s).sequencer = s.sequencer := by
  unfold offerMirror; simp

@[simp] theorem offerMirror_capture (p : List Byte) (s : State) : (offerMirror p s).capture = s.capture := by
  unfold offerMirror; simp

@[simp] theorem offerMirror_power (p : List Byte) (s : State) : (offerMirror p s).power = s.power := by
  unfold offerMirror; simp

@[simp] theorem holdOff_pending (r : HoldOff) (a k : Byte) (s : State) : (holdOff r a k s).pending = s.pending := rfl

@[simp] theorem holdOff_choices (r : HoldOff) (a k : Byte) (s : State) : (holdOff r a k s).choices = s.choices := rfl

@[simp] theorem holdOff_now (r : HoldOff) (a k : Byte) (s : State) : (holdOff r a k s).now = s.now := rfl

@[simp] theorem holdOff_tables (r : HoldOff) (a k : Byte) (s : State) : (holdOff r a k s).tables = s.tables := rfl

@[simp] theorem holdOff_update (r : HoldOff) (a k : Byte) (s : State) : (holdOff r a k s).update = s.update := rfl

@[simp] theorem holdOff_sweep (r : HoldOff) (a k : Byte) (s : State) : (holdOff r a k s).sweep = s.sweep := rfl

@[simp] theorem holdOff_chain (r : HoldOff) (a k : Byte) (s : State) : (holdOff r a k s).chain = s.chain := rfl

@[simp] theorem holdOff_arbiter (r : HoldOff) (a k : Byte) (s : State) : (holdOff r a k s).arbiter = s.arbiter := rfl

@[simp] theorem holdOff_evaluator (r : HoldOff) (a k : Byte) (s : State) : (holdOff r a k s).evaluator = s.evaluator := rfl

@[simp] theorem holdOff_protection (r : HoldOff) (a k : Byte) (s : State) : (holdOff r a k s).protection = s.protection := rfl

@[simp] theorem holdOff_sequencer (r : HoldOff) (a k : Byte) (s : State) : (holdOff r a k s).sequencer = s.sequencer := rfl

@[simp] theorem holdOff_capture (r : HoldOff) (a k : Byte) (s : State) : (holdOff r a k s).capture = s.capture := rfl

@[simp] theorem holdOff_power (r : HoldOff) (a k : Byte) (s : State) : (holdOff r a k s).power = s.power := rfl

@[simp] theorem holdOff_notice (r : HoldOff) (a k : Byte) (s : State) : (holdOff r a k s).notice = s.notice := rfl

@[simp] theorem acceptFrame_pending (s : State) : (acceptFrame s).pending = s.pending := rfl

@[simp] theorem acceptFrame_choices (s : State) : (acceptFrame s).choices = s.choices := rfl

@[simp] theorem acceptFrame_now (s : State) : (acceptFrame s).now = s.now := rfl

@[simp] theorem acceptFrame_tables (s : State) : (acceptFrame s).tables = s.tables := rfl

@[simp] theorem acceptFrame_update (s : State) : (acceptFrame s).update = s.update := rfl

@[simp] theorem acceptFrame_sweep (s : State) : (acceptFrame s).sweep = s.sweep := rfl

@[simp] theorem acceptFrame_chain (s : State) : (acceptFrame s).chain = s.chain := rfl

@[simp] theorem acceptFrame_arbiter (s : State) : (acceptFrame s).arbiter = s.arbiter := rfl

@[simp] theorem acceptFrame_evaluator (s : State) : (acceptFrame s).evaluator = s.evaluator := rfl

@[simp] theorem acceptFrame_protection (s : State) : (acceptFrame s).protection = s.protection := rfl

@[simp] theorem acceptFrame_capture (s : State) : (acceptFrame s).capture = s.capture := rfl

@[simp] theorem acceptFrame_power (s : State) : (acceptFrame s).power = s.power := rfl

@[simp] theorem acceptFrame_notice (s : State) : (acceptFrame s).notice = s.notice := rfl

@[simp] theorem writeCapture_pending (r : CaptureRecord) (s : State) : (writeCapture r s).pending = s.pending := rfl

@[simp] theorem writeCapture_choices (r : CaptureRecord) (s : State) : (writeCapture r s).choices = s.choices := rfl

@[simp] theorem writeCapture_now (r : CaptureRecord) (s : State) : (writeCapture r s).now = s.now := rfl

@[simp] theorem writeCapture_tables (r : CaptureRecord) (s : State) : (writeCapture r s).tables = s.tables := rfl

@[simp] theorem writeCapture_update (r : CaptureRecord) (s : State) : (writeCapture r s).update = s.update := rfl

@[simp] theorem writeCapture_sweep (r : CaptureRecord) (s : State) : (writeCapture r s).sweep = s.sweep := rfl

@[simp] theorem writeCapture_chain (r : CaptureRecord) (s : State) : (writeCapture r s).chain = s.chain := rfl

@[simp] theorem writeCapture_arbiter (r : CaptureRecord) (s : State) : (writeCapture r s).arbiter = s.arbiter := rfl

@[simp] theorem writeCapture_evaluator (r : CaptureRecord) (s : State) : (writeCapture r s).evaluator = s.evaluator := rfl

@[simp] theorem writeCapture_protection (r : CaptureRecord) (s : State) : (writeCapture r s).protection = s.protection := rfl

@[simp] theorem writeCapture_sequencer (r : CaptureRecord) (s : State) : (writeCapture r s).sequencer = s.sequencer := rfl

@[simp] theorem writeCapture_power (r : CaptureRecord) (s : State) : (writeCapture r s).power = s.power := rfl

@[simp] theorem writeCapture_link (r : CaptureRecord) (s : State) : (writeCapture r s).link = s.link := rfl

@[simp] theorem writeCapture_notice (r : CaptureRecord) (s : State) : (writeCapture r s).notice = s.notice := rfl

@[simp] theorem stepFallsDue_pending (s : State) : (stepFallsDue s).pending = s.pending := by
  unfold stepFallsDue
  try dsimp only
  (repeat' split) <;> simp

@[simp] theorem stepFallsDue_choices (s : State) : (stepFallsDue s).choices = s.choices := by
  unfold stepFallsDue
  try dsimp only
  (repeat' split) <;> simp

@[simp] theorem stepFallsDue_now (s : State) : (stepFallsDue s).now = s.now := by
  unfold stepFallsDue
  try dsimp only
  (repeat' split) <;> simp

@[simp] theorem stepFallsDue_tables (s : State) : (stepFallsDue s).tables = s.tables := by
  unfold stepFallsDue
  try dsimp only
  (repeat' split) <;> simp

@[simp] theorem stepFallsDue_update (s : State) : (stepFallsDue s).update = s.update := by
  unfold stepFallsDue
  try dsimp only
  (repeat' split) <;> simp

@[simp] theorem stepFallsDue_sweep (s : State) : (stepFallsDue s).sweep = s.sweep := by
  unfold stepFallsDue
  try dsimp only
  (repeat' split) <;> simp

@[simp] theorem stepFallsDue_chain (s : State) : (stepFallsDue s).chain = s.chain := by
  unfold stepFallsDue
  try dsimp only
  (repeat' split) <;> simp

@[simp] theorem stepFallsDue_arbiter (s : State) : (stepFallsDue s).arbiter = s.arbiter := by
  unfold stepFallsDue
  try dsimp only
  (repeat' split) <;> simp

@[simp] theorem stepFallsDue_evaluator (s : State) : (stepFallsDue s).evaluator = s.evaluator := by
  unfold stepFallsDue
  try dsimp only
  (repeat' split) <;> simp

@[simp] theorem stepFallsDue_protection (s : State) : (stepFallsDue s).protection = s.protection := by
  unfold stepFallsDue
  try dsimp only
  (repeat' split) <;> simp

@[simp] theorem stepFallsDue_sequencer (s : State) : (stepFallsDue s).sequencer = s.sequencer := by
  unfold stepFallsDue
  try dsimp only
  (repeat' split) <;> simp

@[simp] theorem stepFallsDue_power (s : State) : (stepFallsDue s).power = s.power := by
  unfold stepFallsDue
  try dsimp only
  (repeat' split) <;> simp

@[simp] theorem stepFallsDue_link (s : State) : (stepFallsDue s).link = s.link := by
  unfold stepFallsDue
  try dsimp only
  (repeat' split) <;> simp

@[simp] theorem stepFallsDue_notice (s : State) : (stepFallsDue s).notice = s.notice := by
  unfold stepFallsDue
  try dsimp only
  (repeat' split) <;> simp

@[simp] theorem pushContext_pending (p : Program) (u l : Bool) (s : State) : (pushContext p u l s).pending = s.pending := rfl

@[simp] theorem pushContext_choices (p : Program) (u l : Bool) (s : State) : (pushContext p u l s).choices = s.choices := rfl

@[simp] theorem pushContext_now (p : Program) (u l : Bool) (s : State) : (pushContext p u l s).now = s.now := rfl

@[simp] theorem pushContext_tables (p : Program) (u l : Bool) (s : State) : (pushContext p u l s).tables = s.tables := rfl

@[simp] theorem pushContext_update (p : Program) (u l : Bool) (s : State) : (pushContext p u l s).update = s.update := rfl

@[simp] theorem pushContext_sweep (p : Program) (u l : Bool) (s : State) : (pushContext p u l s).sweep = s.sweep := rfl

@[simp] theorem pushContext_chain (p : Program) (u l : Bool) (s : State) : (pushContext p u l s).chain = s.chain := rfl

@[simp] theorem pushContext_arbiter (p : Program) (u l : Bool) (s : State) : (pushContext p u l s).arbiter = s.arbiter := rfl

@[simp] theorem pushContext_evaluator (p : Program) (u l : Bool) (s : State) : (pushContext p u l s).evaluator = s.evaluator := rfl

@[simp] theorem pushContext_protection (p : Program) (u l : Bool) (s : State) : (pushContext p u l s).protection = s.protection := rfl

@[simp] theorem pushContext_sequencer (p : Program) (u l : Bool) (s : State) : (pushContext p u l s).sequencer = s.sequencer := rfl

@[simp] theorem pushContext_power (p : Program) (u l : Bool) (s : State) : (pushContext p u l s).power = s.power := rfl

@[simp] theorem pushContext_link (p : Program) (u l : Bool) (s : State) : (pushContext p u l s).link = s.link := rfl

@[simp] theorem pushContext_notice (p : Program) (u l : Bool) (s : State) : (pushContext p u l s).notice = s.notice := rfl

@[simp] theorem captureEvent_pending (p : Program) (u : Bool) (s : State) : (captureEvent p u s).pending = s.pending := by
  unfold captureEvent
  try dsimp only
  (repeat' split) <;> simp

@[simp] theorem captureEvent_choices (p : Program) (u : Bool) (s : State) : (captureEvent p u s).choices = s.choices := by
  unfold captureEvent
  try dsimp only
  (repeat' split) <;> simp

@[simp] theorem captureEvent_now (p : Program) (u : Bool) (s : State) : (captureEvent p u s).now = s.now := by
  unfold captureEvent
  try dsimp only
  (repeat' split) <;> simp

@[simp] theorem captureEvent_tables (p : Program) (u : Bool) (s : State) : (captureEvent p u s).tables = s.tables := by
  unfold captureEvent
  try dsimp only
  (repeat' split) <;> simp

@[simp] theorem captureEvent_update (p : Program) (u : Bool) (s : State) : (captureEvent p u s).update = s.update := by
  unfold captureEvent
  try dsimp only
  (repeat' split) <;> simp

@[simp] theorem captureEvent_sweep (p : Program) (u : Bool) (s : State) : (captureEvent p u s).sweep = s.sweep := by
  unfold captureEvent
  try dsimp only
  (repeat' split) <;> simp

@[simp] theorem captureEvent_chain (p : Program) (u : Bool) (s : State) : (captureEvent p u s).chain = s.chain := by
  unfold captureEvent
  try dsimp only
  (repeat' split) <;> simp

@[simp] theorem captureEvent_arbiter (p : Program) (u : Bool) (s : State) : (captureEvent p u s).arbiter = s.arbiter := by
  unfold captureEvent
  try dsimp only
  (repeat' split) <;> simp

@[simp] theorem captureEvent_evaluator (p : Program) (u : Bool) (s : State) : (captureEvent p u s).evaluator = s.evaluator := by
  unfold captureEvent
  try dsimp only
  (repeat' split) <;> simp

@[simp] theorem captureEvent_protection (p : Program) (u : Bool) (s : State) : (captureEvent p u s).protection = s.protection := by
  unfold captureEvent
  try dsimp only
  (repeat' split) <;> simp

@[simp] theorem captureEvent_sequencer (p : Program) (u : Bool) (s : State) : (captureEvent p u s).sequencer = s.sequencer := by
  unfold captureEvent
  try dsimp only
  (repeat' split) <;> simp

@[simp] theorem captureEvent_power (p : Program) (u : Bool) (s : State) : (captureEvent p u s).power = s.power := by
  unfold captureEvent
  try dsimp only
  (repeat' split) <;> simp

@[simp] theorem captureEvent_link (p : Program) (u : Bool) (s : State) : (captureEvent p u s).link = s.link := by
  unfold captureEvent
  try dsimp only
  (repeat' split) <;> simp

@[simp] theorem servePending_pending (ps : List Program) (s : State) : (servePending ps s).2.pending = s.pending := by
  induction ps generalizing s with
  | nil => rfl
  | cons p ps ih =>
    unfold servePending
    try dsimp only
    (repeat' split) <;> simp [*]

@[simp] theorem servePending_choices (ps : List Program) (s : State) : (servePending ps s).2.choices = s.choices := by
  induction ps generalizing s with
  | nil => rfl
  | cons p ps ih =>
    unfold servePending
    try dsimp only
    (repeat' split) <;> simp [*]

@[simp] theorem servePending_now (ps : List Program) (s : State) : (servePending ps s).2.now = s.now := by
  induction ps generalizing s with
  | nil => rfl
  | cons p ps ih =>
    unfold servePending
    try dsimp only
    (repeat' split) <;> simp [*]

@[simp] theorem servePending_tables (ps : List Program) (s : State) : (servePending ps s).2.tables = s.tables := by
  induction ps generalizing s with
  | nil => rfl
  | cons p ps ih =>
    unfold servePending
    try dsimp only
    (repeat' split) <;> simp [*]

@[simp] theorem servePending_update (ps : List Program) (s : State) : (servePending ps s).2.update = s.update := by
  induction ps generalizing s with
  | nil => rfl
  | cons p ps ih =>
    unfold servePending
    try dsimp only
    (repeat' split) <;> simp [*]

@[simp] theorem servePending_sweep (ps : List Program) (s : State) : (servePending ps s).2.sweep = s.sweep := by
  induction ps generalizing s with
  | nil => rfl
  | cons p ps ih =>
    unfold servePending
    try dsimp only
    (repeat' split) <;> simp [*]

@[simp] theorem servePending_chain (ps : List Program) (s : State) : (servePending ps s).2.chain = s.chain := by
  induction ps generalizing s with
  | nil => rfl
  | cons p ps ih =>
    unfold servePending
    try dsimp only
    (repeat' split) <;> simp [*]

@[simp] theorem servePending_arbiter (ps : List Program) (s : State) : (servePending ps s).2.arbiter = s.arbiter := by
  induction ps generalizing s with
  | nil => rfl
  | cons p ps ih =>
    unfold servePending
    try dsimp only
    (repeat' split) <;> simp [*]

@[simp] theorem servePending_evaluator (ps : List Program) (s : State) : (servePending ps s).2.evaluator = s.evaluator := by
  induction ps generalizing s with
  | nil => rfl
  | cons p ps ih =>
    unfold servePending
    try dsimp only
    (repeat' split) <;> simp [*]

@[simp] theorem servePending_protection (ps : List Program) (s : State) : (servePending ps s).2.protection = s.protection := by
  induction ps generalizing s with
  | nil => rfl
  | cons p ps ih =>
    unfold servePending
    try dsimp only
    (repeat' split) <;> simp [*]

@[simp] theorem servePending_sequencer (ps : List Program) (s : State) : (servePending ps s).2.sequencer = s.sequencer := by
  induction ps generalizing s with
  | nil => rfl
  | cons p ps ih =>
    unfold servePending
    try dsimp only
    (repeat' split) <;> simp [*]

@[simp] theorem servePending_power (ps : List Program) (s : State) : (servePending ps s).2.power = s.power := by
  induction ps generalizing s with
  | nil => rfl
  | cons p ps ih =>
    unfold servePending
    try dsimp only
    (repeat' split) <;> simp [*]

@[simp] theorem servePending_link (ps : List Program) (s : State) : (servePending ps s).2.link = s.link := by
  induction ps generalizing s with
  | nil => rfl
  | cons p ps ih =>
    unfold servePending
    try dsimp only
    (repeat' split) <;> simp [*]

@[simp] theorem servePending_notice (ps : List Program) (s : State) : (servePending ps s).2.notice = s.notice := by
  induction ps generalizing s with
  | nil => rfl
  | cons p ps ih =>
    unfold servePending
    try dsimp only
    (repeat' split) <;> simp [*]

@[simp] theorem servePop_pending (n : Nat) (s : State) : (servePop n s).pending = s.pending := by
  induction n generalizing s with
  | zero => rfl
  | succ n ih =>
    unfold servePop
    have h := servePending_pending pendingOrder s
    (repeat' split) <;> simp_all

@[simp] theorem servePop_choices (n : Nat) (s : State) : (servePop n s).choices = s.choices := by
  induction n generalizing s with
  | zero => rfl
  | succ n ih =>
    unfold servePop
    have h := servePending_choices pendingOrder s
    (repeat' split) <;> simp_all

@[simp] theorem servePop_now (n : Nat) (s : State) : (servePop n s).now = s.now := by
  induction n generalizing s with
  | zero => rfl
  | succ n ih =>
    unfold servePop
    have h := servePending_now pendingOrder s
    (repeat' split) <;> simp_all

@[simp] theorem servePop_tables (n : Nat) (s : State) : (servePop n s).tables = s.tables := by
  induction n generalizing s with
  | zero => rfl
  | succ n ih =>
    unfold servePop
    have h := servePending_tables pendingOrder s
    (repeat' split) <;> simp_all

@[simp] theorem servePop_update (n : Nat) (s : State) : (servePop n s).update = s.update := by
  induction n generalizing s with
  | zero => rfl
  | succ n ih =>
    unfold servePop
    have h := servePending_update pendingOrder s
    (repeat' split) <;> simp_all

@[simp] theorem servePop_sweep (n : Nat) (s : State) : (servePop n s).sweep = s.sweep := by
  induction n generalizing s with
  | zero => rfl
  | succ n ih =>
    unfold servePop
    have h := servePending_sweep pendingOrder s
    (repeat' split) <;> simp_all

@[simp] theorem servePop_chain (n : Nat) (s : State) : (servePop n s).chain = s.chain := by
  induction n generalizing s with
  | zero => rfl
  | succ n ih =>
    unfold servePop
    have h := servePending_chain pendingOrder s
    (repeat' split) <;> simp_all

@[simp] theorem servePop_arbiter (n : Nat) (s : State) : (servePop n s).arbiter = s.arbiter := by
  induction n generalizing s with
  | zero => rfl
  | succ n ih =>
    unfold servePop
    have h := servePending_arbiter pendingOrder s
    (repeat' split) <;> simp_all

@[simp] theorem servePop_evaluator (n : Nat) (s : State) : (servePop n s).evaluator = s.evaluator := by
  induction n generalizing s with
  | zero => rfl
  | succ n ih =>
    unfold servePop
    have h := servePending_evaluator pendingOrder s
    (repeat' split) <;> simp_all

@[simp] theorem servePop_protection (n : Nat) (s : State) : (servePop n s).protection = s.protection := by
  induction n generalizing s with
  | zero => rfl
  | succ n ih =>
    unfold servePop
    have h := servePending_protection pendingOrder s
    (repeat' split) <;> simp_all

@[simp] theorem servePop_sequencer (n : Nat) (s : State) : (servePop n s).sequencer = s.sequencer := by
  induction n generalizing s with
  | zero => rfl
  | succ n ih =>
    unfold servePop
    have h := servePending_sequencer pendingOrder s
    (repeat' split) <;> simp_all

@[simp] theorem servePop_power (n : Nat) (s : State) : (servePop n s).power = s.power := by
  induction n generalizing s with
  | zero => rfl
  | succ n ih =>
    unfold servePop
    have h := servePending_power pendingOrder s
    (repeat' split) <;> simp_all

@[simp] theorem servePop_link (n : Nat) (s : State) : (servePop n s).link = s.link := by
  induction n generalizing s with
  | zero => rfl
  | succ n ih =>
    unfold servePop
    have h := servePending_link pendingOrder s
    (repeat' split) <;> simp_all

@[simp] theorem servePop_notice (n : Nat) (s : State) : (servePop n s).notice = s.notice := by
  induction n generalizing s with
  | zero => rfl
  | succ n ih =>
    unfold servePop
    have h := servePending_notice pendingOrder s
    (repeat' split) <;> simp_all

@[simp] theorem popTop_pending (s : State) : (popTop s).pending = s.pending := by
  unfold popTop
  try dsimp only
  simp

@[simp] theorem popTop_choices (s : State) : (popTop s).choices = s.choices := by
  unfold popTop
  try dsimp only
  simp

@[simp] theorem popTop_now (s : State) : (popTop s).now = s.now := by
  unfold popTop
  try dsimp only
  simp

@[simp] theorem popTop_tables (s : State) : (popTop s).tables = s.tables := by
  unfold popTop
  try dsimp only
  simp

@[simp] theorem popTop_update (s : State) : (popTop s).update = s.update := by
  unfold popTop
  try dsimp only
  simp

@[simp] theorem popTop_sweep (s : State) : (popTop s).sweep = s.sweep := by
  unfold popTop
  try dsimp only
  simp

@[simp] theorem popTop_chain (s : State) : (popTop s).chain = s.chain := by
  unfold popTop
  try dsimp only
  simp

@[simp] theorem popTop_arbiter (s : State) : (popTop s).arbiter = s.arbiter := by
  unfold popTop
  try dsimp only
  simp

@[simp] theorem popTop_evaluator (s : State) : (popTop s).evaluator = s.evaluator := by
  unfold popTop
  try dsimp only
  simp

@[simp] theorem popTop_protection (s : State) : (popTop s).protection = s.protection := by
  unfold popTop
  try dsimp only
  simp

@[simp] theorem popTop_sequencer (s : State) : (popTop s).sequencer = s.sequencer := by
  unfold popTop
  try dsimp only
  simp

@[simp] theorem popTop_power (s : State) : (popTop s).power = s.power := by
  unfold popTop
  try dsimp only
  simp

@[simp] theorem popTop_link (s : State) : (popTop s).link = s.link := by
  unfold popTop
  try dsimp only
  simp

@[simp] theorem popTop_notice (s : State) : (popTop s).notice = s.notice := by
  unfold popTop
  try dsimp only
  simp

@[simp] theorem prechargingLeft_pending (s : State) : (prechargingLeft s).pending = s.pending := by
  unfold prechargingLeft
  try dsimp only
  (repeat' split) <;> simp

@[simp] theorem prechargingLeft_choices (s : State) : (prechargingLeft s).choices = s.choices := by
  unfold prechargingLeft
  try dsimp only
  (repeat' split) <;> simp

@[simp] theorem prechargingLeft_now (s : State) : (prechargingLeft s).now = s.now := by
  unfold prechargingLeft
  try dsimp only
  (repeat' split) <;> simp

@[simp] theorem prechargingLeft_tables (s : State) : (prechargingLeft s).tables = s.tables := by
  unfold prechargingLeft
  try dsimp only
  (repeat' split) <;> simp

@[simp] theorem prechargingLeft_update (s : State) : (prechargingLeft s).update = s.update := by
  unfold prechargingLeft
  try dsimp only
  (repeat' split) <;> simp

@[simp] theorem prechargingLeft_sweep (s : State) : (prechargingLeft s).sweep = s.sweep := by
  unfold prechargingLeft
  try dsimp only
  (repeat' split) <;> simp

@[simp] theorem prechargingLeft_chain (s : State) : (prechargingLeft s).chain = s.chain := by
  unfold prechargingLeft
  try dsimp only
  (repeat' split) <;> simp

@[simp] theorem prechargingLeft_arbiter (s : State) : (prechargingLeft s).arbiter = s.arbiter := by
  unfold prechargingLeft
  try dsimp only
  (repeat' split) <;> simp

@[simp] theorem prechargingLeft_evaluator (s : State) : (prechargingLeft s).evaluator = s.evaluator := by
  unfold prechargingLeft
  try dsimp only
  (repeat' split) <;> simp

@[simp] theorem prechargingLeft_protection (s : State) : (prechargingLeft s).protection = s.protection := by
  unfold prechargingLeft
  try dsimp only
  (repeat' split) <;> simp

@[simp] theorem prechargingLeft_sequencer (s : State) : (prechargingLeft s).sequencer = s.sequencer := by
  unfold prechargingLeft
  try dsimp only
  (repeat' split) <;> simp

@[simp] theorem prechargingLeft_power (s : State) : (prechargingLeft s).power = s.power := by
  unfold prechargingLeft
  try dsimp only
  (repeat' split) <;> simp

@[simp] theorem prechargingLeft_link (s : State) : (prechargingLeft s).link = s.link := by
  unfold prechargingLeft
  try dsimp only
  (repeat' split) <;> simp

@[simp] theorem prechargingLeft_notice (s : State) : (prechargingLeft s).notice = s.notice := by
  unfold prechargingLeft
  try dsimp only
  (repeat' split) <;> simp

@[simp] theorem updateContext_pending (id : Half) (f : Context → Context) (s : State) : (updateContext id f s).pending = s.pending := rfl

@[simp] theorem updateContext_choices (id : Half) (f : Context → Context) (s : State) : (updateContext id f s).choices = s.choices := rfl

@[simp] theorem updateContext_now (id : Half) (f : Context → Context) (s : State) : (updateContext id f s).now = s.now := rfl

@[simp] theorem updateContext_tables (id : Half) (f : Context → Context) (s : State) : (updateContext id f s).tables = s.tables := rfl

@[simp] theorem updateContext_update (id : Half) (f : Context → Context) (s : State) : (updateContext id f s).update = s.update := rfl

@[simp] theorem updateContext_sweep (id : Half) (f : Context → Context) (s : State) : (updateContext id f s).sweep = s.sweep := rfl

@[simp] theorem updateContext_chain (id : Half) (f : Context → Context) (s : State) : (updateContext id f s).chain = s.chain := rfl

@[simp] theorem updateContext_arbiter (id : Half) (f : Context → Context) (s : State) : (updateContext id f s).arbiter = s.arbiter := rfl

@[simp] theorem updateContext_evaluator (id : Half) (f : Context → Context) (s : State) : (updateContext id f s).evaluator = s.evaluator := rfl

@[simp] theorem updateContext_protection (id : Half) (f : Context → Context) (s : State) : (updateContext id f s).protection = s.protection := rfl

@[simp] theorem updateContext_sequencer (id : Half) (f : Context → Context) (s : State) : (updateContext id f s).sequencer = s.sequencer := rfl

@[simp] theorem updateContext_power (id : Half) (f : Context → Context) (s : State) : (updateContext id f s).power = s.power := rfl

@[simp] theorem updateContext_link (id : Half) (f : Context → Context) (s : State) : (updateContext id f s).link = s.link := rfl

@[simp] theorem updateContext_notice (id : Half) (f : Context → Context) (s : State) : (updateContext id f s).notice = s.notice := rfl

@[simp] theorem popComplete_pending (id : Half) (s : State) : (popComplete id s).pending = s.pending := by
  unfold popComplete
  try dsimp only
  (repeat' split) <;> simp

@[simp] theorem popComplete_choices (id : Half) (s : State) : (popComplete id s).choices = s.choices := by
  unfold popComplete
  try dsimp only
  (repeat' split) <;> simp

@[simp] theorem popComplete_now (id : Half) (s : State) : (popComplete id s).now = s.now := by
  unfold popComplete
  try dsimp only
  (repeat' split) <;> simp

@[simp] theorem popComplete_tables (id : Half) (s : State) : (popComplete id s).tables = s.tables := by
  unfold popComplete
  try dsimp only
  (repeat' split) <;> simp

@[simp] theorem popComplete_update (id : Half) (s : State) : (popComplete id s).update = s.update := by
  unfold popComplete
  try dsimp only
  (repeat' split) <;> simp

@[simp] theorem popComplete_sweep (id : Half) (s : State) : (popComplete id s).sweep = s.sweep := by
  unfold popComplete
  try dsimp only
  (repeat' split) <;> simp

@[simp] theorem popComplete_chain (id : Half) (s : State) : (popComplete id s).chain = s.chain := by
  unfold popComplete
  try dsimp only
  (repeat' split) <;> simp

@[simp] theorem popComplete_arbiter (id : Half) (s : State) : (popComplete id s).arbiter = s.arbiter := by
  unfold popComplete
  try dsimp only
  (repeat' split) <;> simp

@[simp] theorem popComplete_evaluator (id : Half) (s : State) : (popComplete id s).evaluator = s.evaluator := by
  unfold popComplete
  try dsimp only
  (repeat' split) <;> simp

@[simp] theorem popComplete_protection (id : Half) (s : State) : (popComplete id s).protection = s.protection := by
  unfold popComplete
  try dsimp only
  (repeat' split) <;> simp

@[simp] theorem popComplete_sequencer (id : Half) (s : State) : (popComplete id s).sequencer = s.sequencer := by
  unfold popComplete
  try dsimp only
  (repeat' split) <;> simp

@[simp] theorem popComplete_power (id : Half) (s : State) : (popComplete id s).power = s.power := by
  unfold popComplete
  try dsimp only
  (repeat' split) <;> simp

@[simp] theorem popComplete_link (id : Half) (s : State) : (popComplete id s).link = s.link := by
  unfold popComplete
  try dsimp only
  (repeat' split) <;> simp

@[simp] theorem finishStep_pending (id : Half) (s : State) : (finishStep id s).pending = s.pending := by
  unfold finishStep
  try dsimp only
  (repeat' split) <;> simp

@[simp] theorem finishStep_choices (id : Half) (s : State) : (finishStep id s).choices = s.choices := by
  unfold finishStep
  try dsimp only
  (repeat' split) <;> simp

@[simp] theorem finishStep_now (id : Half) (s : State) : (finishStep id s).now = s.now := by
  unfold finishStep
  try dsimp only
  (repeat' split) <;> simp

@[simp] theorem finishStep_tables (id : Half) (s : State) : (finishStep id s).tables = s.tables := by
  unfold finishStep
  try dsimp only
  (repeat' split) <;> simp

@[simp] theorem finishStep_update (id : Half) (s : State) : (finishStep id s).update = s.update := by
  unfold finishStep
  try dsimp only
  (repeat' split) <;> simp

@[simp] theorem finishStep_sweep (id : Half) (s : State) : (finishStep id s).sweep = s.sweep := by
  unfold finishStep
  try dsimp only
  (repeat' split) <;> simp

@[simp] theorem finishStep_chain (id : Half) (s : State) : (finishStep id s).chain = s.chain := by
  unfold finishStep
  try dsimp only
  (repeat' split) <;> simp

@[simp] theorem finishStep_arbiter (id : Half) (s : State) : (finishStep id s).arbiter = s.arbiter := by
  unfold finishStep
  try dsimp only
  (repeat' split) <;> simp

@[simp] theorem finishStep_evaluator (id : Half) (s : State) : (finishStep id s).evaluator = s.evaluator := by
  unfold finishStep
  try dsimp only
  (repeat' split) <;> simp

@[simp] theorem finishStep_protection (id : Half) (s : State) : (finishStep id s).protection = s.protection := by
  unfold finishStep
  try dsimp only
  (repeat' split) <;> simp

@[simp] theorem finishStep_sequencer (id : Half) (s : State) : (finishStep id s).sequencer = s.sequencer := by
  unfold finishStep
  try dsimp only
  (repeat' split) <;> simp

@[simp] theorem finishStep_power (id : Half) (s : State) : (finishStep id s).power = s.power := by
  unfold finishStep
  try dsimp only
  (repeat' split) <;> simp

@[simp] theorem finishStep_link (id : Half) (s : State) : (finishStep id s).link = s.link := by
  unfold finishStep
  try dsimp only
  (repeat' split) <;> simp

@[simp] theorem recordStep_pending (id : Half) (a : Option (List Byte)) (s : State) : (recordStep id a s).pending = s.pending := by
  unfold recordStep
  try dsimp only
  (repeat' split) <;> simp

@[simp] theorem recordStep_choices (id : Half) (a : Option (List Byte)) (s : State) : (recordStep id a s).choices = s.choices := by
  unfold recordStep
  try dsimp only
  (repeat' split) <;> simp

@[simp] theorem recordStep_now (id : Half) (a : Option (List Byte)) (s : State) : (recordStep id a s).now = s.now := by
  unfold recordStep
  try dsimp only
  (repeat' split) <;> simp

@[simp] theorem recordStep_tables (id : Half) (a : Option (List Byte)) (s : State) : (recordStep id a s).tables = s.tables := by
  unfold recordStep
  try dsimp only
  (repeat' split) <;> simp

@[simp] theorem recordStep_update (id : Half) (a : Option (List Byte)) (s : State) : (recordStep id a s).update = s.update := by
  unfold recordStep
  try dsimp only
  (repeat' split) <;> simp

@[simp] theorem recordStep_sweep (id : Half) (a : Option (List Byte)) (s : State) : (recordStep id a s).sweep = s.sweep := by
  unfold recordStep
  try dsimp only
  (repeat' split) <;> simp

@[simp] theorem recordStep_chain (id : Half) (a : Option (List Byte)) (s : State) : (recordStep id a s).chain = s.chain := by
  unfold recordStep
  try dsimp only
  (repeat' split) <;> simp

@[simp] theorem recordStep_arbiter (id : Half) (a : Option (List Byte)) (s : State) : (recordStep id a s).arbiter = s.arbiter := by
  unfold recordStep
  try dsimp only
  (repeat' split) <;> simp

@[simp] theorem recordStep_evaluator (id : Half) (a : Option (List Byte)) (s : State) : (recordStep id a s).evaluator = s.evaluator := by
  unfold recordStep
  try dsimp only
  (repeat' split) <;> simp

@[simp] theorem recordStep_protection (id : Half) (a : Option (List Byte)) (s : State) : (recordStep id a s).protection = s.protection := by
  unfold recordStep
  try dsimp only
  (repeat' split) <;> simp

@[simp] theorem recordStep_sequencer (id : Half) (a : Option (List Byte)) (s : State) : (recordStep id a s).sequencer = s.sequencer := by
  unfold recordStep
  try dsimp only
  (repeat' split) <;> simp

@[simp] theorem recordStep_power (id : Half) (a : Option (List Byte)) (s : State) : (recordStep id a s).power = s.power := by
  unfold recordStep
  try dsimp only
  (repeat' split) <;> simp

@[simp] theorem recordStep_link (id : Half) (a : Option (List Byte)) (s : State) : (recordStep id a s).link = s.link := by
  unfold recordStep
  try dsimp only
  (repeat' split) <;> simp

@[simp] theorem recordStep_notice (id : Half) (a : Option (List Byte)) (s : State) : (recordStep id a s).notice = s.notice := by
  unfold recordStep
  try dsimp only
  (repeat' split) <;> simp

@[simp] theorem tickCapture_pending (s : State) : (tickCapture s).pending = s.pending := by
  unfold tickCapture
  try dsimp only
  (repeat' split) <;> simp

@[simp] theorem tickCapture_choices (s : State) : (tickCapture s).choices = s.choices := by
  unfold tickCapture
  try dsimp only
  (repeat' split) <;> simp

@[simp] theorem tickCapture_now (s : State) : (tickCapture s).now = s.now := by
  unfold tickCapture
  try dsimp only
  (repeat' split) <;> simp

@[simp] theorem tickCapture_tables (s : State) : (tickCapture s).tables = s.tables := by
  unfold tickCapture
  try dsimp only
  (repeat' split) <;> simp

@[simp] theorem tickCapture_update (s : State) : (tickCapture s).update = s.update := by
  unfold tickCapture
  try dsimp only
  (repeat' split) <;> simp

@[simp] theorem tickCapture_sweep (s : State) : (tickCapture s).sweep = s.sweep := by
  unfold tickCapture
  try dsimp only
  (repeat' split) <;> simp

@[simp] theorem tickCapture_chain (s : State) : (tickCapture s).chain = s.chain := by
  unfold tickCapture
  try dsimp only
  (repeat' split) <;> simp

@[simp] theorem tickCapture_arbiter (s : State) : (tickCapture s).arbiter = s.arbiter := by
  unfold tickCapture
  try dsimp only
  (repeat' split) <;> simp

@[simp] theorem tickCapture_evaluator (s : State) : (tickCapture s).evaluator = s.evaluator := by
  unfold tickCapture
  try dsimp only
  (repeat' split) <;> simp

@[simp] theorem tickCapture_protection (s : State) : (tickCapture s).protection = s.protection := by
  unfold tickCapture
  try dsimp only
  (repeat' split) <;> simp

@[simp] theorem tickCapture_sequencer (s : State) : (tickCapture s).sequencer = s.sequencer := by
  unfold tickCapture
  try dsimp only
  (repeat' split) <;> simp

@[simp] theorem tickCapture_power (s : State) : (tickCapture s).power = s.power := by
  unfold tickCapture
  try dsimp only
  (repeat' split) <;> simp

@[simp] theorem tickCapture_link (s : State) : (tickCapture s).link = s.link := by
  unfold tickCapture
  try dsimp only
  (repeat' split) <;> simp

@[simp] theorem tickCapture_notice (s : State) : (tickCapture s).notice = s.notice := by
  unfold tickCapture
  try dsimp only
  (repeat' split) <;> simp

@[simp] theorem superviseFeedback_pending (s : State) : (superviseFeedback s).pending = s.pending := by
  unfold superviseFeedback
  try dsimp only
  (repeat' split) <;> simp

@[simp] theorem superviseFeedback_choices (s : State) : (superviseFeedback s).choices = s.choices := by
  unfold superviseFeedback
  try dsimp only
  (repeat' split) <;> simp

@[simp] theorem superviseFeedback_now (s : State) : (superviseFeedback s).now = s.now := by
  unfold superviseFeedback
  try dsimp only
  (repeat' split) <;> simp

@[simp] theorem superviseFeedback_tables (s : State) : (superviseFeedback s).tables = s.tables := by
  unfold superviseFeedback
  try dsimp only
  (repeat' split) <;> simp

@[simp] theorem superviseFeedback_update (s : State) : (superviseFeedback s).update = s.update := by
  unfold superviseFeedback
  try dsimp only
  (repeat' split) <;> simp

@[simp] theorem superviseFeedback_sweep (s : State) : (superviseFeedback s).sweep = s.sweep := by
  unfold superviseFeedback
  try dsimp only
  (repeat' split) <;> simp

@[simp] theorem superviseFeedback_chain (s : State) : (superviseFeedback s).chain = s.chain := by
  unfold superviseFeedback
  try dsimp only
  (repeat' split) <;> simp

@[simp] theorem superviseFeedback_arbiter (s : State) : (superviseFeedback s).arbiter = s.arbiter := by
  unfold superviseFeedback
  try dsimp only
  (repeat' split) <;> simp

@[simp] theorem superviseFeedback_evaluator (s : State) : (superviseFeedback s).evaluator = s.evaluator := by
  unfold superviseFeedback
  try dsimp only
  (repeat' split) <;> simp

@[simp] theorem superviseFeedback_protection (s : State) : (superviseFeedback s).protection = s.protection := by
  unfold superviseFeedback
  try dsimp only
  (repeat' split) <;> simp

@[simp] theorem superviseFeedback_capture (s : State) : (superviseFeedback s).capture = s.capture := by
  unfold superviseFeedback
  try dsimp only
  (repeat' split) <;> simp

@[simp] theorem superviseFeedback_power (s : State) : (superviseFeedback s).power = s.power := by
  unfold superviseFeedback
  try dsimp only
  (repeat' split) <;> simp

@[simp] theorem superviseFeedback_link (s : State) : (superviseFeedback s).link = s.link := by
  unfold superviseFeedback
  try dsimp only
  (repeat' split) <;> simp

@[simp] theorem superviseFeedback_notice (s : State) : (superviseFeedback s).notice = s.notice := by
  unfold superviseFeedback
  try dsimp only
  (repeat' split) <;> simp

@[simp] theorem setDrives_pending (d : Triple) (s : State) : (setDrives d s).pending = s.pending := by
  unfold setDrives
  try dsimp only
  simp

@[simp] theorem setDrives_choices (d : Triple) (s : State) : (setDrives d s).choices = s.choices := by
  unfold setDrives
  try dsimp only
  simp

@[simp] theorem setDrives_now (d : Triple) (s : State) : (setDrives d s).now = s.now := by
  unfold setDrives
  try dsimp only
  simp

@[simp] theorem setDrives_tables (d : Triple) (s : State) : (setDrives d s).tables = s.tables := by
  unfold setDrives
  try dsimp only
  simp

@[simp] theorem setDrives_update (d : Triple) (s : State) : (setDrives d s).update = s.update := by
  unfold setDrives
  try dsimp only
  simp

@[simp] theorem setDrives_sweep (d : Triple) (s : State) : (setDrives d s).sweep = s.sweep := by
  unfold setDrives
  try dsimp only
  simp

@[simp] theorem setDrives_chain (d : Triple) (s : State) : (setDrives d s).chain = s.chain := by
  unfold setDrives
  try dsimp only
  simp

@[simp] theorem setDrives_arbiter (d : Triple) (s : State) : (setDrives d s).arbiter = s.arbiter := by
  unfold setDrives
  try dsimp only
  simp

@[simp] theorem setDrives_evaluator (d : Triple) (s : State) : (setDrives d s).evaluator = s.evaluator := by
  unfold setDrives
  try dsimp only
  simp

@[simp] theorem setDrives_protection (d : Triple) (s : State) : (setDrives d s).protection = s.protection := by
  unfold setDrives
  try dsimp only
  simp

@[simp] theorem setDrives_capture (d : Triple) (s : State) : (setDrives d s).capture = s.capture := by
  unfold setDrives
  try dsimp only
  simp

@[simp] theorem setDrives_power (d : Triple) (s : State) : (setDrives d s).power = s.power := by
  unfold setDrives
  try dsimp only
  simp

@[simp] theorem setDrives_link (d : Triple) (s : State) : (setDrives d s).link = s.link := by
  unfold setDrives
  try dsimp only
  simp

@[simp] theorem setDrives_notice (d : Triple) (s : State) : (setDrives d s).notice = s.notice := by
  unfold setDrives
  try dsimp only
  simp

@[simp] theorem writeClose_pending (r : CloseResult) (m : Option Nat) (s : State) : (writeClose r m s).pending = s.pending := rfl

@[simp] theorem writeClose_choices (r : CloseResult) (m : Option Nat) (s : State) : (writeClose r m s).choices = s.choices := rfl

@[simp] theorem writeClose_now (r : CloseResult) (m : Option Nat) (s : State) : (writeClose r m s).now = s.now := rfl

@[simp] theorem writeClose_tables (r : CloseResult) (m : Option Nat) (s : State) : (writeClose r m s).tables = s.tables := rfl

@[simp] theorem writeClose_update (r : CloseResult) (m : Option Nat) (s : State) : (writeClose r m s).update = s.update := rfl

@[simp] theorem writeClose_sweep (r : CloseResult) (m : Option Nat) (s : State) : (writeClose r m s).sweep = s.sweep := rfl

@[simp] theorem writeClose_chain (r : CloseResult) (m : Option Nat) (s : State) : (writeClose r m s).chain = s.chain := rfl

@[simp] theorem writeClose_arbiter (r : CloseResult) (m : Option Nat) (s : State) : (writeClose r m s).arbiter = s.arbiter := rfl

@[simp] theorem writeClose_evaluator (r : CloseResult) (m : Option Nat) (s : State) : (writeClose r m s).evaluator = s.evaluator := rfl

@[simp] theorem writeClose_protection (r : CloseResult) (m : Option Nat) (s : State) : (writeClose r m s).protection = s.protection := rfl

@[simp] theorem writeClose_capture (r : CloseResult) (m : Option Nat) (s : State) : (writeClose r m s).capture = s.capture := rfl

@[simp] theorem writeClose_power (r : CloseResult) (m : Option Nat) (s : State) : (writeClose r m s).power = s.power := rfl

@[simp] theorem writeClose_link (r : CloseResult) (m : Option Nat) (s : State) : (writeClose r m s).link = s.link := rfl

@[simp] theorem writeClose_notice (r : CloseResult) (m : Option Nat) (s : State) : (writeClose r m s).notice = s.notice := rfl

@[simp] theorem writeOpen_pending (r : OpenResult) (s : State) : (writeOpen r s).pending = s.pending := by
  unfold writeOpen
  try dsimp only
  (repeat' split) <;> simp

@[simp] theorem writeOpen_choices (r : OpenResult) (s : State) : (writeOpen r s).choices = s.choices := by
  unfold writeOpen
  try dsimp only
  (repeat' split) <;> simp

@[simp] theorem writeOpen_now (r : OpenResult) (s : State) : (writeOpen r s).now = s.now := by
  unfold writeOpen
  try dsimp only
  (repeat' split) <;> simp

@[simp] theorem writeOpen_tables (r : OpenResult) (s : State) : (writeOpen r s).tables = s.tables := by
  unfold writeOpen
  try dsimp only
  (repeat' split) <;> simp

@[simp] theorem writeOpen_update (r : OpenResult) (s : State) : (writeOpen r s).update = s.update := by
  unfold writeOpen
  try dsimp only
  (repeat' split) <;> simp

@[simp] theorem writeOpen_sweep (r : OpenResult) (s : State) : (writeOpen r s).sweep = s.sweep := by
  unfold writeOpen
  try dsimp only
  (repeat' split) <;> simp

@[simp] theorem writeOpen_chain (r : OpenResult) (s : State) : (writeOpen r s).chain = s.chain := by
  unfold writeOpen
  try dsimp only
  (repeat' split) <;> simp

@[simp] theorem writeOpen_arbiter (r : OpenResult) (s : State) : (writeOpen r s).arbiter = s.arbiter := by
  unfold writeOpen
  try dsimp only
  (repeat' split) <;> simp

@[simp] theorem writeOpen_evaluator (r : OpenResult) (s : State) : (writeOpen r s).evaluator = s.evaluator := by
  unfold writeOpen
  try dsimp only
  (repeat' split) <;> simp

@[simp] theorem writeOpen_protection (r : OpenResult) (s : State) : (writeOpen r s).protection = s.protection := by
  unfold writeOpen
  try dsimp only
  (repeat' split) <;> simp

@[simp] theorem writeOpen_capture (r : OpenResult) (s : State) : (writeOpen r s).capture = s.capture := by
  unfold writeOpen
  try dsimp only
  (repeat' split) <;> simp

@[simp] theorem writeOpen_power (r : OpenResult) (s : State) : (writeOpen r s).power = s.power := by
  unfold writeOpen
  try dsimp only
  (repeat' split) <;> simp

@[simp] theorem writeOpen_link (r : OpenResult) (s : State) : (writeOpen r s).link = s.link := by
  unfold writeOpen
  try dsimp only
  (repeat' split) <;> simp

@[simp] theorem writeOpen_notice (r : OpenResult) (s : State) : (writeOpen r s).notice = s.notice := by
  unfold writeOpen
  try dsimp only
  (repeat' split) <;> simp

@[simp] theorem beginOpenSequence_pending (q : OpenSequence) (s : State) : (beginOpenSequence q s).pending = s.pending := rfl

@[simp] theorem beginOpenSequence_choices (q : OpenSequence) (s : State) : (beginOpenSequence q s).choices = s.choices := rfl

@[simp] theorem beginOpenSequence_now (q : OpenSequence) (s : State) : (beginOpenSequence q s).now = s.now := rfl

@[simp] theorem beginOpenSequence_tables (q : OpenSequence) (s : State) : (beginOpenSequence q s).tables = s.tables := rfl

@[simp] theorem beginOpenSequence_update (q : OpenSequence) (s : State) : (beginOpenSequence q s).update = s.update := rfl

@[simp] theorem beginOpenSequence_sweep (q : OpenSequence) (s : State) : (beginOpenSequence q s).sweep = s.sweep := rfl

@[simp] theorem beginOpenSequence_chain (q : OpenSequence) (s : State) : (beginOpenSequence q s).chain = s.chain := rfl

@[simp] theorem beginOpenSequence_arbiter (q : OpenSequence) (s : State) : (beginOpenSequence q s).arbiter = s.arbiter := rfl

@[simp] theorem beginOpenSequence_evaluator (q : OpenSequence) (s : State) : (beginOpenSequence q s).evaluator = s.evaluator := rfl

@[simp] theorem beginOpenSequence_protection (q : OpenSequence) (s : State) : (beginOpenSequence q s).protection = s.protection := rfl

@[simp] theorem beginOpenSequence_capture (q : OpenSequence) (s : State) : (beginOpenSequence q s).capture = s.capture := rfl

@[simp] theorem beginOpenSequence_power (q : OpenSequence) (s : State) : (beginOpenSequence q s).power = s.power := rfl

@[simp] theorem beginOpenSequence_link (q : OpenSequence) (s : State) : (beginOpenSequence q s).link = s.link := rfl

@[simp] theorem beginOpenSequence_notice (q : OpenSequence) (s : State) : (beginOpenSequence q s).notice = s.notice := rfl

@[simp] theorem enterWeldCheck_pending (s : State) : (enterWeldCheck s).pending = s.pending := by
  unfold enterWeldCheck
  try dsimp only
  simp

@[simp] theorem enterWeldCheck_choices (s : State) : (enterWeldCheck s).choices = s.choices := by
  unfold enterWeldCheck
  try dsimp only
  simp

@[simp] theorem enterWeldCheck_now (s : State) : (enterWeldCheck s).now = s.now := by
  unfold enterWeldCheck
  try dsimp only
  simp

@[simp] theorem enterWeldCheck_tables (s : State) : (enterWeldCheck s).tables = s.tables := by
  unfold enterWeldCheck
  try dsimp only
  simp

@[simp] theorem enterWeldCheck_update (s : State) : (enterWeldCheck s).update = s.update := by
  unfold enterWeldCheck
  try dsimp only
  simp

@[simp] theorem enterWeldCheck_sweep (s : State) : (enterWeldCheck s).sweep = s.sweep := by
  unfold enterWeldCheck
  try dsimp only
  simp

@[simp] theorem enterWeldCheck_chain (s : State) : (enterWeldCheck s).chain = s.chain := by
  unfold enterWeldCheck
  try dsimp only
  simp

@[simp] theorem enterWeldCheck_arbiter (s : State) : (enterWeldCheck s).arbiter = s.arbiter := by
  unfold enterWeldCheck
  try dsimp only
  simp

@[simp] theorem enterWeldCheck_evaluator (s : State) : (enterWeldCheck s).evaluator = s.evaluator := by
  unfold enterWeldCheck
  try dsimp only
  simp

@[simp] theorem enterWeldCheck_protection (s : State) : (enterWeldCheck s).protection = s.protection := by
  unfold enterWeldCheck
  try dsimp only
  simp

@[simp] theorem enterWeldCheck_capture (s : State) : (enterWeldCheck s).capture = s.capture := by
  unfold enterWeldCheck
  try dsimp only
  simp

@[simp] theorem enterWeldCheck_power (s : State) : (enterWeldCheck s).power = s.power := by
  unfold enterWeldCheck
  try dsimp only
  simp

@[simp] theorem enterWeldCheck_link (s : State) : (enterWeldCheck s).link = s.link := by
  unfold enterWeldCheck
  try dsimp only
  simp

@[simp] theorem enterWeldCheck_notice (s : State) : (enterWeldCheck s).notice = s.notice := by
  unfold enterWeldCheck
  try dsimp only
  simp

@[simp] theorem enterFaulted_pending (s : State) : (enterFaulted s).pending = s.pending := rfl

@[simp] theorem enterFaulted_choices (s : State) : (enterFaulted s).choices = s.choices := rfl

@[simp] theorem enterFaulted_now (s : State) : (enterFaulted s).now = s.now := rfl

@[simp] theorem enterFaulted_tables (s : State) : (enterFaulted s).tables = s.tables := rfl

@[simp] theorem enterFaulted_update (s : State) : (enterFaulted s).update = s.update := rfl

@[simp] theorem enterFaulted_sweep (s : State) : (enterFaulted s).sweep = s.sweep := rfl

@[simp] theorem enterFaulted_chain (s : State) : (enterFaulted s).chain = s.chain := rfl

@[simp] theorem enterFaulted_arbiter (s : State) : (enterFaulted s).arbiter = s.arbiter := rfl

@[simp] theorem enterFaulted_evaluator (s : State) : (enterFaulted s).evaluator = s.evaluator := rfl

@[simp] theorem enterFaulted_protection (s : State) : (enterFaulted s).protection = s.protection := rfl

@[simp] theorem enterFaulted_capture (s : State) : (enterFaulted s).capture = s.capture := rfl

@[simp] theorem enterFaulted_power (s : State) : (enterFaulted s).power = s.power := rfl

@[simp] theorem enterFaulted_link (s : State) : (enterFaulted s).link = s.link := rfl

@[simp] theorem enterFaulted_notice (s : State) : (enterFaulted s).notice = s.notice := rfl

@[simp] theorem weldPassed_pending (s : State) : (weldPassed s).pending = s.pending := by
  unfold weldPassed
  try dsimp only
  simp

@[simp] theorem weldPassed_choices (s : State) : (weldPassed s).choices = s.choices := by
  unfold weldPassed
  try dsimp only
  simp

@[simp] theorem weldPassed_now (s : State) : (weldPassed s).now = s.now := by
  unfold weldPassed
  try dsimp only
  simp

@[simp] theorem weldPassed_tables (s : State) : (weldPassed s).tables = s.tables := by
  unfold weldPassed
  try dsimp only
  simp

@[simp] theorem weldPassed_update (s : State) : (weldPassed s).update = s.update := by
  unfold weldPassed
  try dsimp only
  simp

@[simp] theorem weldPassed_sweep (s : State) : (weldPassed s).sweep = s.sweep := by
  unfold weldPassed
  try dsimp only
  simp

@[simp] theorem weldPassed_chain (s : State) : (weldPassed s).chain = s.chain := by
  unfold weldPassed
  try dsimp only
  simp

@[simp] theorem weldPassed_arbiter (s : State) : (weldPassed s).arbiter = s.arbiter := by
  unfold weldPassed
  try dsimp only
  simp

@[simp] theorem weldPassed_evaluator (s : State) : (weldPassed s).evaluator = s.evaluator := by
  unfold weldPassed
  try dsimp only
  simp

@[simp] theorem weldPassed_protection (s : State) : (weldPassed s).protection = s.protection := by
  unfold weldPassed
  try dsimp only
  simp

@[simp] theorem weldPassed_capture (s : State) : (weldPassed s).capture = s.capture := by
  unfold weldPassed
  try dsimp only
  simp

@[simp] theorem weldPassed_power (s : State) : (weldPassed s).power = s.power := by
  unfold weldPassed
  try dsimp only
  simp

@[simp] theorem weldPassed_link (s : State) : (weldPassed s).link = s.link := by
  unfold weldPassed
  try dsimp only
  simp

@[simp] theorem withdrawClose_pending (s : State) : (withdrawClose s).pending = s.pending := rfl

@[simp] theorem withdrawClose_choices (s : State) : (withdrawClose s).choices = s.choices := rfl

@[simp] theorem withdrawClose_now (s : State) : (withdrawClose s).now = s.now := rfl

@[simp] theorem withdrawClose_tables (s : State) : (withdrawClose s).tables = s.tables := rfl

@[simp] theorem withdrawClose_update (s : State) : (withdrawClose s).update = s.update := rfl

@[simp] theorem withdrawClose_sweep (s : State) : (withdrawClose s).sweep = s.sweep := rfl

@[simp] theorem withdrawClose_chain (s : State) : (withdrawClose s).chain = s.chain := rfl

@[simp] theorem withdrawClose_arbiter (s : State) : (withdrawClose s).arbiter = s.arbiter := rfl

@[simp] theorem withdrawClose_evaluator (s : State) : (withdrawClose s).evaluator = s.evaluator := rfl

@[simp] theorem withdrawClose_protection (s : State) : (withdrawClose s).protection = s.protection := rfl

@[simp] theorem withdrawClose_capture (s : State) : (withdrawClose s).capture = s.capture := rfl

@[simp] theorem withdrawClose_power (s : State) : (withdrawClose s).power = s.power := rfl

@[simp] theorem withdrawClose_link (s : State) : (withdrawClose s).link = s.link := rfl

@[simp] theorem tryWeldCheck_pending (s : State) : (tryWeldCheck s).pending = s.pending := by
  unfold tryWeldCheck
  try dsimp only
  (repeat' split) <;> simp

@[simp] theorem tryWeldCheck_choices (s : State) : (tryWeldCheck s).choices = s.choices := by
  unfold tryWeldCheck
  try dsimp only
  (repeat' split) <;> simp

@[simp] theorem tryWeldCheck_now (s : State) : (tryWeldCheck s).now = s.now := by
  unfold tryWeldCheck
  try dsimp only
  (repeat' split) <;> simp

@[simp] theorem tryWeldCheck_tables (s : State) : (tryWeldCheck s).tables = s.tables := by
  unfold tryWeldCheck
  try dsimp only
  (repeat' split) <;> simp

@[simp] theorem tryWeldCheck_update (s : State) : (tryWeldCheck s).update = s.update := by
  unfold tryWeldCheck
  try dsimp only
  (repeat' split) <;> simp

@[simp] theorem tryWeldCheck_sweep (s : State) : (tryWeldCheck s).sweep = s.sweep := by
  unfold tryWeldCheck
  try dsimp only
  (repeat' split) <;> simp

@[simp] theorem tryWeldCheck_chain (s : State) : (tryWeldCheck s).chain = s.chain := by
  unfold tryWeldCheck
  try dsimp only
  (repeat' split) <;> simp

@[simp] theorem tryWeldCheck_arbiter (s : State) : (tryWeldCheck s).arbiter = s.arbiter := by
  unfold tryWeldCheck
  try dsimp only
  (repeat' split) <;> simp

@[simp] theorem tryWeldCheck_evaluator (s : State) : (tryWeldCheck s).evaluator = s.evaluator := by
  unfold tryWeldCheck
  try dsimp only
  (repeat' split) <;> simp

@[simp] theorem tryWeldCheck_protection (s : State) : (tryWeldCheck s).protection = s.protection := by
  unfold tryWeldCheck
  try dsimp only
  (repeat' split) <;> simp

@[simp] theorem tryWeldCheck_capture (s : State) : (tryWeldCheck s).capture = s.capture := by
  unfold tryWeldCheck
  try dsimp only
  (repeat' split) <;> simp

@[simp] theorem tryWeldCheck_power (s : State) : (tryWeldCheck s).power = s.power := by
  unfold tryWeldCheck
  try dsimp only
  (repeat' split) <;> simp

@[simp] theorem tryWeldCheck_link (s : State) : (tryWeldCheck s).link = s.link := by
  unfold tryWeldCheck
  try dsimp only
  (repeat' split) <;> simp

@[simp] theorem tryWeldCheck_notice (s : State) : (tryWeldCheck s).notice = s.notice := by
  unfold tryWeldCheck
  try dsimp only
  (repeat' split) <;> simp

@[simp] theorem openNegative_pending (s : State) : (openNegative s).pending = s.pending := by
  unfold openNegative
  try dsimp only
  simp

@[simp] theorem openNegative_choices (s : State) : (openNegative s).choices = s.choices := by
  unfold openNegative
  try dsimp only
  simp

@[simp] theorem openNegative_now (s : State) : (openNegative s).now = s.now := by
  unfold openNegative
  try dsimp only
  simp

@[simp] theorem openNegative_tables (s : State) : (openNegative s).tables = s.tables := by
  unfold openNegative
  try dsimp only
  simp

@[simp] theorem openNegative_update (s : State) : (openNegative s).update = s.update := by
  unfold openNegative
  try dsimp only
  simp

@[simp] theorem openNegative_sweep (s : State) : (openNegative s).sweep = s.sweep := by
  unfold openNegative
  try dsimp only
  simp

@[simp] theorem openNegative_chain (s : State) : (openNegative s).chain = s.chain := by
  unfold openNegative
  try dsimp only
  simp

@[simp] theorem openNegative_arbiter (s : State) : (openNegative s).arbiter = s.arbiter := by
  unfold openNegative
  try dsimp only
  simp

@[simp] theorem openNegative_evaluator (s : State) : (openNegative s).evaluator = s.evaluator := by
  unfold openNegative
  try dsimp only
  simp

@[simp] theorem openNegative_protection (s : State) : (openNegative s).protection = s.protection := by
  unfold openNegative
  try dsimp only
  simp

@[simp] theorem openNegative_capture (s : State) : (openNegative s).capture = s.capture := by
  unfold openNegative
  try dsimp only
  simp

@[simp] theorem openNegative_power (s : State) : (openNegative s).power = s.power := by
  unfold openNegative
  try dsimp only
  simp

@[simp] theorem openNegative_link (s : State) : (openNegative s).link = s.link := by
  unfold openNegative
  try dsimp only
  simp

@[simp] theorem openNegative_notice (s : State) : (openNegative s).notice = s.notice := by
  unfold openNegative
  try dsimp only
  simp

@[simp] theorem beginOpening_pending (u : Bool) (d : Option Nat) (s : State) : (beginOpening u d s).pending = s.pending := by
  unfold beginOpening
  try dsimp only
  (repeat' split) <;> simp

@[simp] theorem beginOpening_choices (u : Bool) (d : Option Nat) (s : State) : (beginOpening u d s).choices = s.choices := by
  unfold beginOpening
  try dsimp only
  (repeat' split) <;> simp

@[simp] theorem beginOpening_now (u : Bool) (d : Option Nat) (s : State) : (beginOpening u d s).now = s.now := by
  unfold beginOpening
  try dsimp only
  (repeat' split) <;> simp

@[simp] theorem beginOpening_tables (u : Bool) (d : Option Nat) (s : State) : (beginOpening u d s).tables = s.tables := by
  unfold beginOpening
  try dsimp only
  (repeat' split) <;> simp

@[simp] theorem beginOpening_update (u : Bool) (d : Option Nat) (s : State) : (beginOpening u d s).update = s.update := by
  unfold beginOpening
  try dsimp only
  (repeat' split) <;> simp

@[simp] theorem beginOpening_sweep (u : Bool) (d : Option Nat) (s : State) : (beginOpening u d s).sweep = s.sweep := by
  unfold beginOpening
  try dsimp only
  (repeat' split) <;> simp

@[simp] theorem beginOpening_chain (u : Bool) (d : Option Nat) (s : State) : (beginOpening u d s).chain = s.chain := by
  unfold beginOpening
  try dsimp only
  (repeat' split) <;> simp

@[simp] theorem beginOpening_arbiter (u : Bool) (d : Option Nat) (s : State) : (beginOpening u d s).arbiter = s.arbiter := by
  unfold beginOpening
  try dsimp only
  (repeat' split) <;> simp

@[simp] theorem beginOpening_evaluator (u : Bool) (d : Option Nat) (s : State) : (beginOpening u d s).evaluator = s.evaluator := by
  unfold beginOpening
  try dsimp only
  (repeat' split) <;> simp

@[simp] theorem beginOpening_protection (u : Bool) (d : Option Nat) (s : State) : (beginOpening u d s).protection = s.protection := by
  unfold beginOpening
  try dsimp only
  (repeat' split) <;> simp

@[simp] theorem beginOpening_power (u : Bool) (d : Option Nat) (s : State) : (beginOpening u d s).power = s.power := by
  unfold beginOpening
  try dsimp only
  (repeat' split) <;> simp

@[simp] theorem beginOpening_link (u : Bool) (d : Option Nat) (s : State) : (beginOpening u d s).link = s.link := by
  unfold beginOpening
  try dsimp only
  (repeat' split) <;> simp

@[simp] theorem beginPrecharge_pending (s : State) : (beginPrecharge s).pending = s.pending := by
  unfold beginPrecharge
  try dsimp only
  simp

@[simp] theorem beginPrecharge_choices (s : State) : (beginPrecharge s).choices = s.choices := by
  unfold beginPrecharge
  try dsimp only
  simp

@[simp] theorem beginPrecharge_now (s : State) : (beginPrecharge s).now = s.now := by
  unfold beginPrecharge
  try dsimp only
  simp

@[simp] theorem beginPrecharge_tables (s : State) : (beginPrecharge s).tables = s.tables := by
  unfold beginPrecharge
  try dsimp only
  simp

@[simp] theorem beginPrecharge_update (s : State) : (beginPrecharge s).update = s.update := by
  unfold beginPrecharge
  try dsimp only
  simp

@[simp] theorem beginPrecharge_sweep (s : State) : (beginPrecharge s).sweep = s.sweep := by
  unfold beginPrecharge
  try dsimp only
  simp

@[simp] theorem beginPrecharge_chain (s : State) : (beginPrecharge s).chain = s.chain := by
  unfold beginPrecharge
  try dsimp only
  simp

@[simp] theorem beginPrecharge_arbiter (s : State) : (beginPrecharge s).arbiter = s.arbiter := by
  unfold beginPrecharge
  try dsimp only
  simp

@[simp] theorem beginPrecharge_evaluator (s : State) : (beginPrecharge s).evaluator = s.evaluator := by
  unfold beginPrecharge
  try dsimp only
  simp

@[simp] theorem beginPrecharge_protection (s : State) : (beginPrecharge s).protection = s.protection := by
  unfold beginPrecharge
  try dsimp only
  simp

@[simp] theorem beginPrecharge_power (s : State) : (beginPrecharge s).power = s.power := by
  unfold beginPrecharge
  try dsimp only
  simp

@[simp] theorem beginPrecharge_link (s : State) : (beginPrecharge s).link = s.link := by
  unfold beginPrecharge
  try dsimp only
  simp

@[simp] theorem beginDeferral_pending (s : State) : (beginDeferral s).pending = s.pending := by
  unfold beginDeferral
  try dsimp only
  (repeat' split) <;> simp

@[simp] theorem beginDeferral_choices (s : State) : (beginDeferral s).choices = s.choices := by
  unfold beginDeferral
  try dsimp only
  (repeat' split) <;> simp

@[simp] theorem beginDeferral_now (s : State) : (beginDeferral s).now = s.now := by
  unfold beginDeferral
  try dsimp only
  (repeat' split) <;> simp

@[simp] theorem beginDeferral_tables (s : State) : (beginDeferral s).tables = s.tables := by
  unfold beginDeferral
  try dsimp only
  (repeat' split) <;> simp

@[simp] theorem beginDeferral_update (s : State) : (beginDeferral s).update = s.update := by
  unfold beginDeferral
  try dsimp only
  (repeat' split) <;> simp

@[simp] theorem beginDeferral_sweep (s : State) : (beginDeferral s).sweep = s.sweep := by
  unfold beginDeferral
  try dsimp only
  (repeat' split) <;> simp

@[simp] theorem beginDeferral_chain (s : State) : (beginDeferral s).chain = s.chain := by
  unfold beginDeferral
  try dsimp only
  (repeat' split) <;> simp

@[simp] theorem beginDeferral_arbiter (s : State) : (beginDeferral s).arbiter = s.arbiter := by
  unfold beginDeferral
  try dsimp only
  (repeat' split) <;> simp

@[simp] theorem beginDeferral_evaluator (s : State) : (beginDeferral s).evaluator = s.evaluator := by
  unfold beginDeferral
  try dsimp only
  (repeat' split) <;> simp

@[simp] theorem beginDeferral_protection (s : State) : (beginDeferral s).protection = s.protection := by
  unfold beginDeferral
  try dsimp only
  (repeat' split) <;> simp

@[simp] theorem beginDeferral_power (s : State) : (beginDeferral s).power = s.power := by
  unfold beginDeferral
  try dsimp only
  (repeat' split) <;> simp

@[simp] theorem beginDeferral_link (s : State) : (beginDeferral s).link = s.link := by
  unfold beginDeferral
  try dsimp only
  (repeat' split) <;> simp

@[simp] theorem switchPoint_pending (s : State) : (switchPoint s).pending = s.pending := by
  unfold switchPoint
  try dsimp only
  (repeat' split) <;> simp

@[simp] theorem switchPoint_choices (s : State) : (switchPoint s).choices = s.choices := by
  unfold switchPoint
  try dsimp only
  (repeat' split) <;> simp

@[simp] theorem switchPoint_now (s : State) : (switchPoint s).now = s.now := by
  unfold switchPoint
  try dsimp only
  (repeat' split) <;> simp

@[simp] theorem switchPoint_tables (s : State) : (switchPoint s).tables = s.tables := by
  unfold switchPoint
  try dsimp only
  (repeat' split) <;> simp

@[simp] theorem switchPoint_update (s : State) : (switchPoint s).update = s.update := by
  unfold switchPoint
  try dsimp only
  (repeat' split) <;> simp

@[simp] theorem switchPoint_sweep (s : State) : (switchPoint s).sweep = s.sweep := by
  unfold switchPoint
  try dsimp only
  (repeat' split) <;> simp

@[simp] theorem switchPoint_chain (s : State) : (switchPoint s).chain = s.chain := by
  unfold switchPoint
  try dsimp only
  (repeat' split) <;> simp

@[simp] theorem switchPoint_arbiter (s : State) : (switchPoint s).arbiter = s.arbiter := by
  unfold switchPoint
  try dsimp only
  (repeat' split) <;> simp

@[simp] theorem switchPoint_evaluator (s : State) : (switchPoint s).evaluator = s.evaluator := by
  unfold switchPoint
  try dsimp only
  (repeat' split) <;> simp

@[simp] theorem switchPoint_protection (s : State) : (switchPoint s).protection = s.protection := by
  unfold switchPoint
  try dsimp only
  (repeat' split) <;> simp

@[simp] theorem switchPoint_power (s : State) : (switchPoint s).power = s.power := by
  unfold switchPoint
  try dsimp only
  (repeat' split) <;> simp

@[simp] theorem switchPoint_link (s : State) : (switchPoint s).link = s.link := by
  unfold switchPoint
  try dsimp only
  (repeat' split) <;> simp

@[simp] theorem reachClosed_pending (s : State) : (reachClosed s).pending = s.pending := by
  unfold reachClosed
  try dsimp only
  simp

@[simp] theorem reachClosed_choices (s : State) : (reachClosed s).choices = s.choices := by
  unfold reachClosed
  try dsimp only
  simp

@[simp] theorem reachClosed_now (s : State) : (reachClosed s).now = s.now := by
  unfold reachClosed
  try dsimp only
  simp

@[simp] theorem reachClosed_tables (s : State) : (reachClosed s).tables = s.tables := by
  unfold reachClosed
  try dsimp only
  simp

@[simp] theorem reachClosed_update (s : State) : (reachClosed s).update = s.update := by
  unfold reachClosed
  try dsimp only
  simp

@[simp] theorem reachClosed_sweep (s : State) : (reachClosed s).sweep = s.sweep := by
  unfold reachClosed
  try dsimp only
  simp

@[simp] theorem reachClosed_chain (s : State) : (reachClosed s).chain = s.chain := by
  unfold reachClosed
  try dsimp only
  simp

@[simp] theorem reachClosed_arbiter (s : State) : (reachClosed s).arbiter = s.arbiter := by
  unfold reachClosed
  try dsimp only
  simp

@[simp] theorem reachClosed_evaluator (s : State) : (reachClosed s).evaluator = s.evaluator := by
  unfold reachClosed
  try dsimp only
  simp

@[simp] theorem reachClosed_protection (s : State) : (reachClosed s).protection = s.protection := by
  unfold reachClosed
  try dsimp only
  simp

@[simp] theorem reachClosed_capture (s : State) : (reachClosed s).capture = s.capture := by
  unfold reachClosed
  try dsimp only
  simp

@[simp] theorem reachClosed_power (s : State) : (reachClosed s).power = s.power := by
  unfold reachClosed
  try dsimp only
  simp

@[simp] theorem reachClosed_link (s : State) : (reachClosed s).link = s.link := by
  unfold reachClosed
  try dsimp only
  simp

@[simp] theorem tryClosed_pending (s : State) : (tryClosed s).pending = s.pending := by
  unfold tryClosed; split <;> simp

@[simp] theorem tryClosed_choices (s : State) : (tryClosed s).choices = s.choices := by
  unfold tryClosed; split <;> simp

@[simp] theorem tryClosed_now (s : State) : (tryClosed s).now = s.now := by
  unfold tryClosed; split <;> simp

@[simp] theorem tryClosed_tables (s : State) : (tryClosed s).tables = s.tables := by
  unfold tryClosed; split <;> simp

@[simp] theorem tryClosed_update (s : State) : (tryClosed s).update = s.update := by
  unfold tryClosed; split <;> simp

@[simp] theorem tryClosed_sweep (s : State) : (tryClosed s).sweep = s.sweep := by
  unfold tryClosed; split <;> simp

@[simp] theorem tryClosed_chain (s : State) : (tryClosed s).chain = s.chain := by
  unfold tryClosed; split <;> simp

@[simp] theorem tryClosed_arbiter (s : State) : (tryClosed s).arbiter = s.arbiter := by
  unfold tryClosed; split <;> simp

@[simp] theorem tryClosed_evaluator (s : State) : (tryClosed s).evaluator = s.evaluator := by
  unfold tryClosed; split <;> simp

@[simp] theorem tryClosed_protection (s : State) : (tryClosed s).protection = s.protection := by
  unfold tryClosed; split <;> simp

@[simp] theorem tryClosed_capture (s : State) : (tryClosed s).capture = s.capture := by
  unfold tryClosed; split <;> simp

@[simp] theorem tryClosed_power (s : State) : (tryClosed s).power = s.power := by
  unfold tryClosed; split <;> simp

@[simp] theorem tryClosed_link (s : State) : (tryClosed s).link = s.link := by
  unfold tryClosed; split <;> simp

@[simp] theorem prechargeComplete_pending (s : State) : (prechargeComplete s).pending = s.pending := by
  unfold prechargeComplete
  try dsimp only
  (repeat' split) <;> simp

@[simp] theorem prechargeComplete_choices (s : State) : (prechargeComplete s).choices = s.choices := by
  unfold prechargeComplete
  try dsimp only
  (repeat' split) <;> simp

@[simp] theorem prechargeComplete_now (s : State) : (prechargeComplete s).now = s.now := by
  unfold prechargeComplete
  try dsimp only
  (repeat' split) <;> simp

@[simp] theorem prechargeComplete_tables (s : State) : (prechargeComplete s).tables = s.tables := by
  unfold prechargeComplete
  try dsimp only
  (repeat' split) <;> simp

@[simp] theorem prechargeComplete_update (s : State) : (prechargeComplete s).update = s.update := by
  unfold prechargeComplete
  try dsimp only
  (repeat' split) <;> simp

@[simp] theorem prechargeComplete_sweep (s : State) : (prechargeComplete s).sweep = s.sweep := by
  unfold prechargeComplete
  try dsimp only
  (repeat' split) <;> simp

@[simp] theorem prechargeComplete_chain (s : State) : (prechargeComplete s).chain = s.chain := by
  unfold prechargeComplete
  try dsimp only
  (repeat' split) <;> simp

@[simp] theorem prechargeComplete_arbiter (s : State) : (prechargeComplete s).arbiter = s.arbiter := by
  unfold prechargeComplete
  try dsimp only
  (repeat' split) <;> simp

@[simp] theorem prechargeComplete_evaluator (s : State) : (prechargeComplete s).evaluator = s.evaluator := by
  unfold prechargeComplete
  try dsimp only
  (repeat' split) <;> simp

@[simp] theorem prechargeComplete_protection (s : State) : (prechargeComplete s).protection = s.protection := by
  unfold prechargeComplete
  try dsimp only
  (repeat' split) <;> simp

@[simp] theorem prechargeComplete_power (s : State) : (prechargeComplete s).power = s.power := by
  unfold prechargeComplete
  try dsimp only
  (repeat' split) <;> simp

@[simp] theorem prechargeComplete_link (s : State) : (prechargeComplete s).link = s.link := by
  unfold prechargeComplete
  try dsimp only
  (repeat' split) <;> simp

@[simp] theorem judgeRecord_pending (s : State) : (judgeRecord s).pending = s.pending := by
  unfold judgeRecord
  try dsimp only
  (repeat' split) <;> simp

@[simp] theorem judgeRecord_choices (s : State) : (judgeRecord s).choices = s.choices := by
  unfold judgeRecord
  try dsimp only
  (repeat' split) <;> simp

@[simp] theorem judgeRecord_now (s : State) : (judgeRecord s).now = s.now := by
  unfold judgeRecord
  try dsimp only
  (repeat' split) <;> simp

@[simp] theorem judgeRecord_tables (s : State) : (judgeRecord s).tables = s.tables := by
  unfold judgeRecord
  try dsimp only
  (repeat' split) <;> simp

@[simp] theorem judgeRecord_update (s : State) : (judgeRecord s).update = s.update := by
  unfold judgeRecord
  try dsimp only
  (repeat' split) <;> simp

@[simp] theorem judgeRecord_sweep (s : State) : (judgeRecord s).sweep = s.sweep := by
  unfold judgeRecord
  try dsimp only
  (repeat' split) <;> simp

@[simp] theorem judgeRecord_chain (s : State) : (judgeRecord s).chain = s.chain := by
  unfold judgeRecord
  try dsimp only
  (repeat' split) <;> simp

@[simp] theorem judgeRecord_arbiter (s : State) : (judgeRecord s).arbiter = s.arbiter := by
  unfold judgeRecord
  try dsimp only
  (repeat' split) <;> simp

@[simp] theorem judgeRecord_evaluator (s : State) : (judgeRecord s).evaluator = s.evaluator := by
  unfold judgeRecord
  try dsimp only
  (repeat' split) <;> simp

@[simp] theorem judgeRecord_protection (s : State) : (judgeRecord s).protection = s.protection := by
  unfold judgeRecord
  try dsimp only
  (repeat' split) <;> simp

@[simp] theorem judgeRecord_power (s : State) : (judgeRecord s).power = s.power := by
  unfold judgeRecord
  try dsimp only
  (repeat' split) <;> simp

@[simp] theorem judgeRecord_link (s : State) : (judgeRecord s).link = s.link := by
  unfold judgeRecord
  try dsimp only
  (repeat' split) <;> simp

@[simp] theorem breakOffClose_pending (r : CloseResult) (c : OpenCause) (s : State) : (breakOffClose r c s).pending = s.pending := by
  unfold breakOffClose
  try dsimp only
  (repeat' split) <;> simp

@[simp] theorem breakOffClose_choices (r : CloseResult) (c : OpenCause) (s : State) : (breakOffClose r c s).choices = s.choices := by
  unfold breakOffClose
  try dsimp only
  (repeat' split) <;> simp

@[simp] theorem breakOffClose_now (r : CloseResult) (c : OpenCause) (s : State) : (breakOffClose r c s).now = s.now := by
  unfold breakOffClose
  try dsimp only
  (repeat' split) <;> simp

@[simp] theorem breakOffClose_tables (r : CloseResult) (c : OpenCause) (s : State) : (breakOffClose r c s).tables = s.tables := by
  unfold breakOffClose
  try dsimp only
  (repeat' split) <;> simp

@[simp] theorem breakOffClose_update (r : CloseResult) (c : OpenCause) (s : State) : (breakOffClose r c s).update = s.update := by
  unfold breakOffClose
  try dsimp only
  (repeat' split) <;> simp

@[simp] theorem breakOffClose_sweep (r : CloseResult) (c : OpenCause) (s : State) : (breakOffClose r c s).sweep = s.sweep := by
  unfold breakOffClose
  try dsimp only
  (repeat' split) <;> simp

@[simp] theorem breakOffClose_chain (r : CloseResult) (c : OpenCause) (s : State) : (breakOffClose r c s).chain = s.chain := by
  unfold breakOffClose
  try dsimp only
  (repeat' split) <;> simp

@[simp] theorem breakOffClose_arbiter (r : CloseResult) (c : OpenCause) (s : State) : (breakOffClose r c s).arbiter = s.arbiter := by
  unfold breakOffClose
  try dsimp only
  (repeat' split) <;> simp

@[simp] theorem breakOffClose_evaluator (r : CloseResult) (c : OpenCause) (s : State) : (breakOffClose r c s).evaluator = s.evaluator := by
  unfold breakOffClose
  try dsimp only
  (repeat' split) <;> simp

@[simp] theorem breakOffClose_protection (r : CloseResult) (c : OpenCause) (s : State) : (breakOffClose r c s).protection = s.protection := by
  unfold breakOffClose
  try dsimp only
  (repeat' split) <;> simp

@[simp] theorem breakOffClose_power (r : CloseResult) (c : OpenCause) (s : State) : (breakOffClose r c s).power = s.power := by
  unfold breakOffClose
  try dsimp only
  (repeat' split) <;> simp

@[simp] theorem breakOffClose_link (r : CloseResult) (c : OpenCause) (s : State) : (breakOffClose r c s).link = s.link := by
  unfold breakOffClose
  try dsimp only
  (repeat' split) <;> simp

@[simp] theorem reportDisturbed_pending (s : State) : (reportDisturbed s).pending = s.pending := by
  unfold reportDisturbed
  try dsimp only
  (repeat' split) <;> simp

@[simp] theorem reportDisturbed_choices (s : State) : (reportDisturbed s).choices = s.choices := by
  unfold reportDisturbed
  try dsimp only
  (repeat' split) <;> simp

@[simp] theorem reportDisturbed_now (s : State) : (reportDisturbed s).now = s.now := by
  unfold reportDisturbed
  try dsimp only
  (repeat' split) <;> simp

@[simp] theorem reportDisturbed_tables (s : State) : (reportDisturbed s).tables = s.tables := by
  unfold reportDisturbed
  try dsimp only
  (repeat' split) <;> simp

@[simp] theorem reportDisturbed_update (s : State) : (reportDisturbed s).update = s.update := by
  unfold reportDisturbed
  try dsimp only
  (repeat' split) <;> simp

@[simp] theorem reportDisturbed_chain (s : State) : (reportDisturbed s).chain = s.chain := by
  unfold reportDisturbed
  try dsimp only
  (repeat' split) <;> simp

@[simp] theorem reportDisturbed_arbiter (s : State) : (reportDisturbed s).arbiter = s.arbiter := by
  unfold reportDisturbed
  try dsimp only
  (repeat' split) <;> simp

@[simp] theorem reportDisturbed_evaluator (s : State) : (reportDisturbed s).evaluator = s.evaluator := by
  unfold reportDisturbed
  try dsimp only
  (repeat' split) <;> simp

@[simp] theorem reportDisturbed_protection (s : State) : (reportDisturbed s).protection = s.protection := by
  unfold reportDisturbed
  try dsimp only
  (repeat' split) <;> simp

@[simp] theorem reportDisturbed_sequencer (s : State) : (reportDisturbed s).sequencer = s.sequencer := by
  unfold reportDisturbed
  try dsimp only
  (repeat' split) <;> simp

@[simp] theorem reportDisturbed_capture (s : State) : (reportDisturbed s).capture = s.capture := by
  unfold reportDisturbed
  try dsimp only
  (repeat' split) <;> simp

@[simp] theorem reportDisturbed_power (s : State) : (reportDisturbed s).power = s.power := by
  unfold reportDisturbed
  try dsimp only
  (repeat' split) <;> simp

@[simp] theorem reportDisturbed_link (s : State) : (reportDisturbed s).link = s.link := by
  unfold reportDisturbed
  try dsimp only
  (repeat' split) <;> simp

@[simp] theorem reportDisturbed_notice (s : State) : (reportDisturbed s).notice = s.notice := by
  unfold reportDisturbed
  try dsimp only
  (repeat' split) <;> simp

@[simp] theorem forceOpen_pending (c : TripCause) (s : State) : (forceOpen c s).pending = s.pending := by
  unfold forceOpen
  try dsimp only
  (repeat' split) <;> simp

@[simp] theorem forceOpen_choices (c : TripCause) (s : State) : (forceOpen c s).choices = s.choices := by
  unfold forceOpen
  try dsimp only
  (repeat' split) <;> simp

@[simp] theorem forceOpen_now (c : TripCause) (s : State) : (forceOpen c s).now = s.now := by
  unfold forceOpen
  try dsimp only
  (repeat' split) <;> simp

@[simp] theorem forceOpen_tables (c : TripCause) (s : State) : (forceOpen c s).tables = s.tables := by
  unfold forceOpen
  try dsimp only
  (repeat' split) <;> simp

@[simp] theorem forceOpen_update (c : TripCause) (s : State) : (forceOpen c s).update = s.update := by
  unfold forceOpen
  try dsimp only
  (repeat' split) <;> simp

@[simp] theorem forceOpen_chain (c : TripCause) (s : State) : (forceOpen c s).chain = s.chain := by
  unfold forceOpen
  try dsimp only
  (repeat' split) <;> simp

@[simp] theorem forceOpen_arbiter (c : TripCause) (s : State) : (forceOpen c s).arbiter = s.arbiter := by
  unfold forceOpen
  try dsimp only
  (repeat' split) <;> simp

@[simp] theorem forceOpen_evaluator (c : TripCause) (s : State) : (forceOpen c s).evaluator = s.evaluator := by
  unfold forceOpen
  try dsimp only
  (repeat' split) <;> simp

@[simp] theorem forceOpen_protection (c : TripCause) (s : State) : (forceOpen c s).protection = s.protection := by
  unfold forceOpen
  try dsimp only
  (repeat' split) <;> simp

@[simp] theorem forceOpen_power (c : TripCause) (s : State) : (forceOpen c s).power = s.power := by
  unfold forceOpen
  try dsimp only
  (repeat' split) <;> simp

@[simp] theorem forceOpen_link (c : TripCause) (s : State) : (forceOpen c s).link = s.link := by
  unfold forceOpen
  try dsimp only
  (repeat' split) <;> simp

@[simp] theorem faultIfFeedback_pending (c : TripCause) (s : State) : (faultIfFeedback c s).pending = s.pending := by
  unfold faultIfFeedback
  try dsimp only
  (repeat' split) <;> simp

@[simp] theorem faultIfFeedback_choices (c : TripCause) (s : State) : (faultIfFeedback c s).choices = s.choices := by
  unfold faultIfFeedback
  try dsimp only
  (repeat' split) <;> simp

@[simp] theorem faultIfFeedback_now (c : TripCause) (s : State) : (faultIfFeedback c s).now = s.now := by
  unfold faultIfFeedback
  try dsimp only
  (repeat' split) <;> simp

@[simp] theorem faultIfFeedback_tables (c : TripCause) (s : State) : (faultIfFeedback c s).tables = s.tables := by
  unfold faultIfFeedback
  try dsimp only
  (repeat' split) <;> simp

@[simp] theorem faultIfFeedback_update (c : TripCause) (s : State) : (faultIfFeedback c s).update = s.update := by
  unfold faultIfFeedback
  try dsimp only
  (repeat' split) <;> simp

@[simp] theorem faultIfFeedback_sweep (c : TripCause) (s : State) : (faultIfFeedback c s).sweep = s.sweep := by
  unfold faultIfFeedback
  try dsimp only
  (repeat' split) <;> simp

@[simp] theorem faultIfFeedback_chain (c : TripCause) (s : State) : (faultIfFeedback c s).chain = s.chain := by
  unfold faultIfFeedback
  try dsimp only
  (repeat' split) <;> simp

@[simp] theorem faultIfFeedback_arbiter (c : TripCause) (s : State) : (faultIfFeedback c s).arbiter = s.arbiter := by
  unfold faultIfFeedback
  try dsimp only
  (repeat' split) <;> simp

@[simp] theorem faultIfFeedback_evaluator (c : TripCause) (s : State) : (faultIfFeedback c s).evaluator = s.evaluator := by
  unfold faultIfFeedback
  try dsimp only
  (repeat' split) <;> simp

@[simp] theorem faultIfFeedback_protection (c : TripCause) (s : State) : (faultIfFeedback c s).protection = s.protection := by
  unfold faultIfFeedback
  try dsimp only
  (repeat' split) <;> simp

@[simp] theorem faultIfFeedback_capture (c : TripCause) (s : State) : (faultIfFeedback c s).capture = s.capture := by
  unfold faultIfFeedback
  try dsimp only
  (repeat' split) <;> simp

@[simp] theorem faultIfFeedback_power (c : TripCause) (s : State) : (faultIfFeedback c s).power = s.power := by
  unfold faultIfFeedback
  try dsimp only
  (repeat' split) <;> simp

@[simp] theorem faultIfFeedback_link (c : TripCause) (s : State) : (faultIfFeedback c s).link = s.link := by
  unfold faultIfFeedback
  try dsimp only
  (repeat' split) <;> simp

@[simp] theorem faultIfFeedback_notice (c : TripCause) (s : State) : (faultIfFeedback c s).notice = s.notice := by
  unfold faultIfFeedback
  try dsimp only
  (repeat' split) <;> simp

@[simp] theorem openOrder_pending (c : TripCause) (s : State) : (openOrder c s).pending = s.pending := by
  unfold openOrder
  try dsimp only
  (repeat' split) <;> simp

@[simp] theorem openOrder_choices (c : TripCause) (s : State) : (openOrder c s).choices = s.choices := by
  unfold openOrder
  try dsimp only
  (repeat' split) <;> simp

@[simp] theorem openOrder_now (c : TripCause) (s : State) : (openOrder c s).now = s.now := by
  unfold openOrder
  try dsimp only
  (repeat' split) <;> simp

@[simp] theorem openOrder_tables (c : TripCause) (s : State) : (openOrder c s).tables = s.tables := by
  unfold openOrder
  try dsimp only
  (repeat' split) <;> simp

@[simp] theorem openOrder_update (c : TripCause) (s : State) : (openOrder c s).update = s.update := by
  unfold openOrder
  try dsimp only
  (repeat' split) <;> simp

@[simp] theorem openOrder_chain (c : TripCause) (s : State) : (openOrder c s).chain = s.chain := by
  unfold openOrder
  try dsimp only
  (repeat' split) <;> simp

@[simp] theorem openOrder_arbiter (c : TripCause) (s : State) : (openOrder c s).arbiter = s.arbiter := by
  unfold openOrder
  try dsimp only
  (repeat' split) <;> simp

@[simp] theorem openOrder_evaluator (c : TripCause) (s : State) : (openOrder c s).evaluator = s.evaluator := by
  unfold openOrder
  try dsimp only
  (repeat' split) <;> simp

@[simp] theorem openOrder_protection (c : TripCause) (s : State) : (openOrder c s).protection = s.protection := by
  unfold openOrder
  try dsimp only
  (repeat' split) <;> simp

@[simp] theorem openOrder_power (c : TripCause) (s : State) : (openOrder c s).power = s.power := by
  unfold openOrder
  try dsimp only
  (repeat' split) <;> simp

@[simp] theorem openOrder_link (c : TripCause) (s : State) : (openOrder c s).link = s.link := by
  unfold openOrder
  try dsimp only
  (repeat' split) <;> simp

@[simp] theorem takeTrip_pending (t : Trip) (s : State) : (takeTrip t s).pending = s.pending := by
  unfold takeTrip
  try dsimp only
  (repeat' split) <;> simp

@[simp] theorem takeTrip_choices (t : Trip) (s : State) : (takeTrip t s).choices = s.choices := by
  unfold takeTrip
  try dsimp only
  (repeat' split) <;> simp

@[simp] theorem takeTrip_now (t : Trip) (s : State) : (takeTrip t s).now = s.now := by
  unfold takeTrip
  try dsimp only
  (repeat' split) <;> simp

@[simp] theorem takeTrip_tables (t : Trip) (s : State) : (takeTrip t s).tables = s.tables := by
  unfold takeTrip
  try dsimp only
  (repeat' split) <;> simp

@[simp] theorem takeTrip_update (t : Trip) (s : State) : (takeTrip t s).update = s.update := by
  unfold takeTrip
  try dsimp only
  (repeat' split) <;> simp

@[simp] theorem takeTrip_chain (t : Trip) (s : State) : (takeTrip t s).chain = s.chain := by
  unfold takeTrip
  try dsimp only
  (repeat' split) <;> simp

@[simp] theorem takeTrip_arbiter (t : Trip) (s : State) : (takeTrip t s).arbiter = s.arbiter := by
  unfold takeTrip
  try dsimp only
  (repeat' split) <;> simp

@[simp] theorem takeTrip_evaluator (t : Trip) (s : State) : (takeTrip t s).evaluator = s.evaluator := by
  unfold takeTrip
  try dsimp only
  (repeat' split) <;> simp

@[simp] theorem takeTrip_power (t : Trip) (s : State) : (takeTrip t s).power = s.power := by
  unfold takeTrip
  try dsimp only
  (repeat' split) <;> simp

@[simp] theorem takeTrip_link (t : Trip) (s : State) : (takeTrip t s).link = s.link := by
  unfold takeTrip
  try dsimp only
  (repeat' split) <;> simp

@[simp] theorem tripPrecharge_pending (s : State) : (tripPrecharge s).pending = s.pending := by
  unfold tripPrecharge; simp

@[simp] theorem tripFeedback_pending (s : State) : (tripFeedback s).pending = s.pending := by
  unfold tripFeedback; simp

@[simp] theorem tripSilence_pending (s : State) : (tripSilence s).pending = s.pending := by
  unfold tripSilence; simp

@[simp] theorem tripFeedbacks_pending (n : Nat) (s : State) : (Nat.repeat tripFeedback n s).pending = s.pending := by
  induction n with
  | zero => rfl
  | succ n ih => rw [Nat.repeat, tripFeedback_pending, ih]

@[simp] theorem takeStoppedExpiry_pending (was s : State) : (takeStoppedExpiry was s).pending = s.pending := by
  unfold takeStoppedExpiry
  (repeat' split) <;> simp

@[simp] theorem takeOutsideTrip_pending (t : Trip) (s : State) : (takeOutsideTrip t s).pending = s.pending := by
  unfold takeOutsideTrip; simp

@[simp] theorem tripPrecharge_choices (s : State) : (tripPrecharge s).choices = s.choices := by
  unfold tripPrecharge; simp

@[simp] theorem tripFeedback_choices (s : State) : (tripFeedback s).choices = s.choices := by
  unfold tripFeedback; simp

@[simp] theorem tripSilence_choices (s : State) : (tripSilence s).choices = s.choices := by
  unfold tripSilence; simp

@[simp] theorem tripFeedbacks_choices (n : Nat) (s : State) : (Nat.repeat tripFeedback n s).choices = s.choices := by
  induction n with
  | zero => rfl
  | succ n ih => rw [Nat.repeat, tripFeedback_choices, ih]

@[simp] theorem takeStoppedExpiry_choices (was s : State) : (takeStoppedExpiry was s).choices = s.choices := by
  unfold takeStoppedExpiry
  (repeat' split) <;> simp

@[simp] theorem takeOutsideTrip_choices (t : Trip) (s : State) : (takeOutsideTrip t s).choices = s.choices := by
  unfold takeOutsideTrip; simp

@[simp] theorem tripPrecharge_now (s : State) : (tripPrecharge s).now = s.now := by
  unfold tripPrecharge; simp

@[simp] theorem tripFeedback_now (s : State) : (tripFeedback s).now = s.now := by
  unfold tripFeedback; simp

@[simp] theorem tripSilence_now (s : State) : (tripSilence s).now = s.now := by
  unfold tripSilence; simp

@[simp] theorem tripFeedbacks_now (n : Nat) (s : State) : (Nat.repeat tripFeedback n s).now = s.now := by
  induction n with
  | zero => rfl
  | succ n ih => rw [Nat.repeat, tripFeedback_now, ih]

@[simp] theorem takeStoppedExpiry_now (was s : State) : (takeStoppedExpiry was s).now = s.now := by
  unfold takeStoppedExpiry
  (repeat' split) <;> simp

@[simp] theorem takeOutsideTrip_now (t : Trip) (s : State) : (takeOutsideTrip t s).now = s.now := by
  unfold takeOutsideTrip; simp

@[simp] theorem tripPrecharge_tables (s : State) : (tripPrecharge s).tables = s.tables := by
  unfold tripPrecharge; simp

@[simp] theorem tripFeedback_tables (s : State) : (tripFeedback s).tables = s.tables := by
  unfold tripFeedback; simp

@[simp] theorem tripSilence_tables (s : State) : (tripSilence s).tables = s.tables := by
  unfold tripSilence; simp

@[simp] theorem tripFeedbacks_tables (n : Nat) (s : State) : (Nat.repeat tripFeedback n s).tables = s.tables := by
  induction n with
  | zero => rfl
  | succ n ih => rw [Nat.repeat, tripFeedback_tables, ih]

@[simp] theorem takeStoppedExpiry_tables (was s : State) : (takeStoppedExpiry was s).tables = s.tables := by
  unfold takeStoppedExpiry
  (repeat' split) <;> simp

@[simp] theorem takeOutsideTrip_tables (t : Trip) (s : State) : (takeOutsideTrip t s).tables = s.tables := by
  unfold takeOutsideTrip; simp

@[simp] theorem tripPrecharge_update (s : State) : (tripPrecharge s).update = s.update := by
  unfold tripPrecharge; simp

@[simp] theorem tripFeedback_update (s : State) : (tripFeedback s).update = s.update := by
  unfold tripFeedback; simp

@[simp] theorem tripSilence_update (s : State) : (tripSilence s).update = s.update := by
  unfold tripSilence; simp

@[simp] theorem tripFeedbacks_update (n : Nat) (s : State) : (Nat.repeat tripFeedback n s).update = s.update := by
  induction n with
  | zero => rfl
  | succ n ih => rw [Nat.repeat, tripFeedback_update, ih]

@[simp] theorem takeStoppedExpiry_update (was s : State) : (takeStoppedExpiry was s).update = s.update := by
  unfold takeStoppedExpiry
  (repeat' split) <;> simp

@[simp] theorem takeOutsideTrip_update (t : Trip) (s : State) : (takeOutsideTrip t s).update = s.update := by
  unfold takeOutsideTrip; simp

@[simp] theorem tripPrecharge_chain (s : State) : (tripPrecharge s).chain = s.chain := by
  unfold tripPrecharge; simp

@[simp] theorem tripFeedback_chain (s : State) : (tripFeedback s).chain = s.chain := by
  unfold tripFeedback; simp

@[simp] theorem tripSilence_chain (s : State) : (tripSilence s).chain = s.chain := by
  unfold tripSilence; simp

@[simp] theorem tripFeedbacks_chain (n : Nat) (s : State) : (Nat.repeat tripFeedback n s).chain = s.chain := by
  induction n with
  | zero => rfl
  | succ n ih => rw [Nat.repeat, tripFeedback_chain, ih]

@[simp] theorem takeStoppedExpiry_chain (was s : State) : (takeStoppedExpiry was s).chain = s.chain := by
  unfold takeStoppedExpiry
  (repeat' split) <;> simp

@[simp] theorem takeOutsideTrip_chain (t : Trip) (s : State) : (takeOutsideTrip t s).chain = s.chain := by
  unfold takeOutsideTrip; simp

@[simp] theorem tripPrecharge_arbiter (s : State) : (tripPrecharge s).arbiter = s.arbiter := by
  unfold tripPrecharge; simp

@[simp] theorem tripFeedback_arbiter (s : State) : (tripFeedback s).arbiter = s.arbiter := by
  unfold tripFeedback; simp

@[simp] theorem tripSilence_arbiter (s : State) : (tripSilence s).arbiter = s.arbiter := by
  unfold tripSilence; simp

@[simp] theorem tripFeedbacks_arbiter (n : Nat) (s : State) : (Nat.repeat tripFeedback n s).arbiter = s.arbiter := by
  induction n with
  | zero => rfl
  | succ n ih => rw [Nat.repeat, tripFeedback_arbiter, ih]

@[simp] theorem takeStoppedExpiry_arbiter (was s : State) : (takeStoppedExpiry was s).arbiter = s.arbiter := by
  unfold takeStoppedExpiry
  (repeat' split) <;> simp

@[simp] theorem takeOutsideTrip_arbiter (t : Trip) (s : State) : (takeOutsideTrip t s).arbiter = s.arbiter := by
  unfold takeOutsideTrip; simp

@[simp] theorem tripPrecharge_evaluator (s : State) : (tripPrecharge s).evaluator = s.evaluator := by
  unfold tripPrecharge; simp

@[simp] theorem tripFeedback_evaluator (s : State) : (tripFeedback s).evaluator = s.evaluator := by
  unfold tripFeedback; simp

@[simp] theorem tripSilence_evaluator (s : State) : (tripSilence s).evaluator = s.evaluator := by
  unfold tripSilence; simp

@[simp] theorem tripFeedbacks_evaluator (n : Nat) (s : State) : (Nat.repeat tripFeedback n s).evaluator = s.evaluator := by
  induction n with
  | zero => rfl
  | succ n ih => rw [Nat.repeat, tripFeedback_evaluator, ih]

@[simp] theorem takeStoppedExpiry_evaluator (was s : State) : (takeStoppedExpiry was s).evaluator = s.evaluator := by
  unfold takeStoppedExpiry
  (repeat' split) <;> simp

@[simp] theorem takeOutsideTrip_evaluator (t : Trip) (s : State) : (takeOutsideTrip t s).evaluator = s.evaluator := by
  unfold takeOutsideTrip; simp

@[simp] theorem tripPrecharge_power (s : State) : (tripPrecharge s).power = s.power := by
  unfold tripPrecharge; simp

@[simp] theorem tripFeedback_power (s : State) : (tripFeedback s).power = s.power := by
  unfold tripFeedback; simp

@[simp] theorem tripSilence_power (s : State) : (tripSilence s).power = s.power := by
  unfold tripSilence; simp

@[simp] theorem tripFeedbacks_power (n : Nat) (s : State) : (Nat.repeat tripFeedback n s).power = s.power := by
  induction n with
  | zero => rfl
  | succ n ih => rw [Nat.repeat, tripFeedback_power, ih]

@[simp] theorem takeStoppedExpiry_power (was s : State) : (takeStoppedExpiry was s).power = s.power := by
  unfold takeStoppedExpiry
  (repeat' split) <;> simp

@[simp] theorem takeOutsideTrip_power (t : Trip) (s : State) : (takeOutsideTrip t s).power = s.power := by
  unfold takeOutsideTrip; simp

@[simp] theorem tripPrecharge_link (s : State) : (tripPrecharge s).link = s.link := by
  unfold tripPrecharge; simp

@[simp] theorem tripFeedback_link (s : State) : (tripFeedback s).link = s.link := by
  unfold tripFeedback; simp

@[simp] theorem tripSilence_link (s : State) : (tripSilence s).link = s.link := by
  unfold tripSilence; simp

@[simp] theorem tripFeedbacks_link (n : Nat) (s : State) : (Nat.repeat tripFeedback n s).link = s.link := by
  induction n with
  | zero => rfl
  | succ n ih => rw [Nat.repeat, tripFeedback_link, ih]

@[simp] theorem takeStoppedExpiry_link (was s : State) : (takeStoppedExpiry was s).link = s.link := by
  unfold takeStoppedExpiry
  (repeat' split) <;> simp

@[simp] theorem takeOutsideTrip_link (t : Trip) (s : State) : (takeOutsideTrip t s).link = s.link := by
  unfold takeOutsideTrip; simp

@[simp] theorem setChannel_pending (i : Nat) (c : Channel) (s : State) : (setChannel i c s).pending = s.pending := rfl

@[simp] theorem setChannel_choices (i : Nat) (c : Channel) (s : State) : (setChannel i c s).choices = s.choices := rfl

@[simp] theorem setChannel_now (i : Nat) (c : Channel) (s : State) : (setChannel i c s).now = s.now := rfl

@[simp] theorem setChannel_tables (i : Nat) (c : Channel) (s : State) : (setChannel i c s).tables = s.tables := rfl

@[simp] theorem setChannel_update (i : Nat) (c : Channel) (s : State) : (setChannel i c s).update = s.update := rfl

@[simp] theorem setChannel_sweep (i : Nat) (c : Channel) (s : State) : (setChannel i c s).sweep = s.sweep := rfl

@[simp] theorem setChannel_chain (i : Nat) (c : Channel) (s : State) : (setChannel i c s).chain = s.chain := rfl

@[simp] theorem setChannel_arbiter (i : Nat) (c : Channel) (s : State) : (setChannel i c s).arbiter = s.arbiter := rfl

@[simp] theorem setChannel_protection (i : Nat) (c : Channel) (s : State) : (setChannel i c s).protection = s.protection := rfl

@[simp] theorem setChannel_sequencer (i : Nat) (c : Channel) (s : State) : (setChannel i c s).sequencer = s.sequencer := rfl

@[simp] theorem setChannel_capture (i : Nat) (c : Channel) (s : State) : (setChannel i c s).capture = s.capture := rfl

@[simp] theorem setChannel_power (i : Nat) (c : Channel) (s : State) : (setChannel i c s).power = s.power := rfl

@[simp] theorem setChannel_link (i : Nat) (c : Channel) (s : State) : (setChannel i c s).link = s.link := rfl

@[simp] theorem setChannel_notice (i : Nat) (c : Channel) (s : State) : (setChannel i c s).notice = s.notice := rfl

@[simp] theorem raiseNewFault_pending (b : Status) (r : Reading) (s : State) : (raiseNewFault b r s).pending = s.pending := by
  unfold raiseNewFault
  try dsimp only
  (repeat' split) <;> simp

@[simp] theorem raiseNewFault_choices (b : Status) (r : Reading) (s : State) : (raiseNewFault b r s).choices = s.choices := by
  unfold raiseNewFault
  try dsimp only
  (repeat' split) <;> simp

@[simp] theorem raiseNewFault_now (b : Status) (r : Reading) (s : State) : (raiseNewFault b r s).now = s.now := by
  unfold raiseNewFault
  try dsimp only
  (repeat' split) <;> simp

@[simp] theorem raiseNewFault_tables (b : Status) (r : Reading) (s : State) : (raiseNewFault b r s).tables = s.tables := by
  unfold raiseNewFault
  try dsimp only
  (repeat' split) <;> simp

@[simp] theorem raiseNewFault_update (b : Status) (r : Reading) (s : State) : (raiseNewFault b r s).update = s.update := by
  unfold raiseNewFault
  try dsimp only
  (repeat' split) <;> simp

@[simp] theorem raiseNewFault_sweep (b : Status) (r : Reading) (s : State) : (raiseNewFault b r s).sweep = s.sweep := by
  unfold raiseNewFault
  try dsimp only
  (repeat' split) <;> simp

@[simp] theorem raiseNewFault_chain (b : Status) (r : Reading) (s : State) : (raiseNewFault b r s).chain = s.chain := by
  unfold raiseNewFault
  try dsimp only
  (repeat' split) <;> simp

@[simp] theorem raiseNewFault_arbiter (b : Status) (r : Reading) (s : State) : (raiseNewFault b r s).arbiter = s.arbiter := by
  unfold raiseNewFault
  try dsimp only
  (repeat' split) <;> simp

@[simp] theorem raiseNewFault_evaluator (b : Status) (r : Reading) (s : State) : (raiseNewFault b r s).evaluator = s.evaluator := by
  unfold raiseNewFault
  try dsimp only
  (repeat' split) <;> simp

@[simp] theorem raiseNewFault_protection (b : Status) (r : Reading) (s : State) : (raiseNewFault b r s).protection = s.protection := by
  unfold raiseNewFault
  try dsimp only
  (repeat' split) <;> simp

@[simp] theorem raiseNewFault_sequencer (b : Status) (r : Reading) (s : State) : (raiseNewFault b r s).sequencer = s.sequencer := by
  unfold raiseNewFault
  try dsimp only
  (repeat' split) <;> simp

@[simp] theorem raiseNewFault_capture (b : Status) (r : Reading) (s : State) : (raiseNewFault b r s).capture = s.capture := by
  unfold raiseNewFault
  try dsimp only
  (repeat' split) <;> simp

@[simp] theorem raiseNewFault_power (b : Status) (r : Reading) (s : State) : (raiseNewFault b r s).power = s.power := by
  unfold raiseNewFault
  try dsimp only
  (repeat' split) <;> simp

@[simp] theorem raiseNewFault_link (b : Status) (r : Reading) (s : State) : (raiseNewFault b r s).link = s.link := by
  unfold raiseNewFault
  try dsimp only
  (repeat' split) <;> simp

@[simp] theorem evaluateChannel_pending (p c : Nat) (x : Half) (s : State) : (evaluateChannel p c x s).pending = s.pending := by
  unfold evaluateChannel
  try dsimp only
  (repeat' split) <;> simp

@[simp] theorem evaluateChannel_choices (p c : Nat) (x : Half) (s : State) : (evaluateChannel p c x s).choices = s.choices := by
  unfold evaluateChannel
  try dsimp only
  (repeat' split) <;> simp

@[simp] theorem evaluateChannel_now (p c : Nat) (x : Half) (s : State) : (evaluateChannel p c x s).now = s.now := by
  unfold evaluateChannel
  try dsimp only
  (repeat' split) <;> simp

@[simp] theorem evaluateChannel_tables (p c : Nat) (x : Half) (s : State) : (evaluateChannel p c x s).tables = s.tables := by
  unfold evaluateChannel
  try dsimp only
  (repeat' split) <;> simp

@[simp] theorem evaluateChannel_update (p c : Nat) (x : Half) (s : State) : (evaluateChannel p c x s).update = s.update := by
  unfold evaluateChannel
  try dsimp only
  (repeat' split) <;> simp

@[simp] theorem evaluateChannel_chain (p c : Nat) (x : Half) (s : State) : (evaluateChannel p c x s).chain = s.chain := by
  unfold evaluateChannel
  try dsimp only
  (repeat' split) <;> simp

@[simp] theorem evaluateChannel_arbiter (p c : Nat) (x : Half) (s : State) : (evaluateChannel p c x s).arbiter = s.arbiter := by
  unfold evaluateChannel
  try dsimp only
  (repeat' split) <;> simp

@[simp] theorem evaluateChannel_power (p c : Nat) (x : Half) (s : State) : (evaluateChannel p c x s).power = s.power := by
  unfold evaluateChannel
  try dsimp only
  (repeat' split) <;> simp

@[simp] theorem evaluateChannel_link (p c : Nat) (x : Half) (s : State) : (evaluateChannel p c x s).link = s.link := by
  unfold evaluateChannel
  try dsimp only
  (repeat' split) <;> simp

@[simp] theorem eachEvaluate_pending (p : Nat) (kind : ReadKind) (payload : List Byte) (s : State) : (eachChannel evaluateChannel p kind payload s).pending = s.pending := by
  rw [eachChannel_eq]
  generalize (codesOf (channelsOf kind).2 payload).zipIdx (channelsOf kind).1 = l
  induction l generalizing s with
  | nil => rfl
  | cons x l ih => simp [ih]

@[simp] theorem eachEvaluate_choices (p : Nat) (kind : ReadKind) (payload : List Byte) (s : State) : (eachChannel evaluateChannel p kind payload s).choices = s.choices := by
  rw [eachChannel_eq]
  generalize (codesOf (channelsOf kind).2 payload).zipIdx (channelsOf kind).1 = l
  induction l generalizing s with
  | nil => rfl
  | cons x l ih => simp [ih]

@[simp] theorem eachEvaluate_now (p : Nat) (kind : ReadKind) (payload : List Byte) (s : State) : (eachChannel evaluateChannel p kind payload s).now = s.now := by
  rw [eachChannel_eq]
  generalize (codesOf (channelsOf kind).2 payload).zipIdx (channelsOf kind).1 = l
  induction l generalizing s with
  | nil => rfl
  | cons x l ih => simp [ih]

@[simp] theorem eachEvaluate_tables (p : Nat) (kind : ReadKind) (payload : List Byte) (s : State) : (eachChannel evaluateChannel p kind payload s).tables = s.tables := by
  rw [eachChannel_eq]
  generalize (codesOf (channelsOf kind).2 payload).zipIdx (channelsOf kind).1 = l
  induction l generalizing s with
  | nil => rfl
  | cons x l ih => simp [ih]

@[simp] theorem eachEvaluate_update (p : Nat) (kind : ReadKind) (payload : List Byte) (s : State) : (eachChannel evaluateChannel p kind payload s).update = s.update := by
  rw [eachChannel_eq]
  generalize (codesOf (channelsOf kind).2 payload).zipIdx (channelsOf kind).1 = l
  induction l generalizing s with
  | nil => rfl
  | cons x l ih => simp [ih]

@[simp] theorem eachEvaluate_chain (p : Nat) (kind : ReadKind) (payload : List Byte) (s : State) : (eachChannel evaluateChannel p kind payload s).chain = s.chain := by
  rw [eachChannel_eq]
  generalize (codesOf (channelsOf kind).2 payload).zipIdx (channelsOf kind).1 = l
  induction l generalizing s with
  | nil => rfl
  | cons x l ih => simp [ih]

@[simp] theorem eachEvaluate_arbiter (p : Nat) (kind : ReadKind) (payload : List Byte) (s : State) : (eachChannel evaluateChannel p kind payload s).arbiter = s.arbiter := by
  rw [eachChannel_eq]
  generalize (codesOf (channelsOf kind).2 payload).zipIdx (channelsOf kind).1 = l
  induction l generalizing s with
  | nil => rfl
  | cons x l ih => simp [ih]

@[simp] theorem eachEvaluate_power (p : Nat) (kind : ReadKind) (payload : List Byte) (s : State) : (eachChannel evaluateChannel p kind payload s).power = s.power := by
  rw [eachChannel_eq]
  generalize (codesOf (channelsOf kind).2 payload).zipIdx (channelsOf kind).1 = l
  induction l generalizing s with
  | nil => rfl
  | cons x l ih => simp [ih]

@[simp] theorem eachEvaluate_link (p : Nat) (kind : ReadKind) (payload : List Byte) (s : State) : (eachChannel evaluateChannel p kind payload s).link = s.link := by
  rw [eachChannel_eq]
  generalize (codesOf (channelsOf kind).2 payload).zipIdx (channelsOf kind).1 = l
  induction l generalizing s with
  | nil => rfl
  | cons x l ih => simp [ih]

@[simp] theorem mirrorAnswer_pending (p : Nat) (kind : ReadKind) (s : State) : (mirrorAnswer p kind s).pending = s.pending := by
  unfold mirrorAnswer
  try dsimp only
  (repeat' split) <;> simp

@[simp] theorem mirrorAnswer_now (p : Nat) (kind : ReadKind) (s : State) : (mirrorAnswer p kind s).now = s.now := by
  unfold mirrorAnswer
  try dsimp only
  (repeat' split) <;> simp

@[simp] theorem mirrorAnswer_tables (p : Nat) (kind : ReadKind) (s : State) : (mirrorAnswer p kind s).tables = s.tables := by
  unfold mirrorAnswer
  try dsimp only
  (repeat' split) <;> simp

@[simp] theorem mirrorAnswer_update (p : Nat) (kind : ReadKind) (s : State) : (mirrorAnswer p kind s).update = s.update := by
  unfold mirrorAnswer
  try dsimp only
  (repeat' split) <;> simp

@[simp] theorem mirrorAnswer_chain (p : Nat) (kind : ReadKind) (s : State) : (mirrorAnswer p kind s).chain = s.chain := by
  unfold mirrorAnswer
  try dsimp only
  (repeat' split) <;> simp

@[simp] theorem mirrorAnswer_arbiter (p : Nat) (kind : ReadKind) (s : State) : (mirrorAnswer p kind s).arbiter = s.arbiter := by
  unfold mirrorAnswer
  try dsimp only
  (repeat' split) <;> simp

@[simp] theorem mirrorAnswer_evaluator (p : Nat) (kind : ReadKind) (s : State) : (mirrorAnswer p kind s).evaluator = s.evaluator := by
  unfold mirrorAnswer
  try dsimp only
  (repeat' split) <;> simp

@[simp] theorem mirrorAnswer_protection (p : Nat) (kind : ReadKind) (s : State) : (mirrorAnswer p kind s).protection = s.protection := by
  unfold mirrorAnswer
  try dsimp only
  (repeat' split) <;> simp

@[simp] theorem mirrorAnswer_sequencer (p : Nat) (kind : ReadKind) (s : State) : (mirrorAnswer p kind s).sequencer = s.sequencer := by
  unfold mirrorAnswer
  try dsimp only
  (repeat' split) <;> simp

@[simp] theorem mirrorAnswer_capture (p : Nat) (kind : ReadKind) (s : State) : (mirrorAnswer p kind s).capture = s.capture := by
  unfold mirrorAnswer
  try dsimp only
  (repeat' split) <;> simp

@[simp] theorem mirrorAnswer_power (p : Nat) (kind : ReadKind) (s : State) : (mirrorAnswer p kind s).power = s.power := by
  unfold mirrorAnswer
  try dsimp only
  (repeat' split) <;> simp

@[simp] theorem evaluateAnswer_pending (p : Nat) (kind : ReadKind) (payload : List Byte) (s : State) : (evaluateAnswer p kind payload s).pending = s.pending := by
  unfold evaluateAnswer
  try dsimp only
  simp

@[simp] theorem evaluateAnswer_now (p : Nat) (kind : ReadKind) (payload : List Byte) (s : State) : (evaluateAnswer p kind payload s).now = s.now := by
  unfold evaluateAnswer
  try dsimp only
  simp

@[simp] theorem evaluateAnswer_tables (p : Nat) (kind : ReadKind) (payload : List Byte) (s : State) : (evaluateAnswer p kind payload s).tables = s.tables := by
  unfold evaluateAnswer
  try dsimp only
  simp

@[simp] theorem evaluateAnswer_update (p : Nat) (kind : ReadKind) (payload : List Byte) (s : State) : (evaluateAnswer p kind payload s).update = s.update := by
  unfold evaluateAnswer
  try dsimp only
  simp

@[simp] theorem evaluateAnswer_chain (p : Nat) (kind : ReadKind) (payload : List Byte) (s : State) : (evaluateAnswer p kind payload s).chain = s.chain := by
  unfold evaluateAnswer
  try dsimp only
  simp

@[simp] theorem evaluateAnswer_arbiter (p : Nat) (kind : ReadKind) (payload : List Byte) (s : State) : (evaluateAnswer p kind payload s).arbiter = s.arbiter := by
  unfold evaluateAnswer
  try dsimp only
  simp

@[simp] theorem evaluateAnswer_power (p : Nat) (kind : ReadKind) (payload : List Byte) (s : State) : (evaluateAnswer p kind payload s).power = s.power := by
  unfold evaluateAnswer
  try dsimp only
  simp

@[simp] theorem updatePack_pending (f : Bool) (st : Stamp) (l : Bool) (p : List Byte) (s : State) : (updatePack f st l p s).pending = s.pending := rfl

@[simp] theorem updatePack_choices (f : Bool) (st : Stamp) (l : Bool) (p : List Byte) (s : State) : (updatePack f st l p s).choices = s.choices := rfl

@[simp] theorem updatePack_now (f : Bool) (st : Stamp) (l : Bool) (p : List Byte) (s : State) : (updatePack f st l p s).now = s.now := rfl

@[simp] theorem updatePack_tables (f : Bool) (st : Stamp) (l : Bool) (p : List Byte) (s : State) : (updatePack f st l p s).tables = s.tables := rfl

@[simp] theorem updatePack_update (f : Bool) (st : Stamp) (l : Bool) (p : List Byte) (s : State) : (updatePack f st l p s).update = s.update := rfl

@[simp] theorem updatePack_sweep (f : Bool) (st : Stamp) (l : Bool) (p : List Byte) (s : State) : (updatePack f st l p s).sweep = s.sweep := rfl

@[simp] theorem updatePack_chain (f : Bool) (st : Stamp) (l : Bool) (p : List Byte) (s : State) : (updatePack f st l p s).chain = s.chain := rfl

@[simp] theorem updatePack_arbiter (f : Bool) (st : Stamp) (l : Bool) (p : List Byte) (s : State) : (updatePack f st l p s).arbiter = s.arbiter := rfl

@[simp] theorem updatePack_protection (f : Bool) (st : Stamp) (l : Bool) (p : List Byte) (s : State) : (updatePack f st l p s).protection = s.protection := rfl

@[simp] theorem updatePack_sequencer (f : Bool) (st : Stamp) (l : Bool) (p : List Byte) (s : State) : (updatePack f st l p s).sequencer = s.sequencer := rfl

@[simp] theorem updatePack_capture (f : Bool) (st : Stamp) (l : Bool) (p : List Byte) (s : State) : (updatePack f st l p s).capture = s.capture := rfl

@[simp] theorem updatePack_power (f : Bool) (st : Stamp) (l : Bool) (p : List Byte) (s : State) : (updatePack f st l p s).power = s.power := rfl

@[simp] theorem updatePack_link (f : Bool) (st : Stamp) (l : Bool) (p : List Byte) (s : State) : (updatePack f st l p s).link = s.link := rfl

@[simp] theorem updatePack_notice (f : Bool) (st : Stamp) (l : Bool) (p : List Byte) (s : State) : (updatePack f st l p s).notice = s.notice := rfl

@[simp] theorem evaluateSense_pending (p : Nat) (payload : List Byte) (s : State) : (evaluateSense p payload s).pending = s.pending := by
  unfold evaluateSense
  try dsimp only
  (repeat' split) <;> simp

@[simp] theorem evaluateSense_now (p : Nat) (payload : List Byte) (s : State) : (evaluateSense p payload s).now = s.now := by
  unfold evaluateSense
  try dsimp only
  (repeat' split) <;> simp

@[simp] theorem evaluateSense_tables (p : Nat) (payload : List Byte) (s : State) : (evaluateSense p payload s).tables = s.tables := by
  unfold evaluateSense
  try dsimp only
  (repeat' split) <;> simp

@[simp] theorem evaluateSense_update (p : Nat) (payload : List Byte) (s : State) : (evaluateSense p payload s).update = s.update := by
  unfold evaluateSense
  try dsimp only
  (repeat' split) <;> simp

@[simp] theorem evaluateSense_chain (p : Nat) (payload : List Byte) (s : State) : (evaluateSense p payload s).chain = s.chain := by
  unfold evaluateSense
  try dsimp only
  (repeat' split) <;> simp

@[simp] theorem evaluateSense_arbiter (p : Nat) (payload : List Byte) (s : State) : (evaluateSense p payload s).arbiter = s.arbiter := by
  unfold evaluateSense
  try dsimp only
  (repeat' split) <;> simp

@[simp] theorem evaluateSense_protection (p : Nat) (payload : List Byte) (s : State) : (evaluateSense p payload s).protection = s.protection := by
  unfold evaluateSense
  try dsimp only
  (repeat' split) <;> simp

@[simp] theorem evaluateSense_power (p : Nat) (payload : List Byte) (s : State) : (evaluateSense p payload s).power = s.power := by
  unfold evaluateSense
  try dsimp only
  (repeat' split) <;> simp

@[simp] theorem holdRecords_pending (s : State) : (holdRecords s).pending = s.pending := rfl

@[simp] theorem holdRecords_choices (s : State) : (holdRecords s).choices = s.choices := rfl

@[simp] theorem holdRecords_now (s : State) : (holdRecords s).now = s.now := rfl

@[simp] theorem holdRecords_tables (s : State) : (holdRecords s).tables = s.tables := rfl

@[simp] theorem holdRecords_update (s : State) : (holdRecords s).update = s.update := rfl

@[simp] theorem holdRecords_sweep (s : State) : (holdRecords s).sweep = s.sweep := rfl

@[simp] theorem holdRecords_chain (s : State) : (holdRecords s).chain = s.chain := rfl

@[simp] theorem holdRecords_arbiter (s : State) : (holdRecords s).arbiter = s.arbiter := rfl

@[simp] theorem holdRecords_protection (s : State) : (holdRecords s).protection = s.protection := rfl

@[simp] theorem holdRecords_sequencer (s : State) : (holdRecords s).sequencer = s.sequencer := rfl

@[simp] theorem holdRecords_capture (s : State) : (holdRecords s).capture = s.capture := rfl

@[simp] theorem holdRecords_power (s : State) : (holdRecords s).power = s.power := rfl

@[simp] theorem holdRecords_link (s : State) : (holdRecords s).link = s.link := rfl

@[simp] theorem holdRecords_notice (s : State) : (holdRecords s).notice = s.notice := rfl

@[simp] theorem markStale_pending (p : Nat) (s : State) : (markStale p s).pending = s.pending := rfl

@[simp] theorem markStale_choices (p : Nat) (s : State) : (markStale p s).choices = s.choices := rfl

@[simp] theorem markStale_now (p : Nat) (s : State) : (markStale p s).now = s.now := rfl

@[simp] theorem markStale_tables (p : Nat) (s : State) : (markStale p s).tables = s.tables := rfl

@[simp] theorem markStale_update (p : Nat) (s : State) : (markStale p s).update = s.update := rfl

@[simp] theorem markStale_sweep (p : Nat) (s : State) : (markStale p s).sweep = s.sweep := rfl

@[simp] theorem markStale_chain (p : Nat) (s : State) : (markStale p s).chain = s.chain := rfl

@[simp] theorem markStale_arbiter (p : Nat) (s : State) : (markStale p s).arbiter = s.arbiter := rfl

@[simp] theorem markStale_protection (p : Nat) (s : State) : (markStale p s).protection = s.protection := rfl

@[simp] theorem markStale_sequencer (p : Nat) (s : State) : (markStale p s).sequencer = s.sequencer := rfl

@[simp] theorem markStale_capture (p : Nat) (s : State) : (markStale p s).capture = s.capture := rfl

@[simp] theorem markStale_power (p : Nat) (s : State) : (markStale p s).power = s.power := rfl

@[simp] theorem markStale_link (p : Nat) (s : State) : (markStale p s).link = s.link := rfl

@[simp] theorem markStale_notice (p : Nat) (s : State) : (markStale p s).notice = s.notice := rfl

@[simp] theorem emptyUnevaluated_pending (old : Image) (s : State) : (emptyUnevaluated old s).pending = s.pending := rfl

@[simp] theorem emptyUnevaluated_choices (old : Image) (s : State) : (emptyUnevaluated old s).choices = s.choices := rfl

@[simp] theorem emptyUnevaluated_now (old : Image) (s : State) : (emptyUnevaluated old s).now = s.now := rfl

@[simp] theorem emptyUnevaluated_tables (old : Image) (s : State) : (emptyUnevaluated old s).tables = s.tables := rfl

@[simp] theorem emptyUnevaluated_update (old : Image) (s : State) : (emptyUnevaluated old s).update = s.update := rfl

@[simp] theorem emptyUnevaluated_sweep (old : Image) (s : State) : (emptyUnevaluated old s).sweep = s.sweep := rfl

@[simp] theorem emptyUnevaluated_chain (old : Image) (s : State) : (emptyUnevaluated old s).chain = s.chain := rfl

@[simp] theorem emptyUnevaluated_arbiter (old : Image) (s : State) : (emptyUnevaluated old s).arbiter = s.arbiter := rfl

@[simp] theorem emptyUnevaluated_protection (old : Image) (s : State) : (emptyUnevaluated old s).protection = s.protection := rfl

@[simp] theorem emptyUnevaluated_sequencer (old : Image) (s : State) : (emptyUnevaluated old s).sequencer = s.sequencer := rfl

@[simp] theorem emptyUnevaluated_capture (old : Image) (s : State) : (emptyUnevaluated old s).capture = s.capture := rfl

@[simp] theorem emptyUnevaluated_power (old : Image) (s : State) : (emptyUnevaluated old s).power = s.power := rfl

@[simp] theorem emptyUnevaluated_link (old : Image) (s : State) : (emptyUnevaluated old s).link = s.link := rfl

@[simp] theorem emptyUnevaluated_notice (old : Image) (s : State) : (emptyUnevaluated old s).notice = s.notice := rfl

@[simp] theorem sumCheck_pending (s : State) : (sumCheck s).pending = s.pending := by
  unfold sumCheck
  try dsimp only
  (repeat' split) <;> simp

@[simp] theorem sumCheck_choices (s : State) : (sumCheck s).choices = s.choices := by
  unfold sumCheck
  try dsimp only
  (repeat' split) <;> simp

@[simp] theorem sumCheck_now (s : State) : (sumCheck s).now = s.now := by
  unfold sumCheck
  try dsimp only
  (repeat' split) <;> simp

@[simp] theorem sumCheck_tables (s : State) : (sumCheck s).tables = s.tables := by
  unfold sumCheck
  try dsimp only
  (repeat' split) <;> simp

@[simp] theorem sumCheck_update (s : State) : (sumCheck s).update = s.update := by
  unfold sumCheck
  try dsimp only
  (repeat' split) <;> simp

@[simp] theorem sumCheck_chain (s : State) : (sumCheck s).chain = s.chain := by
  unfold sumCheck
  try dsimp only
  (repeat' split) <;> simp

@[simp] theorem sumCheck_arbiter (s : State) : (sumCheck s).arbiter = s.arbiter := by
  unfold sumCheck
  try dsimp only
  (repeat' split) <;> simp

@[simp] theorem sumCheck_evaluator (s : State) : (sumCheck s).evaluator = s.evaluator := by
  unfold sumCheck
  try dsimp only
  (repeat' split) <;> simp

@[simp] theorem sumCheck_protection (s : State) : (sumCheck s).protection = s.protection := by
  unfold sumCheck
  try dsimp only
  (repeat' split) <;> simp

@[simp] theorem sumCheck_sequencer (s : State) : (sumCheck s).sequencer = s.sequencer := by
  unfold sumCheck
  try dsimp only
  (repeat' split) <;> simp

@[simp] theorem sumCheck_capture (s : State) : (sumCheck s).capture = s.capture := by
  unfold sumCheck
  try dsimp only
  (repeat' split) <;> simp

@[simp] theorem sumCheck_power (s : State) : (sumCheck s).power = s.power := by
  unfold sumCheck
  try dsimp only
  (repeat' split) <;> simp

@[simp] theorem sumCheck_link (s : State) : (sumCheck s).link = s.link := by
  unfold sumCheck
  try dsimp only
  (repeat' split) <;> simp

@[simp] theorem storeWatchChannel_pending (p c : Nat) (x : Half) (s : State) : (storeWatchChannel p c x s).pending = s.pending := by
  unfold storeWatchChannel
  try dsimp only
  (repeat' split) <;> simp

@[simp] theorem storeWatchChannel_choices (p c : Nat) (x : Half) (s : State) : (storeWatchChannel p c x s).choices = s.choices := by
  unfold storeWatchChannel
  try dsimp only
  (repeat' split) <;> simp

@[simp] theorem storeWatchChannel_now (p c : Nat) (x : Half) (s : State) : (storeWatchChannel p c x s).now = s.now := by
  unfold storeWatchChannel
  try dsimp only
  (repeat' split) <;> simp

@[simp] theorem storeWatchChannel_tables (p c : Nat) (x : Half) (s : State) : (storeWatchChannel p c x s).tables = s.tables := by
  unfold storeWatchChannel
  try dsimp only
  (repeat' split) <;> simp

@[simp] theorem storeWatchChannel_update (p c : Nat) (x : Half) (s : State) : (storeWatchChannel p c x s).update = s.update := by
  unfold storeWatchChannel
  try dsimp only
  (repeat' split) <;> simp

@[simp] theorem storeWatchChannel_sweep (p c : Nat) (x : Half) (s : State) : (storeWatchChannel p c x s).sweep = s.sweep := by
  unfold storeWatchChannel
  try dsimp only
  (repeat' split) <;> simp

@[simp] theorem storeWatchChannel_chain (p c : Nat) (x : Half) (s : State) : (storeWatchChannel p c x s).chain = s.chain := by
  unfold storeWatchChannel
  try dsimp only
  (repeat' split) <;> simp

@[simp] theorem storeWatchChannel_arbiter (p c : Nat) (x : Half) (s : State) : (storeWatchChannel p c x s).arbiter = s.arbiter := by
  unfold storeWatchChannel
  try dsimp only
  (repeat' split) <;> simp

@[simp] theorem storeWatchChannel_protection (p c : Nat) (x : Half) (s : State) : (storeWatchChannel p c x s).protection = s.protection := by
  unfold storeWatchChannel
  try dsimp only
  (repeat' split) <;> simp

@[simp] theorem storeWatchChannel_sequencer (p c : Nat) (x : Half) (s : State) : (storeWatchChannel p c x s).sequencer = s.sequencer := by
  unfold storeWatchChannel
  try dsimp only
  (repeat' split) <;> simp

@[simp] theorem storeWatchChannel_capture (p c : Nat) (x : Half) (s : State) : (storeWatchChannel p c x s).capture = s.capture := by
  unfold storeWatchChannel
  try dsimp only
  (repeat' split) <;> simp

@[simp] theorem storeWatchChannel_power (p c : Nat) (x : Half) (s : State) : (storeWatchChannel p c x s).power = s.power := by
  unfold storeWatchChannel
  try dsimp only
  (repeat' split) <;> simp

@[simp] theorem storeWatchChannel_link (p c : Nat) (x : Half) (s : State) : (storeWatchChannel p c x s).link = s.link := by
  unfold storeWatchChannel
  try dsimp only
  (repeat' split) <;> simp

@[simp] theorem eachStore_pending (p : Nat) (kind : ReadKind) (payload : List Byte) (s : State) : (eachChannel storeWatchChannel p kind payload s).pending = s.pending := by
  rw [eachChannel_eq]
  generalize (codesOf (channelsOf kind).2 payload).zipIdx (channelsOf kind).1 = l
  induction l generalizing s with
  | nil => rfl
  | cons x l ih => simp [ih]

@[simp] theorem eachStore_choices (p : Nat) (kind : ReadKind) (payload : List Byte) (s : State) : (eachChannel storeWatchChannel p kind payload s).choices = s.choices := by
  rw [eachChannel_eq]
  generalize (codesOf (channelsOf kind).2 payload).zipIdx (channelsOf kind).1 = l
  induction l generalizing s with
  | nil => rfl
  | cons x l ih => simp [ih]

@[simp] theorem eachStore_now (p : Nat) (kind : ReadKind) (payload : List Byte) (s : State) : (eachChannel storeWatchChannel p kind payload s).now = s.now := by
  rw [eachChannel_eq]
  generalize (codesOf (channelsOf kind).2 payload).zipIdx (channelsOf kind).1 = l
  induction l generalizing s with
  | nil => rfl
  | cons x l ih => simp [ih]

@[simp] theorem eachStore_tables (p : Nat) (kind : ReadKind) (payload : List Byte) (s : State) : (eachChannel storeWatchChannel p kind payload s).tables = s.tables := by
  rw [eachChannel_eq]
  generalize (codesOf (channelsOf kind).2 payload).zipIdx (channelsOf kind).1 = l
  induction l generalizing s with
  | nil => rfl
  | cons x l ih => simp [ih]

@[simp] theorem eachStore_update (p : Nat) (kind : ReadKind) (payload : List Byte) (s : State) : (eachChannel storeWatchChannel p kind payload s).update = s.update := by
  rw [eachChannel_eq]
  generalize (codesOf (channelsOf kind).2 payload).zipIdx (channelsOf kind).1 = l
  induction l generalizing s with
  | nil => rfl
  | cons x l ih => simp [ih]

@[simp] theorem eachStore_sweep (p : Nat) (kind : ReadKind) (payload : List Byte) (s : State) : (eachChannel storeWatchChannel p kind payload s).sweep = s.sweep := by
  rw [eachChannel_eq]
  generalize (codesOf (channelsOf kind).2 payload).zipIdx (channelsOf kind).1 = l
  induction l generalizing s with
  | nil => rfl
  | cons x l ih => simp [ih]

@[simp] theorem eachStore_chain (p : Nat) (kind : ReadKind) (payload : List Byte) (s : State) : (eachChannel storeWatchChannel p kind payload s).chain = s.chain := by
  rw [eachChannel_eq]
  generalize (codesOf (channelsOf kind).2 payload).zipIdx (channelsOf kind).1 = l
  induction l generalizing s with
  | nil => rfl
  | cons x l ih => simp [ih]

@[simp] theorem eachStore_arbiter (p : Nat) (kind : ReadKind) (payload : List Byte) (s : State) : (eachChannel storeWatchChannel p kind payload s).arbiter = s.arbiter := by
  rw [eachChannel_eq]
  generalize (codesOf (channelsOf kind).2 payload).zipIdx (channelsOf kind).1 = l
  induction l generalizing s with
  | nil => rfl
  | cons x l ih => simp [ih]

@[simp] theorem eachStore_protection (p : Nat) (kind : ReadKind) (payload : List Byte) (s : State) : (eachChannel storeWatchChannel p kind payload s).protection = s.protection := by
  rw [eachChannel_eq]
  generalize (codesOf (channelsOf kind).2 payload).zipIdx (channelsOf kind).1 = l
  induction l generalizing s with
  | nil => rfl
  | cons x l ih => simp [ih]

@[simp] theorem eachStore_sequencer (p : Nat) (kind : ReadKind) (payload : List Byte) (s : State) : (eachChannel storeWatchChannel p kind payload s).sequencer = s.sequencer := by
  rw [eachChannel_eq]
  generalize (codesOf (channelsOf kind).2 payload).zipIdx (channelsOf kind).1 = l
  induction l generalizing s with
  | nil => rfl
  | cons x l ih => simp [ih]

@[simp] theorem eachStore_capture (p : Nat) (kind : ReadKind) (payload : List Byte) (s : State) : (eachChannel storeWatchChannel p kind payload s).capture = s.capture := by
  rw [eachChannel_eq]
  generalize (codesOf (channelsOf kind).2 payload).zipIdx (channelsOf kind).1 = l
  induction l generalizing s with
  | nil => rfl
  | cons x l ih => simp [ih]

@[simp] theorem eachStore_power (p : Nat) (kind : ReadKind) (payload : List Byte) (s : State) : (eachChannel storeWatchChannel p kind payload s).power = s.power := by
  rw [eachChannel_eq]
  generalize (codesOf (channelsOf kind).2 payload).zipIdx (channelsOf kind).1 = l
  induction l generalizing s with
  | nil => rfl
  | cons x l ih => simp [ih]

@[simp] theorem eachStore_link (p : Nat) (kind : ReadKind) (payload : List Byte) (s : State) : (eachChannel storeWatchChannel p kind payload s).link = s.link := by
  rw [eachChannel_eq]
  generalize (codesOf (channelsOf kind).2 payload).zipIdx (channelsOf kind).1 = l
  induction l generalizing s with
  | nil => rfl
  | cons x l ih => simp [ih]

@[simp] theorem judgeWatchChannel_pending (p c : Nat) (b : Bool) (s : State) : (judgeWatchChannel p c (b, s)).2.pending = s.pending := by
  unfold judgeWatchChannel
  try dsimp only
  (repeat' split) <;> simp

@[simp] theorem judgeWatchChannel_choices (p c : Nat) (b : Bool) (s : State) : (judgeWatchChannel p c (b, s)).2.choices = s.choices := by
  unfold judgeWatchChannel
  try dsimp only
  (repeat' split) <;> simp

@[simp] theorem judgeWatchChannel_now (p c : Nat) (b : Bool) (s : State) : (judgeWatchChannel p c (b, s)).2.now = s.now := by
  unfold judgeWatchChannel
  try dsimp only
  (repeat' split) <;> simp

@[simp] theorem judgeWatchChannel_tables (p c : Nat) (b : Bool) (s : State) : (judgeWatchChannel p c (b, s)).2.tables = s.tables := by
  unfold judgeWatchChannel
  try dsimp only
  (repeat' split) <;> simp

@[simp] theorem judgeWatchChannel_update (p c : Nat) (b : Bool) (s : State) : (judgeWatchChannel p c (b, s)).2.update = s.update := by
  unfold judgeWatchChannel
  try dsimp only
  (repeat' split) <;> simp

@[simp] theorem judgeWatchChannel_chain (p c : Nat) (b : Bool) (s : State) : (judgeWatchChannel p c (b, s)).2.chain = s.chain := by
  unfold judgeWatchChannel
  try dsimp only
  (repeat' split) <;> simp

@[simp] theorem judgeWatchChannel_arbiter (p c : Nat) (b : Bool) (s : State) : (judgeWatchChannel p c (b, s)).2.arbiter = s.arbiter := by
  unfold judgeWatchChannel
  try dsimp only
  (repeat' split) <;> simp

@[simp] theorem judgeWatchChannel_evaluator (p c : Nat) (b : Bool) (s : State) : (judgeWatchChannel p c (b, s)).2.evaluator = s.evaluator := by
  unfold judgeWatchChannel
  try dsimp only
  (repeat' split) <;> simp

@[simp] theorem judgeWatchChannel_link (p c : Nat) (b : Bool) (s : State) : (judgeWatchChannel p c (b, s)).2.link = s.link := by
  unfold judgeWatchChannel
  try dsimp only
  (repeat' split) <;> simp

@[simp] theorem judgeWatch_pending (p : Nat) (kind : ReadKind) (s : State) : (judgeWatch p kind s).2.pending = s.pending := by
  rw [judgeWatch_eq]
  generalize List.range' (channelsOf kind).1 (channelsOf kind).2 = l
  generalize false = b
  induction l generalizing s b with
  | nil => rfl
  | cons c l ih =>
    have h := judgeWatchChannel_pending p c b s
    rw [List.foldl_cons]
    generalize judgeWatchChannel p c (b, s) = r at h
    obtain ⟨x, v⟩ := r
    rw [ih]
    exact h

@[simp] theorem judgeWatch_choices (p : Nat) (kind : ReadKind) (s : State) : (judgeWatch p kind s).2.choices = s.choices := by
  rw [judgeWatch_eq]
  generalize List.range' (channelsOf kind).1 (channelsOf kind).2 = l
  generalize false = b
  induction l generalizing s b with
  | nil => rfl
  | cons c l ih =>
    have h := judgeWatchChannel_choices p c b s
    rw [List.foldl_cons]
    generalize judgeWatchChannel p c (b, s) = r at h
    obtain ⟨x, v⟩ := r
    rw [ih]
    exact h

@[simp] theorem judgeWatch_now (p : Nat) (kind : ReadKind) (s : State) : (judgeWatch p kind s).2.now = s.now := by
  rw [judgeWatch_eq]
  generalize List.range' (channelsOf kind).1 (channelsOf kind).2 = l
  generalize false = b
  induction l generalizing s b with
  | nil => rfl
  | cons c l ih =>
    have h := judgeWatchChannel_now p c b s
    rw [List.foldl_cons]
    generalize judgeWatchChannel p c (b, s) = r at h
    obtain ⟨x, v⟩ := r
    rw [ih]
    exact h

@[simp] theorem judgeWatch_tables (p : Nat) (kind : ReadKind) (s : State) : (judgeWatch p kind s).2.tables = s.tables := by
  rw [judgeWatch_eq]
  generalize List.range' (channelsOf kind).1 (channelsOf kind).2 = l
  generalize false = b
  induction l generalizing s b with
  | nil => rfl
  | cons c l ih =>
    have h := judgeWatchChannel_tables p c b s
    rw [List.foldl_cons]
    generalize judgeWatchChannel p c (b, s) = r at h
    obtain ⟨x, v⟩ := r
    rw [ih]
    exact h

@[simp] theorem judgeWatch_update (p : Nat) (kind : ReadKind) (s : State) : (judgeWatch p kind s).2.update = s.update := by
  rw [judgeWatch_eq]
  generalize List.range' (channelsOf kind).1 (channelsOf kind).2 = l
  generalize false = b
  induction l generalizing s b with
  | nil => rfl
  | cons c l ih =>
    have h := judgeWatchChannel_update p c b s
    rw [List.foldl_cons]
    generalize judgeWatchChannel p c (b, s) = r at h
    obtain ⟨x, v⟩ := r
    rw [ih]
    exact h

@[simp] theorem judgeWatch_chain (p : Nat) (kind : ReadKind) (s : State) : (judgeWatch p kind s).2.chain = s.chain := by
  rw [judgeWatch_eq]
  generalize List.range' (channelsOf kind).1 (channelsOf kind).2 = l
  generalize false = b
  induction l generalizing s b with
  | nil => rfl
  | cons c l ih =>
    have h := judgeWatchChannel_chain p c b s
    rw [List.foldl_cons]
    generalize judgeWatchChannel p c (b, s) = r at h
    obtain ⟨x, v⟩ := r
    rw [ih]
    exact h

@[simp] theorem judgeWatch_arbiter (p : Nat) (kind : ReadKind) (s : State) : (judgeWatch p kind s).2.arbiter = s.arbiter := by
  rw [judgeWatch_eq]
  generalize List.range' (channelsOf kind).1 (channelsOf kind).2 = l
  generalize false = b
  induction l generalizing s b with
  | nil => rfl
  | cons c l ih =>
    have h := judgeWatchChannel_arbiter p c b s
    rw [List.foldl_cons]
    generalize judgeWatchChannel p c (b, s) = r at h
    obtain ⟨x, v⟩ := r
    rw [ih]
    exact h

@[simp] theorem judgeWatch_evaluator (p : Nat) (kind : ReadKind) (s : State) : (judgeWatch p kind s).2.evaluator = s.evaluator := by
  rw [judgeWatch_eq]
  generalize List.range' (channelsOf kind).1 (channelsOf kind).2 = l
  generalize false = b
  induction l generalizing s b with
  | nil => rfl
  | cons c l ih =>
    have h := judgeWatchChannel_evaluator p c b s
    rw [List.foldl_cons]
    generalize judgeWatchChannel p c (b, s) = r at h
    obtain ⟨x, v⟩ := r
    rw [ih]
    exact h

@[simp] theorem judgeWatch_link (p : Nat) (kind : ReadKind) (s : State) : (judgeWatch p kind s).2.link = s.link := by
  rw [judgeWatch_eq]
  generalize List.range' (channelsOf kind).1 (channelsOf kind).2 = l
  generalize false = b
  induction l generalizing s b with
  | nil => rfl
  | cons c l ih =>
    have h := judgeWatchChannel_link p c b s
    rw [List.foldl_cons]
    generalize judgeWatchChannel p c (b, s) = r at h
    obtain ⟨x, v⟩ := r
    rw [ih]
    exact h

@[simp] theorem reclassArbiter_pending (s : State) : (reclassArbiter s).pending = s.pending := by
  unfold reclassArbiter
  try dsimp only
  (repeat' split) <;> simp

@[simp] theorem reclassArbiter_choices (s : State) : (reclassArbiter s).choices = s.choices := by
  unfold reclassArbiter
  try dsimp only
  (repeat' split) <;> simp

@[simp] theorem reclassArbiter_now (s : State) : (reclassArbiter s).now = s.now := by
  unfold reclassArbiter
  try dsimp only
  (repeat' split) <;> simp

@[simp] theorem reclassArbiter_tables (s : State) : (reclassArbiter s).tables = s.tables := by
  unfold reclassArbiter
  try dsimp only
  (repeat' split) <;> simp

@[simp] theorem reclassArbiter_update (s : State) : (reclassArbiter s).update = s.update := by
  unfold reclassArbiter
  try dsimp only
  (repeat' split) <;> simp

@[simp] theorem reclassArbiter_sweep (s : State) : (reclassArbiter s).sweep = s.sweep := by
  unfold reclassArbiter
  try dsimp only
  (repeat' split) <;> simp

@[simp] theorem reclassArbiter_chain (s : State) : (reclassArbiter s).chain = s.chain := by
  unfold reclassArbiter
  try dsimp only
  (repeat' split) <;> simp

@[simp] theorem reclassArbiter_evaluator (s : State) : (reclassArbiter s).evaluator = s.evaluator := by
  unfold reclassArbiter
  try dsimp only
  (repeat' split) <;> simp

@[simp] theorem reclassArbiter_protection (s : State) : (reclassArbiter s).protection = s.protection := by
  unfold reclassArbiter
  try dsimp only
  (repeat' split) <;> simp

@[simp] theorem reclassArbiter_sequencer (s : State) : (reclassArbiter s).sequencer = s.sequencer := by
  unfold reclassArbiter
  try dsimp only
  (repeat' split) <;> simp

@[simp] theorem reclassArbiter_capture (s : State) : (reclassArbiter s).capture = s.capture := by
  unfold reclassArbiter
  try dsimp only
  (repeat' split) <;> simp

@[simp] theorem reclassArbiter_power (s : State) : (reclassArbiter s).power = s.power := by
  unfold reclassArbiter
  try dsimp only
  (repeat' split) <;> simp

@[simp] theorem reclassArbiter_link (s : State) : (reclassArbiter s).link = s.link := by
  unfold reclassArbiter
  try dsimp only
  (repeat' split) <;> simp

@[simp] theorem reclassArbiter_notice (s : State) : (reclassArbiter s).notice = s.notice := by
  unfold reclassArbiter
  try dsimp only
  (repeat' split) <;> simp

@[simp] theorem rejudgeChain_pending (s : State) : (rejudgeChain s).pending = s.pending := by
  unfold rejudgeChain
  try dsimp only
  (repeat' split) <;> simp

@[simp] theorem rejudgeChain_choices (s : State) : (rejudgeChain s).choices = s.choices := by
  unfold rejudgeChain
  try dsimp only
  (repeat' split) <;> simp

@[simp] theorem rejudgeChain_now (s : State) : (rejudgeChain s).now = s.now := by
  unfold rejudgeChain
  try dsimp only
  (repeat' split) <;> simp

@[simp] theorem rejudgeChain_tables (s : State) : (rejudgeChain s).tables = s.tables := by
  unfold rejudgeChain
  try dsimp only
  (repeat' split) <;> simp

@[simp] theorem rejudgeChain_update (s : State) : (rejudgeChain s).update = s.update := by
  unfold rejudgeChain
  try dsimp only
  (repeat' split) <;> simp

@[simp] theorem rejudgeChain_sweep (s : State) : (rejudgeChain s).sweep = s.sweep := by
  unfold rejudgeChain
  try dsimp only
  (repeat' split) <;> simp

@[simp] theorem rejudgeChain_arbiter (s : State) : (rejudgeChain s).arbiter = s.arbiter := by
  unfold rejudgeChain
  try dsimp only
  (repeat' split) <;> simp

@[simp] theorem rejudgeChain_evaluator (s : State) : (rejudgeChain s).evaluator = s.evaluator := by
  unfold rejudgeChain
  try dsimp only
  (repeat' split) <;> simp

@[simp] theorem rejudgeChain_protection (s : State) : (rejudgeChain s).protection = s.protection := by
  unfold rejudgeChain
  try dsimp only
  (repeat' split) <;> simp

@[simp] theorem rejudgeChain_sequencer (s : State) : (rejudgeChain s).sequencer = s.sequencer := by
  unfold rejudgeChain
  try dsimp only
  (repeat' split) <;> simp

@[simp] theorem rejudgeChain_capture (s : State) : (rejudgeChain s).capture = s.capture := by
  unfold rejudgeChain
  try dsimp only
  (repeat' split) <;> simp

@[simp] theorem rejudgeChain_power (s : State) : (rejudgeChain s).power = s.power := by
  unfold rejudgeChain
  try dsimp only
  (repeat' split) <;> simp

@[simp] theorem rejudgeChain_link (s : State) : (rejudgeChain s).link = s.link := by
  unfold rejudgeChain
  try dsimp only
  (repeat' split) <;> simp

@[simp] theorem rejudgeChain_notice (s : State) : (rejudgeChain s).notice = s.notice := by
  unfold rejudgeChain
  try dsimp only
  (repeat' split) <;> simp

@[simp] theorem discardStage_pending (s : State) : (discardStage s).pending = s.pending := rfl

@[simp] theorem discardStage_choices (s : State) : (discardStage s).choices = s.choices := rfl

@[simp] theorem discardStage_now (s : State) : (discardStage s).now = s.now := rfl

@[simp] theorem discardStage_tables (s : State) : (discardStage s).tables = s.tables := rfl

@[simp] theorem discardStage_sweep (s : State) : (discardStage s).sweep = s.sweep := rfl

@[simp] theorem discardStage_chain (s : State) : (discardStage s).chain = s.chain := rfl

@[simp] theorem discardStage_arbiter (s : State) : (discardStage s).arbiter = s.arbiter := rfl

@[simp] theorem discardStage_evaluator (s : State) : (discardStage s).evaluator = s.evaluator := rfl

@[simp] theorem discardStage_protection (s : State) : (discardStage s).protection = s.protection := rfl

@[simp] theorem discardStage_sequencer (s : State) : (discardStage s).sequencer = s.sequencer := rfl

@[simp] theorem discardStage_capture (s : State) : (discardStage s).capture = s.capture := rfl

@[simp] theorem discardStage_power (s : State) : (discardStage s).power = s.power := rfl

@[simp] theorem discardStage_link (s : State) : (discardStage s).link = s.link := rfl

@[simp] theorem discardStage_notice (s : State) : (discardStage s).notice = s.notice := rfl

@[simp] theorem setResult_pending (r : UpdateResult) (s : State) : (setResult r s).pending = s.pending := rfl

@[simp] theorem setResult_choices (r : UpdateResult) (s : State) : (setResult r s).choices = s.choices := rfl

@[simp] theorem setResult_now (r : UpdateResult) (s : State) : (setResult r s).now = s.now := rfl

@[simp] theorem setResult_tables (r : UpdateResult) (s : State) : (setResult r s).tables = s.tables := rfl

@[simp] theorem setResult_sweep (r : UpdateResult) (s : State) : (setResult r s).sweep = s.sweep := rfl

@[simp] theorem setResult_chain (r : UpdateResult) (s : State) : (setResult r s).chain = s.chain := rfl

@[simp] theorem setResult_arbiter (r : UpdateResult) (s : State) : (setResult r s).arbiter = s.arbiter := rfl

@[simp] theorem setResult_evaluator (r : UpdateResult) (s : State) : (setResult r s).evaluator = s.evaluator := rfl

@[simp] theorem setResult_protection (r : UpdateResult) (s : State) : (setResult r s).protection = s.protection := rfl

@[simp] theorem setResult_sequencer (r : UpdateResult) (s : State) : (setResult r s).sequencer = s.sequencer := rfl

@[simp] theorem setResult_capture (r : UpdateResult) (s : State) : (setResult r s).capture = s.capture := rfl

@[simp] theorem setResult_power (r : UpdateResult) (s : State) : (setResult r s).power = s.power := rfl

@[simp] theorem setResult_link (r : UpdateResult) (s : State) : (setResult r s).link = s.link := rfl

@[simp] theorem setResult_notice (r : UpdateResult) (s : State) : (setResult r s).notice = s.notice := rfl

@[simp] theorem swapImage_pending (s : State) : (swapImage s).pending = s.pending := by
  unfold swapImage
  try dsimp only
  (repeat' split) <;> simp

@[simp] theorem swapImage_choices (s : State) : (swapImage s).choices = s.choices := by
  unfold swapImage
  try dsimp only
  (repeat' split) <;> simp

@[simp] theorem swapImage_now (s : State) : (swapImage s).now = s.now := by
  unfold swapImage
  try dsimp only
  (repeat' split) <;> simp

@[simp] theorem swapImage_protection (s : State) : (swapImage s).protection = s.protection := by
  unfold swapImage
  try dsimp only
  (repeat' split) <;> simp

@[simp] theorem swapImage_sequencer (s : State) : (swapImage s).sequencer = s.sequencer := by
  unfold swapImage
  try dsimp only
  (repeat' split) <;> simp

@[simp] theorem swapImage_capture (s : State) : (swapImage s).capture = s.capture := by
  unfold swapImage
  try dsimp only
  (repeat' split) <;> simp

@[simp] theorem swapImage_power (s : State) : (swapImage s).power = s.power := by
  unfold swapImage
  try dsimp only
  (repeat' split) <;> simp

@[simp] theorem swapImage_link (s : State) : (swapImage s).link = s.link := by
  unfold swapImage
  try dsimp only
  (repeat' split) <;> simp

@[simp] theorem applyProfile_pending (s : State) : (applyProfile s).pending = s.pending := by
  unfold applyProfile
  try dsimp only
  (repeat' split) <;> simp

@[simp] theorem applyProfile_choices (s : State) : (applyProfile s).choices = s.choices := by
  unfold applyProfile
  try dsimp only
  (repeat' split) <;> simp

@[simp] theorem applyProfile_now (s : State) : (applyProfile s).now = s.now := by
  unfold applyProfile
  try dsimp only
  (repeat' split) <;> simp

@[simp] theorem applyProfile_tables (s : State) : (applyProfile s).tables = s.tables := by
  unfold applyProfile
  try dsimp only
  (repeat' split) <;> simp

@[simp] theorem applyProfile_update (s : State) : (applyProfile s).update = s.update := by
  unfold applyProfile
  try dsimp only
  (repeat' split) <;> simp

@[simp] theorem applyProfile_sweep (s : State) : (applyProfile s).sweep = s.sweep := by
  unfold applyProfile
  try dsimp only
  (repeat' split) <;> simp

@[simp] theorem applyProfile_chain (s : State) : (applyProfile s).chain = s.chain := by
  unfold applyProfile
  try dsimp only
  (repeat' split) <;> simp

@[simp] theorem applyProfile_arbiter (s : State) : (applyProfile s).arbiter = s.arbiter := by
  unfold applyProfile
  try dsimp only
  (repeat' split) <;> simp

@[simp] theorem applyProfile_protection (s : State) : (applyProfile s).protection = s.protection := by
  unfold applyProfile
  try dsimp only
  (repeat' split) <;> simp

@[simp] theorem applyProfile_sequencer (s : State) : (applyProfile s).sequencer = s.sequencer := by
  unfold applyProfile
  try dsimp only
  (repeat' split) <;> simp

@[simp] theorem applyProfile_capture (s : State) : (applyProfile s).capture = s.capture := by
  unfold applyProfile
  try dsimp only
  (repeat' split) <;> simp

@[simp] theorem applyProfile_power (s : State) : (applyProfile s).power = s.power := by
  unfold applyProfile
  try dsimp only
  (repeat' split) <;> simp

@[simp] theorem applyProfile_link (s : State) : (applyProfile s).link = s.link := by
  unfold applyProfile
  try dsimp only
  (repeat' split) <;> simp

@[simp] theorem applyProfile_notice (s : State) : (applyProfile s).notice = s.notice := by
  unfold applyProfile
  try dsimp only
  (repeat' split) <;> simp

@[simp] theorem applyPending_pending (s : State) : (applyPending s).pending = s.pending := by
  unfold applyPending
  try dsimp only
  simp

@[simp] theorem applyPending_choices (s : State) : (applyPending s).choices = s.choices := by
  unfold applyPending
  try dsimp only
  simp

@[simp] theorem applyPending_now (s : State) : (applyPending s).now = s.now := by
  unfold applyPending
  try dsimp only
  simp

@[simp] theorem applyPending_protection (s : State) : (applyPending s).protection = s.protection := by
  unfold applyPending
  try dsimp only
  simp

@[simp] theorem applyPending_sequencer (s : State) : (applyPending s).sequencer = s.sequencer := by
  unfold applyPending
  try dsimp only
  simp

@[simp] theorem applyPending_capture (s : State) : (applyPending s).capture = s.capture := by
  unfold applyPending
  try dsimp only
  simp

@[simp] theorem applyPending_power (s : State) : (applyPending s).power = s.power := by
  unfold applyPending
  try dsimp only
  simp

@[simp] theorem applyPending_link (s : State) : (applyPending s).link = s.link := by
  unfold applyPending
  try dsimp only
  simp

@[simp] theorem convertDue_pending (i : Nat) (s : State) : (convertDue i s).pending = s.pending := by
  unfold convertDue
  try dsimp only
  (repeat' split) <;> simp

@[simp] theorem convertDue_choices (i : Nat) (s : State) : (convertDue i s).choices = s.choices := by
  unfold convertDue
  try dsimp only
  (repeat' split) <;> simp

@[simp] theorem convertDue_now (i : Nat) (s : State) : (convertDue i s).now = s.now := by
  unfold convertDue
  try dsimp only
  (repeat' split) <;> simp

@[simp] theorem convertDue_tables (i : Nat) (s : State) : (convertDue i s).tables = s.tables := by
  unfold convertDue
  try dsimp only
  (repeat' split) <;> simp

@[simp] theorem convertDue_update (i : Nat) (s : State) : (convertDue i s).update = s.update := by
  unfold convertDue
  try dsimp only
  (repeat' split) <;> simp

@[simp] theorem convertDue_chain (i : Nat) (s : State) : (convertDue i s).chain = s.chain := by
  unfold convertDue
  try dsimp only
  (repeat' split) <;> simp

@[simp] theorem convertDue_arbiter (i : Nat) (s : State) : (convertDue i s).arbiter = s.arbiter := by
  unfold convertDue
  try dsimp only
  (repeat' split) <;> simp

@[simp] theorem convertDue_evaluator (i : Nat) (s : State) : (convertDue i s).evaluator = s.evaluator := by
  unfold convertDue
  try dsimp only
  (repeat' split) <;> simp

@[simp] theorem convertDue_protection (i : Nat) (s : State) : (convertDue i s).protection = s.protection := by
  unfold convertDue
  try dsimp only
  (repeat' split) <;> simp

@[simp] theorem convertDue_sequencer (i : Nat) (s : State) : (convertDue i s).sequencer = s.sequencer := by
  unfold convertDue
  try dsimp only
  (repeat' split) <;> simp

@[simp] theorem convertDue_capture (i : Nat) (s : State) : (convertDue i s).capture = s.capture := by
  unfold convertDue
  try dsimp only
  (repeat' split) <;> simp

@[simp] theorem convertDue_power (i : Nat) (s : State) : (convertDue i s).power = s.power := by
  unfold convertDue
  try dsimp only
  (repeat' split) <;> simp

@[simp] theorem convertDue_link (i : Nat) (s : State) : (convertDue i s).link = s.link := by
  unfold convertDue
  try dsimp only
  (repeat' split) <;> simp

@[simp] theorem convertDue_notice (i : Nat) (s : State) : (convertDue i s).notice = s.notice := by
  unfold convertDue
  try dsimp only
  (repeat' split) <;> simp

@[simp] theorem addRead_pending (e : ReadEntry) (s : State) : (addRead s e).pending = s.pending := by
  unfold addRead
  try dsimp only
  (repeat' split) <;> simp

@[simp] theorem addRead_choices (e : ReadEntry) (s : State) : (addRead s e).choices = s.choices := by
  unfold addRead
  try dsimp only
  (repeat' split) <;> simp

@[simp] theorem addRead_now (e : ReadEntry) (s : State) : (addRead s e).now = s.now := by
  unfold addRead
  try dsimp only
  (repeat' split) <;> simp

@[simp] theorem addRead_tables (e : ReadEntry) (s : State) : (addRead s e).tables = s.tables := by
  unfold addRead
  try dsimp only
  (repeat' split) <;> simp

@[simp] theorem addRead_update (e : ReadEntry) (s : State) : (addRead s e).update = s.update := by
  unfold addRead
  try dsimp only
  (repeat' split) <;> simp

@[simp] theorem addRead_chain (e : ReadEntry) (s : State) : (addRead s e).chain = s.chain := by
  unfold addRead
  try dsimp only
  (repeat' split) <;> simp

@[simp] theorem addRead_arbiter (e : ReadEntry) (s : State) : (addRead s e).arbiter = s.arbiter := by
  unfold addRead
  try dsimp only
  (repeat' split) <;> simp

@[simp] theorem addRead_evaluator (e : ReadEntry) (s : State) : (addRead s e).evaluator = s.evaluator := by
  unfold addRead
  try dsimp only
  (repeat' split) <;> simp

@[simp] theorem addRead_protection (e : ReadEntry) (s : State) : (addRead s e).protection = s.protection := by
  unfold addRead
  try dsimp only
  (repeat' split) <;> simp

@[simp] theorem addRead_sequencer (e : ReadEntry) (s : State) : (addRead s e).sequencer = s.sequencer := by
  unfold addRead
  try dsimp only
  (repeat' split) <;> simp

@[simp] theorem addRead_capture (e : ReadEntry) (s : State) : (addRead s e).capture = s.capture := by
  unfold addRead
  try dsimp only
  (repeat' split) <;> simp

@[simp] theorem addRead_power (e : ReadEntry) (s : State) : (addRead s e).power = s.power := by
  unfold addRead
  try dsimp only
  (repeat' split) <;> simp

@[simp] theorem addRead_link (e : ReadEntry) (s : State) : (addRead s e).link = s.link := by
  unfold addRead
  try dsimp only
  (repeat' split) <;> simp

@[simp] theorem addRead_notice (e : ReadEntry) (s : State) : (addRead s e).notice = s.notice := by
  unfold addRead
  try dsimp only
  (repeat' split) <;> simp

@[simp] theorem senseDue_pending (s : State) : (senseDue s).pending = s.pending := by
  unfold senseDue
  try dsimp only
  (repeat' split) <;> simp

@[simp] theorem senseDue_choices (s : State) : (senseDue s).choices = s.choices := by
  unfold senseDue
  try dsimp only
  (repeat' split) <;> simp

@[simp] theorem senseDue_now (s : State) : (senseDue s).now = s.now := by
  unfold senseDue
  try dsimp only
  (repeat' split) <;> simp

@[simp] theorem senseDue_tables (s : State) : (senseDue s).tables = s.tables := by
  unfold senseDue
  try dsimp only
  (repeat' split) <;> simp

@[simp] theorem senseDue_update (s : State) : (senseDue s).update = s.update := by
  unfold senseDue
  try dsimp only
  (repeat' split) <;> simp

@[simp] theorem senseDue_chain (s : State) : (senseDue s).chain = s.chain := by
  unfold senseDue
  try dsimp only
  (repeat' split) <;> simp

@[simp] theorem senseDue_arbiter (s : State) : (senseDue s).arbiter = s.arbiter := by
  unfold senseDue
  try dsimp only
  (repeat' split) <;> simp

@[simp] theorem senseDue_evaluator (s : State) : (senseDue s).evaluator = s.evaluator := by
  unfold senseDue
  try dsimp only
  (repeat' split) <;> simp

@[simp] theorem senseDue_protection (s : State) : (senseDue s).protection = s.protection := by
  unfold senseDue
  try dsimp only
  (repeat' split) <;> simp

@[simp] theorem senseDue_sequencer (s : State) : (senseDue s).sequencer = s.sequencer := by
  unfold senseDue
  try dsimp only
  (repeat' split) <;> simp

@[simp] theorem senseDue_capture (s : State) : (senseDue s).capture = s.capture := by
  unfold senseDue
  try dsimp only
  (repeat' split) <;> simp

@[simp] theorem senseDue_power (s : State) : (senseDue s).power = s.power := by
  unfold senseDue
  try dsimp only
  (repeat' split) <;> simp

@[simp] theorem senseDue_link (s : State) : (senseDue s).link = s.link := by
  unfold senseDue
  try dsimp only
  (repeat' split) <;> simp

@[simp] theorem senseDue_notice (s : State) : (senseDue s).notice = s.notice := by
  unfold senseDue
  try dsimp only
  (repeat' split) <;> simp

@[simp] theorem foldReads_pending (l : List ReadEntry) (s : State) : (l.foldl addRead s).pending = s.pending := by
  induction l generalizing s with
  | nil => rfl
  | cons e l ih => simp [ih]

@[simp] theorem foldReads_choices (l : List ReadEntry) (s : State) : (l.foldl addRead s).choices = s.choices := by
  induction l generalizing s with
  | nil => rfl
  | cons e l ih => simp [ih]

@[simp] theorem foldReads_now (l : List ReadEntry) (s : State) : (l.foldl addRead s).now = s.now := by
  induction l generalizing s with
  | nil => rfl
  | cons e l ih => simp [ih]

@[simp] theorem foldReads_tables (l : List ReadEntry) (s : State) : (l.foldl addRead s).tables = s.tables := by
  induction l generalizing s with
  | nil => rfl
  | cons e l ih => simp [ih]

@[simp] theorem foldReads_update (l : List ReadEntry) (s : State) : (l.foldl addRead s).update = s.update := by
  induction l generalizing s with
  | nil => rfl
  | cons e l ih => simp [ih]

@[simp] theorem foldReads_chain (l : List ReadEntry) (s : State) : (l.foldl addRead s).chain = s.chain := by
  induction l generalizing s with
  | nil => rfl
  | cons e l ih => simp [ih]

@[simp] theorem foldReads_arbiter (l : List ReadEntry) (s : State) : (l.foldl addRead s).arbiter = s.arbiter := by
  induction l generalizing s with
  | nil => rfl
  | cons e l ih => simp [ih]

@[simp] theorem foldReads_evaluator (l : List ReadEntry) (s : State) : (l.foldl addRead s).evaluator = s.evaluator := by
  induction l generalizing s with
  | nil => rfl
  | cons e l ih => simp [ih]

@[simp] theorem foldReads_protection (l : List ReadEntry) (s : State) : (l.foldl addRead s).protection = s.protection := by
  induction l generalizing s with
  | nil => rfl
  | cons e l ih => simp [ih]

@[simp] theorem foldReads_sequencer (l : List ReadEntry) (s : State) : (l.foldl addRead s).sequencer = s.sequencer := by
  induction l generalizing s with
  | nil => rfl
  | cons e l ih => simp [ih]

@[simp] theorem foldReads_capture (l : List ReadEntry) (s : State) : (l.foldl addRead s).capture = s.capture := by
  induction l generalizing s with
  | nil => rfl
  | cons e l ih => simp [ih]

@[simp] theorem foldReads_power (l : List ReadEntry) (s : State) : (l.foldl addRead s).power = s.power := by
  induction l generalizing s with
  | nil => rfl
  | cons e l ih => simp [ih]

@[simp] theorem foldReads_link (l : List ReadEntry) (s : State) : (l.foldl addRead s).link = s.link := by
  induction l generalizing s with
  | nil => rfl
  | cons e l ih => simp [ih]

@[simp] theorem foldReads_notice (l : List ReadEntry) (s : State) : (l.foldl addRead s).notice = s.notice := by
  induction l generalizing s with
  | nil => rfl
  | cons e l ih => simp [ih]

@[simp] theorem readDue_pending (i : Nat) (g : SweepSlot) (kind : ReadKind) (s : State) : (readDue i g kind s).pending = s.pending := by
  unfold readDue
  dsimp only
  rw [← List.foldl_map (f := fun p => ReadEntry.mk p kind) (g := addRead)]
  split <;> simp

@[simp] theorem readDue_choices (i : Nat) (g : SweepSlot) (kind : ReadKind) (s : State) : (readDue i g kind s).choices = s.choices := by
  unfold readDue
  dsimp only
  rw [← List.foldl_map (f := fun p => ReadEntry.mk p kind) (g := addRead)]
  split <;> simp

@[simp] theorem readDue_now (i : Nat) (g : SweepSlot) (kind : ReadKind) (s : State) : (readDue i g kind s).now = s.now := by
  unfold readDue
  dsimp only
  rw [← List.foldl_map (f := fun p => ReadEntry.mk p kind) (g := addRead)]
  split <;> simp

@[simp] theorem readDue_tables (i : Nat) (g : SweepSlot) (kind : ReadKind) (s : State) : (readDue i g kind s).tables = s.tables := by
  unfold readDue
  dsimp only
  rw [← List.foldl_map (f := fun p => ReadEntry.mk p kind) (g := addRead)]
  split <;> simp

@[simp] theorem readDue_update (i : Nat) (g : SweepSlot) (kind : ReadKind) (s : State) : (readDue i g kind s).update = s.update := by
  unfold readDue
  dsimp only
  rw [← List.foldl_map (f := fun p => ReadEntry.mk p kind) (g := addRead)]
  split <;> simp

@[simp] theorem readDue_chain (i : Nat) (g : SweepSlot) (kind : ReadKind) (s : State) : (readDue i g kind s).chain = s.chain := by
  unfold readDue
  dsimp only
  rw [← List.foldl_map (f := fun p => ReadEntry.mk p kind) (g := addRead)]
  split <;> simp

@[simp] theorem readDue_arbiter (i : Nat) (g : SweepSlot) (kind : ReadKind) (s : State) : (readDue i g kind s).arbiter = s.arbiter := by
  unfold readDue
  dsimp only
  rw [← List.foldl_map (f := fun p => ReadEntry.mk p kind) (g := addRead)]
  split <;> simp

@[simp] theorem readDue_evaluator (i : Nat) (g : SweepSlot) (kind : ReadKind) (s : State) : (readDue i g kind s).evaluator = s.evaluator := by
  unfold readDue
  dsimp only
  rw [← List.foldl_map (f := fun p => ReadEntry.mk p kind) (g := addRead)]
  split <;> simp

@[simp] theorem readDue_protection (i : Nat) (g : SweepSlot) (kind : ReadKind) (s : State) : (readDue i g kind s).protection = s.protection := by
  unfold readDue
  dsimp only
  rw [← List.foldl_map (f := fun p => ReadEntry.mk p kind) (g := addRead)]
  split <;> simp

@[simp] theorem readDue_sequencer (i : Nat) (g : SweepSlot) (kind : ReadKind) (s : State) : (readDue i g kind s).sequencer = s.sequencer := by
  unfold readDue
  dsimp only
  rw [← List.foldl_map (f := fun p => ReadEntry.mk p kind) (g := addRead)]
  split <;> simp

@[simp] theorem readDue_capture (i : Nat) (g : SweepSlot) (kind : ReadKind) (s : State) : (readDue i g kind s).capture = s.capture := by
  unfold readDue
  dsimp only
  rw [← List.foldl_map (f := fun p => ReadEntry.mk p kind) (g := addRead)]
  split <;> simp

@[simp] theorem readDue_power (i : Nat) (g : SweepSlot) (kind : ReadKind) (s : State) : (readDue i g kind s).power = s.power := by
  unfold readDue
  dsimp only
  rw [← List.foldl_map (f := fun p => ReadEntry.mk p kind) (g := addRead)]
  split <;> simp

@[simp] theorem readDue_link (i : Nat) (g : SweepSlot) (kind : ReadKind) (s : State) : (readDue i g kind s).link = s.link := by
  unfold readDue
  dsimp only
  rw [← List.foldl_map (f := fun p => ReadEntry.mk p kind) (g := addRead)]
  split <;> simp

@[simp] theorem readDue_notice (i : Nat) (g : SweepSlot) (kind : ReadKind) (s : State) : (readDue i g kind s).notice = s.notice := by
  unfold readDue
  dsimp only
  rw [← List.foldl_map (f := fun p => ReadEntry.mk p kind) (g := addRead)]
  split <;> simp

@[simp] theorem deferSlot_pending (i : Nat) (s : State) : (deferSlot i s).pending = s.pending := rfl

@[simp] theorem deferSlot_choices (i : Nat) (s : State) : (deferSlot i s).choices = s.choices := rfl

@[simp] theorem deferSlot_now (i : Nat) (s : State) : (deferSlot i s).now = s.now := rfl

@[simp] theorem deferSlot_tables (i : Nat) (s : State) : (deferSlot i s).tables = s.tables := rfl

@[simp] theorem deferSlot_update (i : Nat) (s : State) : (deferSlot i s).update = s.update := rfl

@[simp] theorem deferSlot_chain (i : Nat) (s : State) : (deferSlot i s).chain = s.chain := rfl

@[simp] theorem deferSlot_arbiter (i : Nat) (s : State) : (deferSlot i s).arbiter = s.arbiter := rfl

@[simp] theorem deferSlot_evaluator (i : Nat) (s : State) : (deferSlot i s).evaluator = s.evaluator := rfl

@[simp] theorem deferSlot_protection (i : Nat) (s : State) : (deferSlot i s).protection = s.protection := rfl

@[simp] theorem deferSlot_sequencer (i : Nat) (s : State) : (deferSlot i s).sequencer = s.sequencer := rfl

@[simp] theorem deferSlot_capture (i : Nat) (s : State) : (deferSlot i s).capture = s.capture := rfl

@[simp] theorem deferSlot_power (i : Nat) (s : State) : (deferSlot i s).power = s.power := rfl

@[simp] theorem deferSlot_link (i : Nat) (s : State) : (deferSlot i s).link = s.link := rfl

@[simp] theorem deferSlot_notice (i : Nat) (s : State) : (deferSlot i s).notice = s.notice := rfl

@[simp] theorem actSlot_pending (i : Nat) (s : State) : (actSlot i s).pending = s.pending := by
  unfold actSlot
  try dsimp only
  (repeat' split) <;> simp

@[simp] theorem actSlot_choices (i : Nat) (s : State) : (actSlot i s).choices = s.choices := by
  unfold actSlot
  try dsimp only
  (repeat' split) <;> simp

@[simp] theorem actSlot_now (i : Nat) (s : State) : (actSlot i s).now = s.now := by
  unfold actSlot
  try dsimp only
  (repeat' split) <;> simp

@[simp] theorem actSlot_tables (i : Nat) (s : State) : (actSlot i s).tables = s.tables := by
  unfold actSlot
  try dsimp only
  (repeat' split) <;> simp

@[simp] theorem actSlot_update (i : Nat) (s : State) : (actSlot i s).update = s.update := by
  unfold actSlot
  try dsimp only
  (repeat' split) <;> simp

@[simp] theorem actSlot_chain (i : Nat) (s : State) : (actSlot i s).chain = s.chain := by
  unfold actSlot
  try dsimp only
  (repeat' split) <;> simp

@[simp] theorem actSlot_arbiter (i : Nat) (s : State) : (actSlot i s).arbiter = s.arbiter := by
  unfold actSlot
  try dsimp only
  (repeat' split) <;> simp

@[simp] theorem actSlot_evaluator (i : Nat) (s : State) : (actSlot i s).evaluator = s.evaluator := by
  unfold actSlot
  try dsimp only
  (repeat' split) <;> simp

@[simp] theorem actSlot_protection (i : Nat) (s : State) : (actSlot i s).protection = s.protection := by
  unfold actSlot
  try dsimp only
  (repeat' split) <;> simp

@[simp] theorem actSlot_sequencer (i : Nat) (s : State) : (actSlot i s).sequencer = s.sequencer := by
  unfold actSlot
  try dsimp only
  (repeat' split) <;> simp

@[simp] theorem actSlot_capture (i : Nat) (s : State) : (actSlot i s).capture = s.capture := by
  unfold actSlot
  try dsimp only
  (repeat' split) <;> simp

@[simp] theorem actSlot_power (i : Nat) (s : State) : (actSlot i s).power = s.power := by
  unfold actSlot
  try dsimp only
  (repeat' split) <;> simp

@[simp] theorem actSlot_link (i : Nat) (s : State) : (actSlot i s).link = s.link := by
  unfold actSlot
  try dsimp only
  (repeat' split) <;> simp

@[simp] theorem actSlot_notice (i : Nat) (s : State) : (actSlot i s).notice = s.notice := by
  unfold actSlot
  try dsimp only
  (repeat' split) <;> simp

@[simp] theorem passSlot_pending (s : State) : (passSlot s).pending = s.pending := by
  unfold passSlot
  try dsimp only
  (repeat' split) <;> simp

@[simp] theorem passSlot_choices (s : State) : (passSlot s).choices = s.choices := by
  unfold passSlot
  try dsimp only
  (repeat' split) <;> simp

@[simp] theorem passSlot_now (s : State) : (passSlot s).now = s.now := by
  unfold passSlot
  try dsimp only
  (repeat' split) <;> simp

@[simp] theorem passSlot_tables (s : State) : (passSlot s).tables = s.tables := by
  unfold passSlot
  try dsimp only
  (repeat' split) <;> simp

@[simp] theorem passSlot_update (s : State) : (passSlot s).update = s.update := by
  unfold passSlot
  try dsimp only
  (repeat' split) <;> simp

@[simp] theorem passSlot_chain (s : State) : (passSlot s).chain = s.chain := by
  unfold passSlot
  try dsimp only
  (repeat' split) <;> simp

@[simp] theorem passSlot_arbiter (s : State) : (passSlot s).arbiter = s.arbiter := by
  unfold passSlot
  try dsimp only
  (repeat' split) <;> simp

@[simp] theorem passSlot_evaluator (s : State) : (passSlot s).evaluator = s.evaluator := by
  unfold passSlot
  try dsimp only
  (repeat' split) <;> simp

@[simp] theorem passSlot_protection (s : State) : (passSlot s).protection = s.protection := by
  unfold passSlot
  try dsimp only
  (repeat' split) <;> simp

@[simp] theorem passSlot_sequencer (s : State) : (passSlot s).sequencer = s.sequencer := by
  unfold passSlot
  try dsimp only
  (repeat' split) <;> simp

@[simp] theorem passSlot_capture (s : State) : (passSlot s).capture = s.capture := by
  unfold passSlot
  try dsimp only
  (repeat' split) <;> simp

@[simp] theorem passSlot_power (s : State) : (passSlot s).power = s.power := by
  unfold passSlot
  try dsimp only
  (repeat' split) <;> simp

@[simp] theorem passSlot_link (s : State) : (passSlot s).link = s.link := by
  unfold passSlot
  try dsimp only
  (repeat' split) <;> simp

@[simp] theorem passSlot_notice (s : State) : (passSlot s).notice = s.notice := by
  unfold passSlot
  try dsimp only
  (repeat' split) <;> simp

@[simp] theorem actDeferred_pending (i : Nat) (s : State) : (actDeferred s i).pending = s.pending := by
  unfold actDeferred
  try dsimp only
  (repeat' split) <;> simp

@[simp] theorem actDeferred_choices (i : Nat) (s : State) : (actDeferred s i).choices = s.choices := by
  unfold actDeferred
  try dsimp only
  (repeat' split) <;> simp

@[simp] theorem actDeferred_now (i : Nat) (s : State) : (actDeferred s i).now = s.now := by
  unfold actDeferred
  try dsimp only
  (repeat' split) <;> simp

@[simp] theorem actDeferred_tables (i : Nat) (s : State) : (actDeferred s i).tables = s.tables := by
  unfold actDeferred
  try dsimp only
  (repeat' split) <;> simp

@[simp] theorem actDeferred_update (i : Nat) (s : State) : (actDeferred s i).update = s.update := by
  unfold actDeferred
  try dsimp only
  (repeat' split) <;> simp

@[simp] theorem actDeferred_chain (i : Nat) (s : State) : (actDeferred s i).chain = s.chain := by
  unfold actDeferred
  try dsimp only
  (repeat' split) <;> simp

@[simp] theorem actDeferred_arbiter (i : Nat) (s : State) : (actDeferred s i).arbiter = s.arbiter := by
  unfold actDeferred
  try dsimp only
  (repeat' split) <;> simp

@[simp] theorem actDeferred_evaluator (i : Nat) (s : State) : (actDeferred s i).evaluator = s.evaluator := by
  unfold actDeferred
  try dsimp only
  (repeat' split) <;> simp

@[simp] theorem actDeferred_protection (i : Nat) (s : State) : (actDeferred s i).protection = s.protection := by
  unfold actDeferred
  try dsimp only
  (repeat' split) <;> simp

@[simp] theorem actDeferred_sequencer (i : Nat) (s : State) : (actDeferred s i).sequencer = s.sequencer := by
  unfold actDeferred
  try dsimp only
  (repeat' split) <;> simp

@[simp] theorem actDeferred_capture (i : Nat) (s : State) : (actDeferred s i).capture = s.capture := by
  unfold actDeferred
  try dsimp only
  (repeat' split) <;> simp

@[simp] theorem actDeferred_power (i : Nat) (s : State) : (actDeferred s i).power = s.power := by
  unfold actDeferred
  try dsimp only
  (repeat' split) <;> simp

@[simp] theorem actDeferred_link (i : Nat) (s : State) : (actDeferred s i).link = s.link := by
  unfold actDeferred
  try dsimp only
  (repeat' split) <;> simp

@[simp] theorem actDeferred_notice (i : Nat) (s : State) : (actDeferred s i).notice = s.notice := by
  unfold actDeferred
  try dsimp only
  (repeat' split) <;> simp

@[simp] theorem readyTriggers_pending (s : State) : (readyTriggers s).pending = s.pending := by
  unfold readyTriggers
  try dsimp only
  (repeat' split) <;> simp

@[simp] theorem readyTriggers_choices (s : State) : (readyTriggers s).choices = s.choices := by
  unfold readyTriggers
  try dsimp only
  (repeat' split) <;> simp

@[simp] theorem readyTriggers_now (s : State) : (readyTriggers s).now = s.now := by
  unfold readyTriggers
  try dsimp only
  (repeat' split) <;> simp

@[simp] theorem readyTriggers_tables (s : State) : (readyTriggers s).tables = s.tables := by
  unfold readyTriggers
  try dsimp only
  (repeat' split) <;> simp

@[simp] theorem readyTriggers_update (s : State) : (readyTriggers s).update = s.update := by
  unfold readyTriggers
  try dsimp only
  (repeat' split) <;> simp

@[simp] theorem readyTriggers_chain (s : State) : (readyTriggers s).chain = s.chain := by
  unfold readyTriggers
  try dsimp only
  (repeat' split) <;> simp

@[simp] theorem readyTriggers_arbiter (s : State) : (readyTriggers s).arbiter = s.arbiter := by
  unfold readyTriggers
  try dsimp only
  (repeat' split) <;> simp

@[simp] theorem readyTriggers_evaluator (s : State) : (readyTriggers s).evaluator = s.evaluator := by
  unfold readyTriggers
  try dsimp only
  (repeat' split) <;> simp

@[simp] theorem readyTriggers_protection (s : State) : (readyTriggers s).protection = s.protection := by
  unfold readyTriggers
  try dsimp only
  (repeat' split) <;> simp

@[simp] theorem readyTriggers_sequencer (s : State) : (readyTriggers s).sequencer = s.sequencer := by
  unfold readyTriggers
  try dsimp only
  (repeat' split) <;> simp

@[simp] theorem readyTriggers_capture (s : State) : (readyTriggers s).capture = s.capture := by
  unfold readyTriggers
  try dsimp only
  (repeat' split) <;> simp

@[simp] theorem readyTriggers_power (s : State) : (readyTriggers s).power = s.power := by
  unfold readyTriggers
  try dsimp only
  (repeat' split) <;> simp

@[simp] theorem readyTriggers_link (s : State) : (readyTriggers s).link = s.link := by
  unfold readyTriggers
  try dsimp only
  (repeat' split) <;> simp

@[simp] theorem readyTriggers_notice (s : State) : (readyTriggers s).notice = s.notice := by
  unfold readyTriggers
  try dsimp only
  (repeat' split) <;> simp

@[simp] theorem takeSweepWork_pending (w : SweepWork) (s : State) : (takeSweepWork w s).pending = s.pending := by
  unfold takeSweepWork
  try dsimp only
  (repeat' split) <;> simp

@[simp] theorem takeSweepWork_choices (w : SweepWork) (s : State) : (takeSweepWork w s).choices = s.choices := by
  unfold takeSweepWork
  try dsimp only
  (repeat' split) <;> simp

@[simp] theorem takeSweepWork_now (w : SweepWork) (s : State) : (takeSweepWork w s).now = s.now := by
  unfold takeSweepWork
  try dsimp only
  (repeat' split) <;> simp

@[simp] theorem takeSweepWork_tables (w : SweepWork) (s : State) : (takeSweepWork w s).tables = s.tables := by
  unfold takeSweepWork
  try dsimp only
  (repeat' split) <;> simp

@[simp] theorem takeSweepWork_update (w : SweepWork) (s : State) : (takeSweepWork w s).update = s.update := by
  unfold takeSweepWork
  try dsimp only
  (repeat' split) <;> simp

@[simp] theorem takeSweepWork_chain (w : SweepWork) (s : State) : (takeSweepWork w s).chain = s.chain := by
  unfold takeSweepWork
  try dsimp only
  (repeat' split) <;> simp

@[simp] theorem takeSweepWork_arbiter (w : SweepWork) (s : State) : (takeSweepWork w s).arbiter = s.arbiter := by
  unfold takeSweepWork
  try dsimp only
  (repeat' split) <;> simp

@[simp] theorem takeSweepWork_evaluator (w : SweepWork) (s : State) : (takeSweepWork w s).evaluator = s.evaluator := by
  unfold takeSweepWork
  try dsimp only
  (repeat' split) <;> simp

@[simp] theorem takeSweepWork_protection (w : SweepWork) (s : State) : (takeSweepWork w s).protection = s.protection := by
  unfold takeSweepWork
  try dsimp only
  (repeat' split) <;> simp

@[simp] theorem takeSweepWork_sequencer (w : SweepWork) (s : State) : (takeSweepWork w s).sequencer = s.sequencer := by
  unfold takeSweepWork
  try dsimp only
  (repeat' split) <;> simp

@[simp] theorem takeSweepWork_capture (w : SweepWork) (s : State) : (takeSweepWork w s).capture = s.capture := by
  unfold takeSweepWork
  try dsimp only
  (repeat' split) <;> simp

@[simp] theorem takeSweepWork_power (w : SweepWork) (s : State) : (takeSweepWork w s).power = s.power := by
  unfold takeSweepWork
  try dsimp only
  (repeat' split) <;> simp

@[simp] theorem takeSweepWork_link (w : SweepWork) (s : State) : (takeSweepWork w s).link = s.link := by
  unfold takeSweepWork
  try dsimp only
  (repeat' split) <;> simp

@[simp] theorem takeSweepWork_notice (w : SweepWork) (s : State) : (takeSweepWork w s).notice = s.notice := by
  unfold takeSweepWork
  try dsimp only
  (repeat' split) <;> simp

@[simp] theorem pendingThenOffer_pending (s : State) : (pendingThenOffer s).pending = s.pending := by
  unfold pendingThenOffer
  dsimp only
  have h := takeChoice_pending s
  (repeat' split) <;> simp_all

@[simp] theorem pendingThenOffer_now (s : State) : (pendingThenOffer s).now = s.now := by
  unfold pendingThenOffer
  dsimp only
  have h := takeChoice_now s
  (repeat' split) <;> simp_all

@[simp] theorem pendingThenOffer_protection (s : State) : (pendingThenOffer s).protection = s.protection := by
  unfold pendingThenOffer
  dsimp only
  have h := takeChoice_protection s
  (repeat' split) <;> simp_all

@[simp] theorem pendingThenOffer_power (s : State) : (pendingThenOffer s).power = s.power := by
  unfold pendingThenOffer
  dsimp only
  have h := takeChoice_power s
  (repeat' split) <;> simp_all

@[simp] theorem pendingThenOffer_link (s : State) : (pendingThenOffer s).link = s.link := by
  unfold pendingThenOffer
  dsimp only
  have h := takeChoice_link s
  (repeat' split) <;> simp_all

@[simp] theorem atBoundary_pending (s : State) : (atBoundary s).pending = s.pending := by
  unfold atBoundary; split <;> simp

@[simp] theorem atBoundary_now (s : State) : (atBoundary s).now = s.now := by
  unfold atBoundary; split <;> simp

@[simp] theorem atBoundary_protection (s : State) : (atBoundary s).protection = s.protection := by
  unfold atBoundary; split <;> simp

@[simp] theorem atBoundary_power (s : State) : (atBoundary s).power = s.power := by
  unfold atBoundary; split <;> simp

@[simp] theorem atBoundary_link (s : State) : (atBoundary s).link = s.link := by
  unfold atBoundary; split <;> simp

@[simp] theorem enterStopped_pending (s : State) : (enterStopped s).pending = s.pending := by
  unfold enterStopped
  try dsimp only
  simp

@[simp] theorem enterStopped_now (s : State) : (enterStopped s).now = s.now := by
  unfold enterStopped
  try dsimp only
  simp

@[simp] theorem enterStopped_protection (s : State) : (enterStopped s).protection = s.protection := by
  unfold enterStopped
  try dsimp only
  simp

@[simp] theorem enterStopped_power (s : State) : (enterStopped s).power = s.power := by
  unfold enterStopped
  try dsimp only
  simp

@[simp] theorem enterStopped_link (s : State) : (enterStopped s).link = s.link := by
  unfold enterStopped
  try dsimp only
  simp

@[simp] theorem startSweep_pending (l : Bool) (s : State) : (startSweep l s).pending = s.pending := by
  unfold startSweep
  try dsimp only
  (repeat' split) <;> simp

@[simp] theorem startSweep_choices (l : Bool) (s : State) : (startSweep l s).choices = s.choices := by
  unfold startSweep
  try dsimp only
  (repeat' split) <;> simp

@[simp] theorem startSweep_now (l : Bool) (s : State) : (startSweep l s).now = s.now := by
  unfold startSweep
  try dsimp only
  (repeat' split) <;> simp

@[simp] theorem startSweep_tables (l : Bool) (s : State) : (startSweep l s).tables = s.tables := by
  unfold startSweep
  try dsimp only
  (repeat' split) <;> simp

@[simp] theorem startSweep_update (l : Bool) (s : State) : (startSweep l s).update = s.update := by
  unfold startSweep
  try dsimp only
  (repeat' split) <;> simp

@[simp] theorem startSweep_chain (l : Bool) (s : State) : (startSweep l s).chain = s.chain := by
  unfold startSweep
  try dsimp only
  (repeat' split) <;> simp

@[simp] theorem startSweep_arbiter (l : Bool) (s : State) : (startSweep l s).arbiter = s.arbiter := by
  unfold startSweep
  try dsimp only
  (repeat' split) <;> simp

@[simp] theorem startSweep_protection (l : Bool) (s : State) : (startSweep l s).protection = s.protection := by
  unfold startSweep
  try dsimp only
  (repeat' split) <;> simp

@[simp] theorem startSweep_sequencer (l : Bool) (s : State) : (startSweep l s).sequencer = s.sequencer := by
  unfold startSweep
  try dsimp only
  (repeat' split) <;> simp

@[simp] theorem startSweep_capture (l : Bool) (s : State) : (startSweep l s).capture = s.capture := by
  unfold startSweep
  try dsimp only
  (repeat' split) <;> simp

@[simp] theorem startSweep_power (l : Bool) (s : State) : (startSweep l s).power = s.power := by
  unfold startSweep
  try dsimp only
  (repeat' split) <;> simp

@[simp] theorem startSweep_link (l : Bool) (s : State) : (startSweep l s).link = s.link := by
  unfold startSweep
  try dsimp only
  (repeat' split) <;> simp

@[simp] theorem startSweep_notice (l : Bool) (s : State) : (startSweep l s).notice = s.notice := by
  unfold startSweep
  try dsimp only
  (repeat' split) <;> simp

@[simp] theorem beginSweep_pending (l : Bool) (s : State) : (beginSweep l s).pending = s.pending := by
  unfold beginSweep
  try dsimp only
  (repeat' split) <;> simp

@[simp] theorem beginSweep_now (l : Bool) (s : State) : (beginSweep l s).now = s.now := by
  unfold beginSweep
  try dsimp only
  (repeat' split) <;> simp

@[simp] theorem beginSweep_protection (l : Bool) (s : State) : (beginSweep l s).protection = s.protection := by
  unfold beginSweep
  try dsimp only
  (repeat' split) <;> simp

@[simp] theorem beginSweep_power (l : Bool) (s : State) : (beginSweep l s).power = s.power := by
  unfold beginSweep
  try dsimp only
  (repeat' split) <;> simp

@[simp] theorem beginSweep_link (l : Bool) (s : State) : (beginSweep l s).link = s.link := by
  unfold beginSweep
  try dsimp only
  (repeat' split) <;> simp

@[simp] theorem abandonWork_pending (s : State) : (abandonWork s).pending = s.pending := by
  unfold abandonWork
  try dsimp only
  (repeat' split) <;> simp

@[simp] theorem abandonWork_choices (s : State) : (abandonWork s).choices = s.choices := by
  unfold abandonWork
  try dsimp only
  (repeat' split) <;> simp

@[simp] theorem abandonWork_now (s : State) : (abandonWork s).now = s.now := by
  unfold abandonWork
  try dsimp only
  (repeat' split) <;> simp

@[simp] theorem abandonWork_tables (s : State) : (abandonWork s).tables = s.tables := by
  unfold abandonWork
  try dsimp only
  (repeat' split) <;> simp

@[simp] theorem abandonWork_update (s : State) : (abandonWork s).update = s.update := by
  unfold abandonWork
  try dsimp only
  (repeat' split) <;> simp

@[simp] theorem abandonWork_arbiter (s : State) : (abandonWork s).arbiter = s.arbiter := by
  unfold abandonWork
  try dsimp only
  (repeat' split) <;> simp

@[simp] theorem abandonWork_evaluator (s : State) : (abandonWork s).evaluator = s.evaluator := by
  unfold abandonWork
  try dsimp only
  (repeat' split) <;> simp

@[simp] theorem abandonWork_protection (s : State) : (abandonWork s).protection = s.protection := by
  unfold abandonWork
  try dsimp only
  (repeat' split) <;> simp

@[simp] theorem abandonWork_sequencer (s : State) : (abandonWork s).sequencer = s.sequencer := by
  unfold abandonWork
  try dsimp only
  (repeat' split) <;> simp

@[simp] theorem abandonWork_capture (s : State) : (abandonWork s).capture = s.capture := by
  unfold abandonWork
  try dsimp only
  (repeat' split) <;> simp

@[simp] theorem abandonWork_power (s : State) : (abandonWork s).power = s.power := by
  unfold abandonWork
  try dsimp only
  (repeat' split) <;> simp

@[simp] theorem abandonWork_link (s : State) : (abandonWork s).link = s.link := by
  unfold abandonWork
  try dsimp only
  (repeat' split) <;> simp

@[simp] theorem completeRecord_pending (s : State) : (completeRecord s).pending = s.pending := by
  unfold completeRecord
  try dsimp only
  (repeat' split) <;> simp

@[simp] theorem completeRecord_choices (s : State) : (completeRecord s).choices = s.choices := by
  unfold completeRecord
  try dsimp only
  (repeat' split) <;> simp

@[simp] theorem completeRecord_now (s : State) : (completeRecord s).now = s.now := by
  unfold completeRecord
  try dsimp only
  (repeat' split) <;> simp

@[simp] theorem completeRecord_tables (s : State) : (completeRecord s).tables = s.tables := by
  unfold completeRecord
  try dsimp only
  (repeat' split) <;> simp

@[simp] theorem completeRecord_update (s : State) : (completeRecord s).update = s.update := by
  unfold completeRecord
  try dsimp only
  (repeat' split) <;> simp

@[simp] theorem completeRecord_chain (s : State) : (completeRecord s).chain = s.chain := by
  unfold completeRecord
  try dsimp only
  (repeat' split) <;> simp

@[simp] theorem completeRecord_arbiter (s : State) : (completeRecord s).arbiter = s.arbiter := by
  unfold completeRecord
  try dsimp only
  (repeat' split) <;> simp

@[simp] theorem completeRecord_evaluator (s : State) : (completeRecord s).evaluator = s.evaluator := by
  unfold completeRecord
  try dsimp only
  (repeat' split) <;> simp

@[simp] theorem completeRecord_protection (s : State) : (completeRecord s).protection = s.protection := by
  unfold completeRecord
  try dsimp only
  (repeat' split) <;> simp

@[simp] theorem completeRecord_sequencer (s : State) : (completeRecord s).sequencer = s.sequencer := by
  unfold completeRecord
  try dsimp only
  (repeat' split) <;> simp

@[simp] theorem completeRecord_capture (s : State) : (completeRecord s).capture = s.capture := by
  unfold completeRecord
  try dsimp only
  (repeat' split) <;> simp

@[simp] theorem completeRecord_power (s : State) : (completeRecord s).power = s.power := by
  unfold completeRecord
  try dsimp only
  (repeat' split) <;> simp

@[simp] theorem completeRecord_link (s : State) : (completeRecord s).link = s.link := by
  unfold completeRecord
  try dsimp only
  (repeat' split) <;> simp

@[simp] theorem completeRecord_notice (s : State) : (completeRecord s).notice = s.notice := by
  unfold completeRecord
  try dsimp only
  (repeat' split) <;> simp

@[simp] theorem endSweep_pending (s : State) : (endSweep s).pending = s.pending := by
  unfold endSweep
  try dsimp only
  (repeat' split) <;> simp

@[simp] theorem endSweep_now (s : State) : (endSweep s).now = s.now := by
  unfold endSweep
  try dsimp only
  (repeat' split) <;> simp

@[simp] theorem endSweep_protection (s : State) : (endSweep s).protection = s.protection := by
  unfold endSweep
  try dsimp only
  (repeat' split) <;> simp

@[simp] theorem endSweep_power (s : State) : (endSweep s).power = s.power := by
  unfold endSweep
  try dsimp only
  (repeat' split) <;> simp

@[simp] theorem endSweep_link (s : State) : (endSweep s).link = s.link := by
  unfold endSweep
  try dsimp only
  (repeat' split) <;> simp

@[simp] theorem recordGrant_pending (q : Requester) (s : State) : (recordGrant q s).pending = s.pending := by
  unfold recordGrant
  try dsimp only
  (repeat' split) <;> simp

@[simp] theorem recordGrant_choices (q : Requester) (s : State) : (recordGrant q s).choices = s.choices := by
  unfold recordGrant
  try dsimp only
  (repeat' split) <;> simp

@[simp] theorem recordGrant_now (q : Requester) (s : State) : (recordGrant q s).now = s.now := by
  unfold recordGrant
  try dsimp only
  (repeat' split) <;> simp

@[simp] theorem recordGrant_tables (q : Requester) (s : State) : (recordGrant q s).tables = s.tables := by
  unfold recordGrant
  try dsimp only
  (repeat' split) <;> simp

@[simp] theorem recordGrant_update (q : Requester) (s : State) : (recordGrant q s).update = s.update := by
  unfold recordGrant
  try dsimp only
  (repeat' split) <;> simp

@[simp] theorem recordGrant_sweep (q : Requester) (s : State) : (recordGrant q s).sweep = s.sweep := by
  unfold recordGrant
  try dsimp only
  (repeat' split) <;> simp

@[simp] theorem recordGrant_chain (q : Requester) (s : State) : (recordGrant q s).chain = s.chain := by
  unfold recordGrant
  try dsimp only
  (repeat' split) <;> simp

@[simp] theorem recordGrant_evaluator (q : Requester) (s : State) : (recordGrant q s).evaluator = s.evaluator := by
  unfold recordGrant
  try dsimp only
  (repeat' split) <;> simp

@[simp] theorem recordGrant_protection (q : Requester) (s : State) : (recordGrant q s).protection = s.protection := by
  unfold recordGrant
  try dsimp only
  (repeat' split) <;> simp

@[simp] theorem recordGrant_sequencer (q : Requester) (s : State) : (recordGrant q s).sequencer = s.sequencer := by
  unfold recordGrant
  try dsimp only
  (repeat' split) <;> simp

@[simp] theorem recordGrant_capture (q : Requester) (s : State) : (recordGrant q s).capture = s.capture := by
  unfold recordGrant
  try dsimp only
  (repeat' split) <;> simp

@[simp] theorem recordGrant_power (q : Requester) (s : State) : (recordGrant q s).power = s.power := by
  unfold recordGrant
  try dsimp only
  (repeat' split) <;> simp

@[simp] theorem recordGrant_link (q : Requester) (s : State) : (recordGrant q s).link = s.link := by
  unfold recordGrant
  try dsimp only
  (repeat' split) <;> simp

@[simp] theorem recordGrant_notice (q : Requester) (s : State) : (recordGrant q s).notice = s.notice := by
  unfold recordGrant
  try dsimp only
  (repeat' split) <;> simp

@[simp] theorem startBroadcast_pending (q : Requester) (k : Byte) (p : List Byte) (s : State) : (startBroadcast q k p s).pending = s.pending := rfl

@[simp] theorem startBroadcast_choices (q : Requester) (k : Byte) (p : List Byte) (s : State) : (startBroadcast q k p s).choices = s.choices := rfl

@[simp] theorem startBroadcast_now (q : Requester) (k : Byte) (p : List Byte) (s : State) : (startBroadcast q k p s).now = s.now := rfl

@[simp] theorem startBroadcast_tables (q : Requester) (k : Byte) (p : List Byte) (s : State) : (startBroadcast q k p s).tables = s.tables := rfl

@[simp] theorem startBroadcast_update (q : Requester) (k : Byte) (p : List Byte) (s : State) : (startBroadcast q k p s).update = s.update := rfl

@[simp] theorem startBroadcast_sweep (q : Requester) (k : Byte) (p : List Byte) (s : State) : (startBroadcast q k p s).sweep = s.sweep := rfl

@[simp] theorem startBroadcast_arbiter (q : Requester) (k : Byte) (p : List Byte) (s : State) : (startBroadcast q k p s).arbiter = s.arbiter := rfl

@[simp] theorem startBroadcast_evaluator (q : Requester) (k : Byte) (p : List Byte) (s : State) : (startBroadcast q k p s).evaluator = s.evaluator := rfl

@[simp] theorem startBroadcast_protection (q : Requester) (k : Byte) (p : List Byte) (s : State) : (startBroadcast q k p s).protection = s.protection := rfl

@[simp] theorem startBroadcast_sequencer (q : Requester) (k : Byte) (p : List Byte) (s : State) : (startBroadcast q k p s).sequencer = s.sequencer := rfl

@[simp] theorem startBroadcast_capture (q : Requester) (k : Byte) (p : List Byte) (s : State) : (startBroadcast q k p s).capture = s.capture := rfl

@[simp] theorem startBroadcast_power (q : Requester) (k : Byte) (p : List Byte) (s : State) : (startBroadcast q k p s).power = s.power := rfl

@[simp] theorem startBroadcast_link (q : Requester) (k : Byte) (p : List Byte) (s : State) : (startBroadcast q k p s).link = s.link := rfl

@[simp] theorem startBroadcast_notice (q : Requester) (k : Byte) (p : List Byte) (s : State) : (startBroadcast q k p s).notice = s.notice := rfl

@[simp] theorem startAddressed_pending (q : Requester) (p : Nat) (k : Byte) (d : List Byte) (e : Byte) (c : Option Half) (s : State) : (startAddressed q p k d e c s).pending = s.pending := rfl

@[simp] theorem startAddressed_choices (q : Requester) (p : Nat) (k : Byte) (d : List Byte) (e : Byte) (c : Option Half) (s : State) : (startAddressed q p k d e c s).choices = s.choices := rfl

@[simp] theorem startAddressed_now (q : Requester) (p : Nat) (k : Byte) (d : List Byte) (e : Byte) (c : Option Half) (s : State) : (startAddressed q p k d e c s).now = s.now := rfl

@[simp] theorem startAddressed_tables (q : Requester) (p : Nat) (k : Byte) (d : List Byte) (e : Byte) (c : Option Half) (s : State) : (startAddressed q p k d e c s).tables = s.tables := rfl

@[simp] theorem startAddressed_update (q : Requester) (p : Nat) (k : Byte) (d : List Byte) (e : Byte) (c : Option Half) (s : State) : (startAddressed q p k d e c s).update = s.update := rfl

@[simp] theorem startAddressed_sweep (q : Requester) (p : Nat) (k : Byte) (d : List Byte) (e : Byte) (c : Option Half) (s : State) : (startAddressed q p k d e c s).sweep = s.sweep := rfl

@[simp] theorem startAddressed_arbiter (q : Requester) (p : Nat) (k : Byte) (d : List Byte) (e : Byte) (c : Option Half) (s : State) : (startAddressed q p k d e c s).arbiter = s.arbiter := rfl

@[simp] theorem startAddressed_evaluator (q : Requester) (p : Nat) (k : Byte) (d : List Byte) (e : Byte) (c : Option Half) (s : State) : (startAddressed q p k d e c s).evaluator = s.evaluator := rfl

@[simp] theorem startAddressed_protection (q : Requester) (p : Nat) (k : Byte) (d : List Byte) (e : Byte) (c : Option Half) (s : State) : (startAddressed q p k d e c s).protection = s.protection := rfl

@[simp] theorem startAddressed_sequencer (q : Requester) (p : Nat) (k : Byte) (d : List Byte) (e : Byte) (c : Option Half) (s : State) : (startAddressed q p k d e c s).sequencer = s.sequencer := rfl

@[simp] theorem startAddressed_capture (q : Requester) (p : Nat) (k : Byte) (d : List Byte) (e : Byte) (c : Option Half) (s : State) : (startAddressed q p k d e c s).capture = s.capture := rfl

@[simp] theorem startAddressed_power (q : Requester) (p : Nat) (k : Byte) (d : List Byte) (e : Byte) (c : Option Half) (s : State) : (startAddressed q p k d e c s).power = s.power := rfl

@[simp] theorem startAddressed_link (q : Requester) (p : Nat) (k : Byte) (d : List Byte) (e : Byte) (c : Option Half) (s : State) : (startAddressed q p k d e c s).link = s.link := rfl

@[simp] theorem startAddressed_notice (q : Requester) (p : Nat) (k : Byte) (d : List Byte) (e : Byte) (c : Option Half) (s : State) : (startAddressed q p k d e c s).notice = s.notice := rfl

@[simp] theorem startRead_pending (q : Requester) (p : Nat) (k : ReadKind) (c : Option Half) (s : State) : (startRead q p k c s).pending = s.pending := rfl

@[simp] theorem startRead_choices (q : Requester) (p : Nat) (k : ReadKind) (c : Option Half) (s : State) : (startRead q p k c s).choices = s.choices := rfl

@[simp] theorem startRead_now (q : Requester) (p : Nat) (k : ReadKind) (c : Option Half) (s : State) : (startRead q p k c s).now = s.now := rfl

@[simp] theorem startRead_tables (q : Requester) (p : Nat) (k : ReadKind) (c : Option Half) (s : State) : (startRead q p k c s).tables = s.tables := rfl

@[simp] theorem startRead_update (q : Requester) (p : Nat) (k : ReadKind) (c : Option Half) (s : State) : (startRead q p k c s).update = s.update := rfl

@[simp] theorem startRead_sweep (q : Requester) (p : Nat) (k : ReadKind) (c : Option Half) (s : State) : (startRead q p k c s).sweep = s.sweep := rfl

@[simp] theorem startRead_arbiter (q : Requester) (p : Nat) (k : ReadKind) (c : Option Half) (s : State) : (startRead q p k c s).arbiter = s.arbiter := rfl

@[simp] theorem startRead_evaluator (q : Requester) (p : Nat) (k : ReadKind) (c : Option Half) (s : State) : (startRead q p k c s).evaluator = s.evaluator := rfl

@[simp] theorem startRead_protection (q : Requester) (p : Nat) (k : ReadKind) (c : Option Half) (s : State) : (startRead q p k c s).protection = s.protection := rfl

@[simp] theorem startRead_sequencer (q : Requester) (p : Nat) (k : ReadKind) (c : Option Half) (s : State) : (startRead q p k c s).sequencer = s.sequencer := rfl

@[simp] theorem startRead_capture (q : Requester) (p : Nat) (k : ReadKind) (c : Option Half) (s : State) : (startRead q p k c s).capture = s.capture := rfl

@[simp] theorem startRead_power (q : Requester) (p : Nat) (k : ReadKind) (c : Option Half) (s : State) : (startRead q p k c s).power = s.power := rfl

@[simp] theorem startRead_link (q : Requester) (p : Nat) (k : ReadKind) (c : Option Half) (s : State) : (startRead q p k c s).link = s.link := rfl

@[simp] theorem startRead_notice (q : Requester) (p : Nat) (k : ReadKind) (c : Option Half) (s : State) : (startRead q p k c s).notice = s.notice := rfl

@[simp] theorem startForward_pending (f : Frame) (s : State) : (startForward f s).pending = s.pending := rfl

@[simp] theorem startForward_choices (f : Frame) (s : State) : (startForward f s).choices = s.choices := rfl

@[simp] theorem startForward_now (f : Frame) (s : State) : (startForward f s).now = s.now := rfl

@[simp] theorem startForward_tables (f : Frame) (s : State) : (startForward f s).tables = s.tables := rfl

@[simp] theorem startForward_update (f : Frame) (s : State) : (startForward f s).update = s.update := rfl

@[simp] theorem startForward_sweep (f : Frame) (s : State) : (startForward f s).sweep = s.sweep := rfl

@[simp] theorem startForward_arbiter (f : Frame) (s : State) : (startForward f s).arbiter = s.arbiter := rfl

@[simp] theorem startForward_evaluator (f : Frame) (s : State) : (startForward f s).evaluator = s.evaluator := rfl

@[simp] theorem startForward_protection (f : Frame) (s : State) : (startForward f s).protection = s.protection := rfl

@[simp] theorem startForward_sequencer (f : Frame) (s : State) : (startForward f s).sequencer = s.sequencer := rfl

@[simp] theorem startForward_capture (f : Frame) (s : State) : (startForward f s).capture = s.capture := rfl

@[simp] theorem startForward_power (f : Frame) (s : State) : (startForward f s).power = s.power := rfl

@[simp] theorem startForward_link (f : Frame) (s : State) : (startForward f s).link = s.link := rfl

@[simp] theorem startForward_notice (f : Frame) (s : State) : (startForward f s).notice = s.notice := rfl

@[simp] theorem grantForward_pending (s : State) : (grantForward s).pending = s.pending := by
  unfold grantForward
  try dsimp only
  (repeat' split) <;> simp

@[simp] theorem grantForward_choices (s : State) : (grantForward s).choices = s.choices := by
  unfold grantForward
  try dsimp only
  (repeat' split) <;> simp

@[simp] theorem grantForward_now (s : State) : (grantForward s).now = s.now := by
  unfold grantForward
  try dsimp only
  (repeat' split) <;> simp

@[simp] theorem grantForward_tables (s : State) : (grantForward s).tables = s.tables := by
  unfold grantForward
  try dsimp only
  (repeat' split) <;> simp

@[simp] theorem grantForward_update (s : State) : (grantForward s).update = s.update := by
  unfold grantForward
  try dsimp only
  (repeat' split) <;> simp

@[simp] theorem grantForward_sweep (s : State) : (grantForward s).sweep = s.sweep := by
  unfold grantForward
  try dsimp only
  (repeat' split) <;> simp

@[simp] theorem grantForward_arbiter (s : State) : (grantForward s).arbiter = s.arbiter := by
  unfold grantForward
  try dsimp only
  (repeat' split) <;> simp

@[simp] theorem grantForward_evaluator (s : State) : (grantForward s).evaluator = s.evaluator := by
  unfold grantForward
  try dsimp only
  (repeat' split) <;> simp

@[simp] theorem grantForward_protection (s : State) : (grantForward s).protection = s.protection := by
  unfold grantForward
  try dsimp only
  (repeat' split) <;> simp

@[simp] theorem grantForward_sequencer (s : State) : (grantForward s).sequencer = s.sequencer := by
  unfold grantForward
  try dsimp only
  (repeat' split) <;> simp

@[simp] theorem grantForward_capture (s : State) : (grantForward s).capture = s.capture := by
  unfold grantForward
  try dsimp only
  (repeat' split) <;> simp

@[simp] theorem grantForward_power (s : State) : (grantForward s).power = s.power := by
  unfold grantForward
  try dsimp only
  (repeat' split) <;> simp

@[simp] theorem grantForward_notice (s : State) : (grantForward s).notice = s.notice := by
  unfold grantForward
  try dsimp only
  (repeat' split) <;> simp

@[simp] theorem grantSweep_pending (s : State) : (grantSweep s).pending = s.pending := by
  unfold grantSweep
  try dsimp only
  (repeat' split) <;> simp

@[simp] theorem grantSweep_choices (s : State) : (grantSweep s).choices = s.choices := by
  unfold grantSweep
  try dsimp only
  (repeat' split) <;> simp

@[simp] theorem grantSweep_now (s : State) : (grantSweep s).now = s.now := by
  unfold grantSweep
  try dsimp only
  (repeat' split) <;> simp

@[simp] theorem grantSweep_tables (s : State) : (grantSweep s).tables = s.tables := by
  unfold grantSweep
  try dsimp only
  (repeat' split) <;> simp

@[simp] theorem grantSweep_update (s : State) : (grantSweep s).update = s.update := by
  unfold grantSweep
  try dsimp only
  (repeat' split) <;> simp

@[simp] theorem grantSweep_arbiter (s : State) : (grantSweep s).arbiter = s.arbiter := by
  unfold grantSweep
  try dsimp only
  (repeat' split) <;> simp

@[simp] theorem grantSweep_evaluator (s : State) : (grantSweep s).evaluator = s.evaluator := by
  unfold grantSweep
  try dsimp only
  (repeat' split) <;> simp

@[simp] theorem grantSweep_protection (s : State) : (grantSweep s).protection = s.protection := by
  unfold grantSweep
  try dsimp only
  (repeat' split) <;> simp

@[simp] theorem grantSweep_sequencer (s : State) : (grantSweep s).sequencer = s.sequencer := by
  unfold grantSweep
  try dsimp only
  (repeat' split) <;> simp

@[simp] theorem grantSweep_capture (s : State) : (grantSweep s).capture = s.capture := by
  unfold grantSweep
  try dsimp only
  (repeat' split) <;> simp

@[simp] theorem grantSweep_power (s : State) : (grantSweep s).power = s.power := by
  unfold grantSweep
  try dsimp only
  (repeat' split) <;> simp

@[simp] theorem grantSweep_link (s : State) : (grantSweep s).link = s.link := by
  unfold grantSweep
  try dsimp only
  (repeat' split) <;> simp

@[simp] theorem grantSweep_notice (s : State) : (grantSweep s).notice = s.notice := by
  unfold grantSweep
  try dsimp only
  (repeat' split) <;> simp

@[simp] theorem grantCapture_pending (s : State) : (grantCapture s).pending = s.pending := by
  unfold grantCapture
  try dsimp only
  (repeat' split) <;> simp

@[simp] theorem grantCapture_choices (s : State) : (grantCapture s).choices = s.choices := by
  unfold grantCapture
  try dsimp only
  (repeat' split) <;> simp

@[simp] theorem grantCapture_now (s : State) : (grantCapture s).now = s.now := by
  unfold grantCapture
  try dsimp only
  (repeat' split) <;> simp

@[simp] theorem grantCapture_tables (s : State) : (grantCapture s).tables = s.tables := by
  unfold grantCapture
  try dsimp only
  (repeat' split) <;> simp

@[simp] theorem grantCapture_update (s : State) : (grantCapture s).update = s.update := by
  unfold grantCapture
  try dsimp only
  (repeat' split) <;> simp

@[simp] theorem grantCapture_sweep (s : State) : (grantCapture s).sweep = s.sweep := by
  unfold grantCapture
  try dsimp only
  (repeat' split) <;> simp

@[simp] theorem grantCapture_arbiter (s : State) : (grantCapture s).arbiter = s.arbiter := by
  unfold grantCapture
  try dsimp only
  (repeat' split) <;> simp

@[simp] theorem grantCapture_evaluator (s : State) : (grantCapture s).evaluator = s.evaluator := by
  unfold grantCapture
  try dsimp only
  (repeat' split) <;> simp

@[simp] theorem grantCapture_protection (s : State) : (grantCapture s).protection = s.protection := by
  unfold grantCapture
  try dsimp only
  (repeat' split) <;> simp

@[simp] theorem grantCapture_sequencer (s : State) : (grantCapture s).sequencer = s.sequencer := by
  unfold grantCapture
  try dsimp only
  (repeat' split) <;> simp

@[simp] theorem grantCapture_power (s : State) : (grantCapture s).power = s.power := by
  unfold grantCapture
  try dsimp only
  (repeat' split) <;> simp

@[simp] theorem grantCapture_link (s : State) : (grantCapture s).link = s.link := by
  unfold grantCapture
  try dsimp only
  (repeat' split) <;> simp

@[simp] theorem startWatch_pending (f : WatchFrame) (s : State) : (startWatch f s).pending = s.pending := by
  unfold startWatch
  try dsimp only
  (repeat' split) <;> simp

@[simp] theorem startWatch_choices (f : WatchFrame) (s : State) : (startWatch f s).choices = s.choices := by
  unfold startWatch
  try dsimp only
  (repeat' split) <;> simp

@[simp] theorem startWatch_now (f : WatchFrame) (s : State) : (startWatch f s).now = s.now := by
  unfold startWatch
  try dsimp only
  (repeat' split) <;> simp

@[simp] theorem startWatch_tables (f : WatchFrame) (s : State) : (startWatch f s).tables = s.tables := by
  unfold startWatch
  try dsimp only
  (repeat' split) <;> simp

@[simp] theorem startWatch_update (f : WatchFrame) (s : State) : (startWatch f s).update = s.update := by
  unfold startWatch
  try dsimp only
  (repeat' split) <;> simp

@[simp] theorem startWatch_sweep (f : WatchFrame) (s : State) : (startWatch f s).sweep = s.sweep := by
  unfold startWatch
  try dsimp only
  (repeat' split) <;> simp

@[simp] theorem startWatch_arbiter (f : WatchFrame) (s : State) : (startWatch f s).arbiter = s.arbiter := by
  unfold startWatch
  try dsimp only
  (repeat' split) <;> simp

@[simp] theorem startWatch_evaluator (f : WatchFrame) (s : State) : (startWatch f s).evaluator = s.evaluator := by
  unfold startWatch
  try dsimp only
  (repeat' split) <;> simp

@[simp] theorem startWatch_protection (f : WatchFrame) (s : State) : (startWatch f s).protection = s.protection := by
  unfold startWatch
  try dsimp only
  (repeat' split) <;> simp

@[simp] theorem startWatch_sequencer (f : WatchFrame) (s : State) : (startWatch f s).sequencer = s.sequencer := by
  unfold startWatch
  try dsimp only
  (repeat' split) <;> simp

@[simp] theorem startWatch_capture (f : WatchFrame) (s : State) : (startWatch f s).capture = s.capture := by
  unfold startWatch
  try dsimp only
  (repeat' split) <;> simp

@[simp] theorem startWatch_power (f : WatchFrame) (s : State) : (startWatch f s).power = s.power := by
  unfold startWatch
  try dsimp only
  (repeat' split) <;> simp

@[simp] theorem startWatch_link (f : WatchFrame) (s : State) : (startWatch f s).link = s.link := by
  unfold startWatch
  try dsimp only
  (repeat' split) <;> simp

@[simp] theorem startWatch_notice (f : WatchFrame) (s : State) : (startWatch f s).notice = s.notice := by
  unfold startWatch
  try dsimp only
  (repeat' split) <;> simp

@[simp] theorem grantWatch_pending (s : State) : (grantWatch s).pending = s.pending := by
  unfold grantWatch
  try dsimp only
  (repeat' split) <;> simp

@[simp] theorem grantWatch_choices (s : State) : (grantWatch s).choices = s.choices := by
  unfold grantWatch
  try dsimp only
  (repeat' split) <;> simp

@[simp] theorem grantWatch_now (s : State) : (grantWatch s).now = s.now := by
  unfold grantWatch
  try dsimp only
  (repeat' split) <;> simp

@[simp] theorem grantWatch_tables (s : State) : (grantWatch s).tables = s.tables := by
  unfold grantWatch
  try dsimp only
  (repeat' split) <;> simp

@[simp] theorem grantWatch_update (s : State) : (grantWatch s).update = s.update := by
  unfold grantWatch
  try dsimp only
  (repeat' split) <;> simp

@[simp] theorem grantWatch_sweep (s : State) : (grantWatch s).sweep = s.sweep := by
  unfold grantWatch
  try dsimp only
  (repeat' split) <;> simp

@[simp] theorem grantWatch_arbiter (s : State) : (grantWatch s).arbiter = s.arbiter := by
  unfold grantWatch
  try dsimp only
  (repeat' split) <;> simp

@[simp] theorem grantWatch_evaluator (s : State) : (grantWatch s).evaluator = s.evaluator := by
  unfold grantWatch
  try dsimp only
  (repeat' split) <;> simp

@[simp] theorem grantWatch_protection (s : State) : (grantWatch s).protection = s.protection := by
  unfold grantWatch
  try dsimp only
  (repeat' split) <;> simp

@[simp] theorem grantWatch_sequencer (s : State) : (grantWatch s).sequencer = s.sequencer := by
  unfold grantWatch
  try dsimp only
  (repeat' split) <;> simp

@[simp] theorem grantWatch_capture (s : State) : (grantWatch s).capture = s.capture := by
  unfold grantWatch
  try dsimp only
  (repeat' split) <;> simp

@[simp] theorem grantWatch_link (s : State) : (grantWatch s).link = s.link := by
  unfold grantWatch
  try dsimp only
  (repeat' split) <;> simp

@[simp] theorem grantWatch_notice (s : State) : (grantWatch s).notice = s.notice := by
  unfold grantWatch
  try dsimp only
  (repeat' split) <;> simp

@[simp] theorem grantEnumerate_pending (s : State) : (grantEnumerate s).pending = s.pending := by
  unfold grantEnumerate
  try dsimp only
  (repeat' split) <;> simp

@[simp] theorem grantEnumerate_choices (s : State) : (grantEnumerate s).choices = s.choices := by
  unfold grantEnumerate
  try dsimp only
  (repeat' split) <;> simp

@[simp] theorem grantEnumerate_now (s : State) : (grantEnumerate s).now = s.now := by
  unfold grantEnumerate
  try dsimp only
  (repeat' split) <;> simp

@[simp] theorem grantEnumerate_tables (s : State) : (grantEnumerate s).tables = s.tables := by
  unfold grantEnumerate
  try dsimp only
  (repeat' split) <;> simp

@[simp] theorem grantEnumerate_update (s : State) : (grantEnumerate s).update = s.update := by
  unfold grantEnumerate
  try dsimp only
  (repeat' split) <;> simp

@[simp] theorem grantEnumerate_sweep (s : State) : (grantEnumerate s).sweep = s.sweep := by
  unfold grantEnumerate
  try dsimp only
  (repeat' split) <;> simp

@[simp] theorem grantEnumerate_arbiter (s : State) : (grantEnumerate s).arbiter = s.arbiter := by
  unfold grantEnumerate
  try dsimp only
  (repeat' split) <;> simp

@[simp] theorem grantEnumerate_evaluator (s : State) : (grantEnumerate s).evaluator = s.evaluator := by
  unfold grantEnumerate
  try dsimp only
  (repeat' split) <;> simp

@[simp] theorem grantEnumerate_protection (s : State) : (grantEnumerate s).protection = s.protection := by
  unfold grantEnumerate
  try dsimp only
  (repeat' split) <;> simp

@[simp] theorem grantEnumerate_sequencer (s : State) : (grantEnumerate s).sequencer = s.sequencer := by
  unfold grantEnumerate
  try dsimp only
  (repeat' split) <;> simp

@[simp] theorem grantEnumerate_capture (s : State) : (grantEnumerate s).capture = s.capture := by
  unfold grantEnumerate
  try dsimp only
  (repeat' split) <;> simp

@[simp] theorem grantEnumerate_power (s : State) : (grantEnumerate s).power = s.power := by
  unfold grantEnumerate
  try dsimp only
  (repeat' split) <;> simp

@[simp] theorem grantEnumerate_link (s : State) : (grantEnumerate s).link = s.link := by
  unfold grantEnumerate
  try dsimp only
  (repeat' split) <;> simp

@[simp] theorem grantEnumerate_notice (s : State) : (grantEnumerate s).notice = s.notice := by
  unfold grantEnumerate
  try dsimp only
  (repeat' split) <;> simp

@[simp] theorem grant_pending (q : Requester) (s : State) : (grant q s).pending = s.pending := by
  unfold grant
  try dsimp only
  (repeat' split) <;> simp

@[simp] theorem grant_choices (q : Requester) (s : State) : (grant q s).choices = s.choices := by
  unfold grant
  try dsimp only
  (repeat' split) <;> simp

@[simp] theorem grant_now (q : Requester) (s : State) : (grant q s).now = s.now := by
  unfold grant
  try dsimp only
  (repeat' split) <;> simp

@[simp] theorem grant_tables (q : Requester) (s : State) : (grant q s).tables = s.tables := by
  unfold grant
  try dsimp only
  (repeat' split) <;> simp

@[simp] theorem grant_update (q : Requester) (s : State) : (grant q s).update = s.update := by
  unfold grant
  try dsimp only
  (repeat' split) <;> simp

@[simp] theorem grant_evaluator (q : Requester) (s : State) : (grant q s).evaluator = s.evaluator := by
  unfold grant
  try dsimp only
  (repeat' split) <;> simp

@[simp] theorem grant_protection (q : Requester) (s : State) : (grant q s).protection = s.protection := by
  unfold grant
  try dsimp only
  (repeat' split) <;> simp

@[simp] theorem grant_sequencer (q : Requester) (s : State) : (grant q s).sequencer = s.sequencer := by
  unfold grant
  try dsimp only
  (repeat' split) <;> simp

@[simp] theorem arbitrateN_pending (n : Nat) (s : State) : (arbitrateN n s).pending = s.pending := by
  induction n generalizing s with
  | zero => rfl
  | succ n ih =>
    unfold arbitrateN
    try dsimp only
    (repeat' split) <;> simp [ih]

@[simp] theorem arbitrateN_choices (n : Nat) (s : State) : (arbitrateN n s).choices = s.choices := by
  induction n generalizing s with
  | zero => rfl
  | succ n ih =>
    unfold arbitrateN
    try dsimp only
    (repeat' split) <;> simp [ih]

@[simp] theorem arbitrateN_now (n : Nat) (s : State) : (arbitrateN n s).now = s.now := by
  induction n generalizing s with
  | zero => rfl
  | succ n ih =>
    unfold arbitrateN
    try dsimp only
    (repeat' split) <;> simp [ih]

@[simp] theorem arbitrateN_tables (n : Nat) (s : State) : (arbitrateN n s).tables = s.tables := by
  induction n generalizing s with
  | zero => rfl
  | succ n ih =>
    unfold arbitrateN
    try dsimp only
    (repeat' split) <;> simp [ih]

@[simp] theorem arbitrateN_update (n : Nat) (s : State) : (arbitrateN n s).update = s.update := by
  induction n generalizing s with
  | zero => rfl
  | succ n ih =>
    unfold arbitrateN
    try dsimp only
    (repeat' split) <;> simp [ih]

@[simp] theorem arbitrateN_evaluator (n : Nat) (s : State) : (arbitrateN n s).evaluator = s.evaluator := by
  induction n generalizing s with
  | zero => rfl
  | succ n ih =>
    unfold arbitrateN
    try dsimp only
    (repeat' split) <;> simp [ih]

@[simp] theorem arbitrateN_protection (n : Nat) (s : State) : (arbitrateN n s).protection = s.protection := by
  induction n generalizing s with
  | zero => rfl
  | succ n ih =>
    unfold arbitrateN
    try dsimp only
    (repeat' split) <;> simp [ih]

@[simp] theorem arbitrateN_sequencer (n : Nat) (s : State) : (arbitrateN n s).sequencer = s.sequencer := by
  induction n generalizing s with
  | zero => rfl
  | succ n ih =>
    unfold arbitrateN
    try dsimp only
    (repeat' split) <;> simp [ih]

@[simp] theorem arbitrate_pending (s : State) : (arbitrate s).pending = s.pending := by
  unfold arbitrate
  try dsimp only
  simp

@[simp] theorem arbitrate_choices (s : State) : (arbitrate s).choices = s.choices := by
  unfold arbitrate
  try dsimp only
  simp

@[simp] theorem arbitrate_now (s : State) : (arbitrate s).now = s.now := by
  unfold arbitrate
  try dsimp only
  simp

@[simp] theorem arbitrate_tables (s : State) : (arbitrate s).tables = s.tables := by
  unfold arbitrate
  try dsimp only
  simp

@[simp] theorem arbitrate_update (s : State) : (arbitrate s).update = s.update := by
  unfold arbitrate
  try dsimp only
  simp

@[simp] theorem arbitrate_evaluator (s : State) : (arbitrate s).evaluator = s.evaluator := by
  unfold arbitrate
  try dsimp only
  simp

@[simp] theorem arbitrate_protection (s : State) : (arbitrate s).protection = s.protection := by
  unfold arbitrate
  try dsimp only
  simp

@[simp] theorem arbitrate_sequencer (s : State) : (arbitrate s).sequencer = s.sequencer := by
  unfold arbitrate
  try dsimp only
  simp

@[simp] theorem clearWatchCounts_pending (s : State) : (clearWatchCounts s).pending = s.pending := rfl

@[simp] theorem clearWatchCounts_choices (s : State) : (clearWatchCounts s).choices = s.choices := rfl

@[simp] theorem clearWatchCounts_now (s : State) : (clearWatchCounts s).now = s.now := rfl

@[simp] theorem clearWatchCounts_tables (s : State) : (clearWatchCounts s).tables = s.tables := rfl

@[simp] theorem clearWatchCounts_update (s : State) : (clearWatchCounts s).update = s.update := rfl

@[simp] theorem clearWatchCounts_sweep (s : State) : (clearWatchCounts s).sweep = s.sweep := rfl

@[simp] theorem clearWatchCounts_chain (s : State) : (clearWatchCounts s).chain = s.chain := rfl

@[simp] theorem clearWatchCounts_arbiter (s : State) : (clearWatchCounts s).arbiter = s.arbiter := rfl

@[simp] theorem clearWatchCounts_evaluator (s : State) : (clearWatchCounts s).evaluator = s.evaluator := rfl

@[simp] theorem clearWatchCounts_protection (s : State) : (clearWatchCounts s).protection = s.protection := rfl

@[simp] theorem clearWatchCounts_sequencer (s : State) : (clearWatchCounts s).sequencer = s.sequencer := rfl

@[simp] theorem clearWatchCounts_capture (s : State) : (clearWatchCounts s).capture = s.capture := rfl

@[simp] theorem clearWatchCounts_link (s : State) : (clearWatchCounts s).link = s.link := rfl

@[simp] theorem clearWatchCounts_notice (s : State) : (clearWatchCounts s).notice = s.notice := rfl

@[simp] theorem enterWaking_pending (s : State) : (enterWaking s).pending = s.pending := rfl

@[simp] theorem enterWaking_choices (s : State) : (enterWaking s).choices = s.choices := rfl

@[simp] theorem enterWaking_now (s : State) : (enterWaking s).now = s.now := rfl

@[simp] theorem enterWaking_tables (s : State) : (enterWaking s).tables = s.tables := rfl

@[simp] theorem enterWaking_update (s : State) : (enterWaking s).update = s.update := rfl

@[simp] theorem enterWaking_sweep (s : State) : (enterWaking s).sweep = s.sweep := rfl

@[simp] theorem enterWaking_chain (s : State) : (enterWaking s).chain = s.chain := rfl

@[simp] theorem enterWaking_arbiter (s : State) : (enterWaking s).arbiter = s.arbiter := rfl

@[simp] theorem enterWaking_evaluator (s : State) : (enterWaking s).evaluator = s.evaluator := rfl

@[simp] theorem enterWaking_protection (s : State) : (enterWaking s).protection = s.protection := rfl

@[simp] theorem enterWaking_sequencer (s : State) : (enterWaking s).sequencer = s.sequencer := rfl

@[simp] theorem enterWaking_capture (s : State) : (enterWaking s).capture = s.capture := rfl

@[simp] theorem enterWaking_link (s : State) : (enterWaking s).link = s.link := rfl

@[simp] theorem enterWaking_notice (s : State) : (enterWaking s).notice = s.notice := rfl

@[simp] theorem noteCause_pending (w : WakeSource) (s : State) : (noteCause w s).pending = s.pending := by
  unfold noteCause
  try dsimp only
  (repeat' split) <;> simp

@[simp] theorem noteCause_choices (w : WakeSource) (s : State) : (noteCause w s).choices = s.choices := by
  unfold noteCause
  try dsimp only
  (repeat' split) <;> simp

@[simp] theorem noteCause_now (w : WakeSource) (s : State) : (noteCause w s).now = s.now := by
  unfold noteCause
  try dsimp only
  (repeat' split) <;> simp

@[simp] theorem noteCause_tables (w : WakeSource) (s : State) : (noteCause w s).tables = s.tables := by
  unfold noteCause
  try dsimp only
  (repeat' split) <;> simp

@[simp] theorem noteCause_update (w : WakeSource) (s : State) : (noteCause w s).update = s.update := by
  unfold noteCause
  try dsimp only
  (repeat' split) <;> simp

@[simp] theorem noteCause_sweep (w : WakeSource) (s : State) : (noteCause w s).sweep = s.sweep := by
  unfold noteCause
  try dsimp only
  (repeat' split) <;> simp

@[simp] theorem noteCause_chain (w : WakeSource) (s : State) : (noteCause w s).chain = s.chain := by
  unfold noteCause
  try dsimp only
  (repeat' split) <;> simp

@[simp] theorem noteCause_arbiter (w : WakeSource) (s : State) : (noteCause w s).arbiter = s.arbiter := by
  unfold noteCause
  try dsimp only
  (repeat' split) <;> simp

@[simp] theorem noteCause_evaluator (w : WakeSource) (s : State) : (noteCause w s).evaluator = s.evaluator := by
  unfold noteCause
  try dsimp only
  (repeat' split) <;> simp

@[simp] theorem noteCause_protection (w : WakeSource) (s : State) : (noteCause w s).protection = s.protection := by
  unfold noteCause
  try dsimp only
  (repeat' split) <;> simp

@[simp] theorem noteCause_sequencer (w : WakeSource) (s : State) : (noteCause w s).sequencer = s.sequencer := by
  unfold noteCause
  try dsimp only
  (repeat' split) <;> simp

@[simp] theorem noteCause_capture (w : WakeSource) (s : State) : (noteCause w s).capture = s.capture := by
  unfold noteCause
  try dsimp only
  (repeat' split) <;> simp

@[simp] theorem noteCause_link (w : WakeSource) (s : State) : (noteCause w s).link = s.link := by
  unfold noteCause
  try dsimp only
  (repeat' split) <;> simp

@[simp] theorem noteCause_notice (w : WakeSource) (s : State) : (noteCause w s).notice = s.notice := by
  unfold noteCause
  try dsimp only
  (repeat' split) <;> simp

@[simp] theorem takeWake_pending (w : WakeSource) (s : State) : (takeWake w s).pending = s.pending := by
  unfold takeWake
  try dsimp only
  (repeat' split) <;> simp

@[simp] theorem takeWake_choices (w : WakeSource) (s : State) : (takeWake w s).choices = s.choices := by
  unfold takeWake
  try dsimp only
  (repeat' split) <;> simp

@[simp] theorem takeWake_now (w : WakeSource) (s : State) : (takeWake w s).now = s.now := by
  unfold takeWake
  try dsimp only
  (repeat' split) <;> simp

@[simp] theorem takeWake_tables (w : WakeSource) (s : State) : (takeWake w s).tables = s.tables := by
  unfold takeWake
  try dsimp only
  (repeat' split) <;> simp

@[simp] theorem takeWake_update (w : WakeSource) (s : State) : (takeWake w s).update = s.update := by
  unfold takeWake
  try dsimp only
  (repeat' split) <;> simp

@[simp] theorem takeWake_sweep (w : WakeSource) (s : State) : (takeWake w s).sweep = s.sweep := by
  unfold takeWake
  try dsimp only
  (repeat' split) <;> simp

@[simp] theorem takeWake_chain (w : WakeSource) (s : State) : (takeWake w s).chain = s.chain := by
  unfold takeWake
  try dsimp only
  (repeat' split) <;> simp

@[simp] theorem takeWake_arbiter (w : WakeSource) (s : State) : (takeWake w s).arbiter = s.arbiter := by
  unfold takeWake
  try dsimp only
  (repeat' split) <;> simp

@[simp] theorem takeWake_evaluator (w : WakeSource) (s : State) : (takeWake w s).evaluator = s.evaluator := by
  unfold takeWake
  try dsimp only
  (repeat' split) <;> simp

@[simp] theorem takeWake_protection (w : WakeSource) (s : State) : (takeWake w s).protection = s.protection := by
  unfold takeWake
  try dsimp only
  (repeat' split) <;> simp

@[simp] theorem takeWake_sequencer (w : WakeSource) (s : State) : (takeWake w s).sequencer = s.sequencer := by
  unfold takeWake
  try dsimp only
  (repeat' split) <;> simp

@[simp] theorem takeWake_capture (w : WakeSource) (s : State) : (takeWake w s).capture = s.capture := by
  unfold takeWake
  try dsimp only
  (repeat' split) <;> simp

@[simp] theorem takeWake_link (w : WakeSource) (s : State) : (takeWake w s).link = s.link := by
  unfold takeWake
  try dsimp only
  (repeat' split) <;> simp

@[simp] theorem takeWake_notice (w : WakeSource) (s : State) : (takeWake w s).notice = s.notice := by
  unfold takeWake
  try dsimp only
  (repeat' split) <;> simp

@[simp] theorem enterActive_pending (s : State) : (enterActive s).pending = s.pending := by
  unfold enterActive
  try dsimp only
  simp

@[simp] theorem enterActive_choices (s : State) : (enterActive s).choices = s.choices := by
  unfold enterActive
  try dsimp only
  simp

@[simp] theorem enterActive_now (s : State) : (enterActive s).now = s.now := by
  unfold enterActive
  try dsimp only
  simp

@[simp] theorem enterActive_tables (s : State) : (enterActive s).tables = s.tables := by
  unfold enterActive
  try dsimp only
  simp

@[simp] theorem enterActive_update (s : State) : (enterActive s).update = s.update := by
  unfold enterActive
  try dsimp only
  simp

@[simp] theorem enterActive_chain (s : State) : (enterActive s).chain = s.chain := by
  unfold enterActive
  try dsimp only
  simp

@[simp] theorem enterActive_arbiter (s : State) : (enterActive s).arbiter = s.arbiter := by
  unfold enterActive
  try dsimp only
  simp

@[simp] theorem enterActive_evaluator (s : State) : (enterActive s).evaluator = s.evaluator := by
  unfold enterActive
  try dsimp only
  simp

@[simp] theorem enterActive_protection (s : State) : (enterActive s).protection = s.protection := by
  unfold enterActive
  try dsimp only
  simp

@[simp] theorem enterActive_capture (s : State) : (enterActive s).capture = s.capture := by
  unfold enterActive
  try dsimp only
  simp

@[simp] theorem endDrain_pending (s : State) : (endDrain s).pending = s.pending := rfl

@[simp] theorem endDrain_choices (s : State) : (endDrain s).choices = s.choices := rfl

@[simp] theorem endDrain_now (s : State) : (endDrain s).now = s.now := rfl

@[simp] theorem endDrain_tables (s : State) : (endDrain s).tables = s.tables := rfl

@[simp] theorem endDrain_update (s : State) : (endDrain s).update = s.update := rfl

@[simp] theorem endDrain_sweep (s : State) : (endDrain s).sweep = s.sweep := rfl

@[simp] theorem endDrain_chain (s : State) : (endDrain s).chain = s.chain := rfl

@[simp] theorem endDrain_arbiter (s : State) : (endDrain s).arbiter = s.arbiter := rfl

@[simp] theorem endDrain_evaluator (s : State) : (endDrain s).evaluator = s.evaluator := rfl

@[simp] theorem endDrain_protection (s : State) : (endDrain s).protection = s.protection := rfl

@[simp] theorem endDrain_sequencer (s : State) : (endDrain s).sequencer = s.sequencer := rfl

@[simp] theorem endDrain_capture (s : State) : (endDrain s).capture = s.capture := rfl

@[simp] theorem endDrain_notice (s : State) : (endDrain s).notice = s.notice := rfl

@[simp] theorem discardDrain_pending (s : State) : (discardDrain s).pending = s.pending := rfl

@[simp] theorem discardDrain_choices (s : State) : (discardDrain s).choices = s.choices := rfl

@[simp] theorem discardDrain_now (s : State) : (discardDrain s).now = s.now := rfl

@[simp] theorem discardDrain_tables (s : State) : (discardDrain s).tables = s.tables := rfl

@[simp] theorem discardDrain_update (s : State) : (discardDrain s).update = s.update := rfl

@[simp] theorem discardDrain_sweep (s : State) : (discardDrain s).sweep = s.sweep := rfl

@[simp] theorem discardDrain_arbiter (s : State) : (discardDrain s).arbiter = s.arbiter := rfl

@[simp] theorem discardDrain_evaluator (s : State) : (discardDrain s).evaluator = s.evaluator := rfl

@[simp] theorem discardDrain_protection (s : State) : (discardDrain s).protection = s.protection := rfl

@[simp] theorem discardDrain_sequencer (s : State) : (discardDrain s).sequencer = s.sequencer := rfl

@[simp] theorem discardDrain_capture (s : State) : (discardDrain s).capture = s.capture := rfl

@[simp] theorem discardDrain_power (s : State) : (discardDrain s).power = s.power := rfl

@[simp] theorem startWatchTimer_pending (s : State) : (startWatchTimer s).pending = s.pending := rfl

@[simp] theorem startWatchTimer_choices (s : State) : (startWatchTimer s).choices = s.choices := rfl

@[simp] theorem startWatchTimer_now (s : State) : (startWatchTimer s).now = s.now := rfl

@[simp] theorem startWatchTimer_tables (s : State) : (startWatchTimer s).tables = s.tables := rfl

@[simp] theorem startWatchTimer_update (s : State) : (startWatchTimer s).update = s.update := rfl

@[simp] theorem startWatchTimer_sweep (s : State) : (startWatchTimer s).sweep = s.sweep := rfl

@[simp] theorem startWatchTimer_chain (s : State) : (startWatchTimer s).chain = s.chain := rfl

@[simp] theorem startWatchTimer_arbiter (s : State) : (startWatchTimer s).arbiter = s.arbiter := rfl

@[simp] theorem startWatchTimer_evaluator (s : State) : (startWatchTimer s).evaluator = s.evaluator := rfl

@[simp] theorem startWatchTimer_protection (s : State) : (startWatchTimer s).protection = s.protection := rfl

@[simp] theorem startWatchTimer_sequencer (s : State) : (startWatchTimer s).sequencer = s.sequencer := rfl

@[simp] theorem startWatchTimer_capture (s : State) : (startWatchTimer s).capture = s.capture := rfl

@[simp] theorem startWatchTimer_link (s : State) : (startWatchTimer s).link = s.link := rfl

@[simp] theorem startWatchTimer_notice (s : State) : (startWatchTimer s).notice = s.notice := rfl

@[simp] theorem enterDeepSleep_pending (s : State) : (enterDeepSleep s).pending = s.pending := by
  unfold enterDeepSleep
  try dsimp only
  (repeat' split) <;> simp

@[simp] theorem enterDeepSleep_choices (s : State) : (enterDeepSleep s).choices = s.choices := by
  unfold enterDeepSleep
  try dsimp only
  (repeat' split) <;> simp

@[simp] theorem enterDeepSleep_now (s : State) : (enterDeepSleep s).now = s.now := by
  unfold enterDeepSleep
  try dsimp only
  (repeat' split) <;> simp

@[simp] theorem enterDeepSleep_tables (s : State) : (enterDeepSleep s).tables = s.tables := by
  unfold enterDeepSleep
  try dsimp only
  (repeat' split) <;> simp

@[simp] theorem enterDeepSleep_update (s : State) : (enterDeepSleep s).update = s.update := by
  unfold enterDeepSleep
  try dsimp only
  (repeat' split) <;> simp

@[simp] theorem enterDeepSleep_sweep (s : State) : (enterDeepSleep s).sweep = s.sweep := by
  unfold enterDeepSleep
  try dsimp only
  (repeat' split) <;> simp

@[simp] theorem enterDeepSleep_arbiter (s : State) : (enterDeepSleep s).arbiter = s.arbiter := by
  unfold enterDeepSleep
  try dsimp only
  (repeat' split) <;> simp

@[simp] theorem enterDeepSleep_evaluator (s : State) : (enterDeepSleep s).evaluator = s.evaluator := by
  unfold enterDeepSleep
  try dsimp only
  (repeat' split) <;> simp

@[simp] theorem enterDeepSleep_protection (s : State) : (enterDeepSleep s).protection = s.protection := by
  unfold enterDeepSleep
  try dsimp only
  (repeat' split) <;> simp

@[simp] theorem enterDeepSleep_sequencer (s : State) : (enterDeepSleep s).sequencer = s.sequencer := by
  unfold enterDeepSleep
  try dsimp only
  (repeat' split) <;> simp

@[simp] theorem enterDeepSleep_capture (s : State) : (enterDeepSleep s).capture = s.capture := by
  unfold enterDeepSleep
  try dsimp only
  (repeat' split) <;> simp

@[simp] theorem enterDeepSleep_link (s : State) : (enterDeepSleep s).link = s.link := by
  unfold enterDeepSleep
  try dsimp only
  (repeat' split) <;> simp

@[simp] theorem enterDeepSleep_notice (s : State) : (enterDeepSleep s).notice = s.notice := by
  unfold enterDeepSleep
  try dsimp only
  (repeat' split) <;> simp

@[simp] theorem beginCycle_pending (s : State) : (beginCycle s).pending = s.pending := rfl

@[simp] theorem beginCycle_choices (s : State) : (beginCycle s).choices = s.choices := rfl

@[simp] theorem beginCycle_now (s : State) : (beginCycle s).now = s.now := rfl

@[simp] theorem beginCycle_tables (s : State) : (beginCycle s).tables = s.tables := rfl

@[simp] theorem beginCycle_update (s : State) : (beginCycle s).update = s.update := rfl

@[simp] theorem beginCycle_sweep (s : State) : (beginCycle s).sweep = s.sweep := rfl

@[simp] theorem beginCycle_arbiter (s : State) : (beginCycle s).arbiter = s.arbiter := rfl

@[simp] theorem beginCycle_evaluator (s : State) : (beginCycle s).evaluator = s.evaluator := rfl

@[simp] theorem beginCycle_protection (s : State) : (beginCycle s).protection = s.protection := rfl

@[simp] theorem beginCycle_sequencer (s : State) : (beginCycle s).sequencer = s.sequencer := rfl

@[simp] theorem beginCycle_capture (s : State) : (beginCycle s).capture = s.capture := rfl

@[simp] theorem beginCycle_link (s : State) : (beginCycle s).link = s.link := rfl

@[simp] theorem beginCycle_notice (s : State) : (beginCycle s).notice = s.notice := rfl

@[simp] theorem watchTimerDue_pending (s : State) : (watchTimerDue s).pending = s.pending := by
  unfold watchTimerDue
  try dsimp only
  (repeat' split) <;> simp

@[simp] theorem watchTimerDue_choices (s : State) : (watchTimerDue s).choices = s.choices := by
  unfold watchTimerDue
  try dsimp only
  (repeat' split) <;> simp

@[simp] theorem watchTimerDue_now (s : State) : (watchTimerDue s).now = s.now := by
  unfold watchTimerDue
  try dsimp only
  (repeat' split) <;> simp

@[simp] theorem watchTimerDue_tables (s : State) : (watchTimerDue s).tables = s.tables := by
  unfold watchTimerDue
  try dsimp only
  (repeat' split) <;> simp

@[simp] theorem watchTimerDue_update (s : State) : (watchTimerDue s).update = s.update := by
  unfold watchTimerDue
  try dsimp only
  (repeat' split) <;> simp

@[simp] theorem watchTimerDue_sweep (s : State) : (watchTimerDue s).sweep = s.sweep := by
  unfold watchTimerDue
  try dsimp only
  (repeat' split) <;> simp

@[simp] theorem watchTimerDue_arbiter (s : State) : (watchTimerDue s).arbiter = s.arbiter := by
  unfold watchTimerDue
  try dsimp only
  (repeat' split) <;> simp

@[simp] theorem watchTimerDue_evaluator (s : State) : (watchTimerDue s).evaluator = s.evaluator := by
  unfold watchTimerDue
  try dsimp only
  (repeat' split) <;> simp

@[simp] theorem watchTimerDue_protection (s : State) : (watchTimerDue s).protection = s.protection := by
  unfold watchTimerDue
  try dsimp only
  (repeat' split) <;> simp

@[simp] theorem watchTimerDue_sequencer (s : State) : (watchTimerDue s).sequencer = s.sequencer := by
  unfold watchTimerDue
  try dsimp only
  (repeat' split) <;> simp

@[simp] theorem watchTimerDue_capture (s : State) : (watchTimerDue s).capture = s.capture := by
  unfold watchTimerDue
  try dsimp only
  (repeat' split) <;> simp

@[simp] theorem watchTimerDue_link (s : State) : (watchTimerDue s).link = s.link := by
  unfold watchTimerDue
  try dsimp only
  (repeat' split) <;> simp

@[simp] theorem watchTimerDue_notice (s : State) : (watchTimerDue s).notice = s.notice := by
  unfold watchTimerDue
  try dsimp only
  (repeat' split) <;> simp

@[simp] theorem endCycle_pending (s : State) : (endCycle s).pending = s.pending := rfl

@[simp] theorem endCycle_choices (s : State) : (endCycle s).choices = s.choices := rfl

@[simp] theorem endCycle_now (s : State) : (endCycle s).now = s.now := rfl

@[simp] theorem endCycle_tables (s : State) : (endCycle s).tables = s.tables := rfl

@[simp] theorem endCycle_update (s : State) : (endCycle s).update = s.update := rfl

@[simp] theorem endCycle_sweep (s : State) : (endCycle s).sweep = s.sweep := rfl

@[simp] theorem endCycle_arbiter (s : State) : (endCycle s).arbiter = s.arbiter := rfl

@[simp] theorem endCycle_evaluator (s : State) : (endCycle s).evaluator = s.evaluator := rfl

@[simp] theorem endCycle_protection (s : State) : (endCycle s).protection = s.protection := rfl

@[simp] theorem endCycle_sequencer (s : State) : (endCycle s).sequencer = s.sequencer := rfl

@[simp] theorem endCycle_capture (s : State) : (endCycle s).capture = s.capture := rfl

@[simp] theorem endCycle_link (s : State) : (endCycle s).link = s.link := rfl

@[simp] theorem endCycle_notice (s : State) : (endCycle s).notice = s.notice := rfl

@[simp] theorem watchBroadcastEnd_pending (k : Byte) (s : State) : (watchBroadcastEnd k s).pending = s.pending := by
  unfold watchBroadcastEnd
  try dsimp only
  (repeat' split) <;> simp

@[simp] theorem watchBroadcastEnd_choices (k : Byte) (s : State) : (watchBroadcastEnd k s).choices = s.choices := by
  unfold watchBroadcastEnd
  try dsimp only
  (repeat' split) <;> simp

@[simp] theorem watchBroadcastEnd_now (k : Byte) (s : State) : (watchBroadcastEnd k s).now = s.now := by
  unfold watchBroadcastEnd
  try dsimp only
  (repeat' split) <;> simp

@[simp] theorem watchBroadcastEnd_tables (k : Byte) (s : State) : (watchBroadcastEnd k s).tables = s.tables := by
  unfold watchBroadcastEnd
  try dsimp only
  (repeat' split) <;> simp

@[simp] theorem watchBroadcastEnd_update (k : Byte) (s : State) : (watchBroadcastEnd k s).update = s.update := by
  unfold watchBroadcastEnd
  try dsimp only
  (repeat' split) <;> simp

@[simp] theorem watchBroadcastEnd_sweep (k : Byte) (s : State) : (watchBroadcastEnd k s).sweep = s.sweep := by
  unfold watchBroadcastEnd
  try dsimp only
  (repeat' split) <;> simp

@[simp] theorem watchBroadcastEnd_arbiter (k : Byte) (s : State) : (watchBroadcastEnd k s).arbiter = s.arbiter := by
  unfold watchBroadcastEnd
  try dsimp only
  (repeat' split) <;> simp

@[simp] theorem watchBroadcastEnd_evaluator (k : Byte) (s : State) : (watchBroadcastEnd k s).evaluator = s.evaluator := by
  unfold watchBroadcastEnd
  try dsimp only
  (repeat' split) <;> simp

@[simp] theorem watchBroadcastEnd_protection (k : Byte) (s : State) : (watchBroadcastEnd k s).protection = s.protection := by
  unfold watchBroadcastEnd
  try dsimp only
  (repeat' split) <;> simp

@[simp] theorem watchBroadcastEnd_sequencer (k : Byte) (s : State) : (watchBroadcastEnd k s).sequencer = s.sequencer := by
  unfold watchBroadcastEnd
  try dsimp only
  (repeat' split) <;> simp

@[simp] theorem watchBroadcastEnd_capture (k : Byte) (s : State) : (watchBroadcastEnd k s).capture = s.capture := by
  unfold watchBroadcastEnd
  try dsimp only
  (repeat' split) <;> simp

@[simp] theorem watchBroadcastEnd_link (k : Byte) (s : State) : (watchBroadcastEnd k s).link = s.link := by
  unfold watchBroadcastEnd
  try dsimp only
  (repeat' split) <;> simp

@[simp] theorem watchBroadcastEnd_notice (k : Byte) (s : State) : (watchBroadcastEnd k s).notice = s.notice := by
  unfold watchBroadcastEnd
  try dsimp only
  (repeat' split) <;> simp

@[simp] theorem judgeNoAnswer_pending (p : Nat) (a : Bool) (s : State) : (judgeNoAnswer p a s).pending = s.pending := by
  unfold judgeNoAnswer
  try dsimp only
  (repeat' split) <;> simp

@[simp] theorem judgeNoAnswer_choices (p : Nat) (a : Bool) (s : State) : (judgeNoAnswer p a s).choices = s.choices := by
  unfold judgeNoAnswer
  try dsimp only
  (repeat' split) <;> simp

@[simp] theorem judgeNoAnswer_now (p : Nat) (a : Bool) (s : State) : (judgeNoAnswer p a s).now = s.now := by
  unfold judgeNoAnswer
  try dsimp only
  (repeat' split) <;> simp

@[simp] theorem judgeNoAnswer_tables (p : Nat) (a : Bool) (s : State) : (judgeNoAnswer p a s).tables = s.tables := by
  unfold judgeNoAnswer
  try dsimp only
  (repeat' split) <;> simp

@[simp] theorem judgeNoAnswer_update (p : Nat) (a : Bool) (s : State) : (judgeNoAnswer p a s).update = s.update := by
  unfold judgeNoAnswer
  try dsimp only
  (repeat' split) <;> simp

@[simp] theorem judgeNoAnswer_sweep (p : Nat) (a : Bool) (s : State) : (judgeNoAnswer p a s).sweep = s.sweep := by
  unfold judgeNoAnswer
  try dsimp only
  (repeat' split) <;> simp

@[simp] theorem judgeNoAnswer_chain (p : Nat) (a : Bool) (s : State) : (judgeNoAnswer p a s).chain = s.chain := by
  unfold judgeNoAnswer
  try dsimp only
  (repeat' split) <;> simp

@[simp] theorem judgeNoAnswer_arbiter (p : Nat) (a : Bool) (s : State) : (judgeNoAnswer p a s).arbiter = s.arbiter := by
  unfold judgeNoAnswer
  try dsimp only
  (repeat' split) <;> simp

@[simp] theorem judgeNoAnswer_evaluator (p : Nat) (a : Bool) (s : State) : (judgeNoAnswer p a s).evaluator = s.evaluator := by
  unfold judgeNoAnswer
  try dsimp only
  (repeat' split) <;> simp

@[simp] theorem judgeNoAnswer_protection (p : Nat) (a : Bool) (s : State) : (judgeNoAnswer p a s).protection = s.protection := by
  unfold judgeNoAnswer
  try dsimp only
  (repeat' split) <;> simp

@[simp] theorem judgeNoAnswer_sequencer (p : Nat) (a : Bool) (s : State) : (judgeNoAnswer p a s).sequencer = s.sequencer := by
  unfold judgeNoAnswer
  try dsimp only
  (repeat' split) <;> simp

@[simp] theorem judgeNoAnswer_capture (p : Nat) (a : Bool) (s : State) : (judgeNoAnswer p a s).capture = s.capture := by
  unfold judgeNoAnswer
  try dsimp only
  (repeat' split) <;> simp

@[simp] theorem judgeNoAnswer_link (p : Nat) (a : Bool) (s : State) : (judgeNoAnswer p a s).link = s.link := by
  unfold judgeNoAnswer
  try dsimp only
  (repeat' split) <;> simp

@[simp] theorem judgeNoAnswer_notice (p : Nat) (a : Bool) (s : State) : (judgeNoAnswer p a s).notice = s.notice := by
  unfold judgeNoAnswer
  try dsimp only
  (repeat' split) <;> simp

@[simp] theorem watchAnswered_pending (p : Nat) (kind : ReadKind) (d : List Byte) (s : State) : (watchAnswered p kind d s).pending = s.pending := by
  unfold watchAnswered
  try dsimp only
  have h := judgeWatch_pending p kind (eachChannel storeWatchChannel p kind d s)
  generalize judgeWatch p kind (eachChannel storeWatchChannel p kind d s) = r at h
  (repeat' split) <;> simp_all

@[simp] theorem watchAnswered_choices (p : Nat) (kind : ReadKind) (d : List Byte) (s : State) : (watchAnswered p kind d s).choices = s.choices := by
  unfold watchAnswered
  try dsimp only
  have h := judgeWatch_choices p kind (eachChannel storeWatchChannel p kind d s)
  generalize judgeWatch p kind (eachChannel storeWatchChannel p kind d s) = r at h
  (repeat' split) <;> simp_all

@[simp] theorem watchAnswered_now (p : Nat) (kind : ReadKind) (d : List Byte) (s : State) : (watchAnswered p kind d s).now = s.now := by
  unfold watchAnswered
  try dsimp only
  have h := judgeWatch_now p kind (eachChannel storeWatchChannel p kind d s)
  generalize judgeWatch p kind (eachChannel storeWatchChannel p kind d s) = r at h
  (repeat' split) <;> simp_all

@[simp] theorem watchAnswered_tables (p : Nat) (kind : ReadKind) (d : List Byte) (s : State) : (watchAnswered p kind d s).tables = s.tables := by
  unfold watchAnswered
  try dsimp only
  have h := judgeWatch_tables p kind (eachChannel storeWatchChannel p kind d s)
  generalize judgeWatch p kind (eachChannel storeWatchChannel p kind d s) = r at h
  (repeat' split) <;> simp_all

@[simp] theorem watchAnswered_update (p : Nat) (kind : ReadKind) (d : List Byte) (s : State) : (watchAnswered p kind d s).update = s.update := by
  unfold watchAnswered
  try dsimp only
  have h := judgeWatch_update p kind (eachChannel storeWatchChannel p kind d s)
  generalize judgeWatch p kind (eachChannel storeWatchChannel p kind d s) = r at h
  (repeat' split) <;> simp_all

@[simp] theorem watchAnswered_chain (p : Nat) (kind : ReadKind) (d : List Byte) (s : State) : (watchAnswered p kind d s).chain = s.chain := by
  unfold watchAnswered
  try dsimp only
  have h := judgeWatch_chain p kind (eachChannel storeWatchChannel p kind d s)
  generalize judgeWatch p kind (eachChannel storeWatchChannel p kind d s) = r at h
  (repeat' split) <;> simp_all

@[simp] theorem watchAnswered_arbiter (p : Nat) (kind : ReadKind) (d : List Byte) (s : State) : (watchAnswered p kind d s).arbiter = s.arbiter := by
  unfold watchAnswered
  try dsimp only
  have h := judgeWatch_arbiter p kind (eachChannel storeWatchChannel p kind d s)
  generalize judgeWatch p kind (eachChannel storeWatchChannel p kind d s) = r at h
  (repeat' split) <;> simp_all

@[simp] theorem watchAnswered_link (p : Nat) (kind : ReadKind) (d : List Byte) (s : State) : (watchAnswered p kind d s).link = s.link := by
  unfold watchAnswered
  try dsimp only
  have h := judgeWatch_link p kind (eachChannel storeWatchChannel p kind d s)
  generalize judgeWatch p kind (eachChannel storeWatchChannel p kind d s) = r at h
  (repeat' split) <;> simp_all

@[simp] theorem watchReadEnd_pending (p : Nat) (kind : ReadKind) (a : Option (List Byte)) (s : State) : (watchReadEnd p kind a s).pending = s.pending := by
  unfold watchReadEnd
  try dsimp only
  (repeat' split) <;> simp

@[simp] theorem watchReadEnd_choices (p : Nat) (kind : ReadKind) (a : Option (List Byte)) (s : State) : (watchReadEnd p kind a s).choices = s.choices := by
  unfold watchReadEnd
  try dsimp only
  (repeat' split) <;> simp

@[simp] theorem watchReadEnd_now (p : Nat) (kind : ReadKind) (a : Option (List Byte)) (s : State) : (watchReadEnd p kind a s).now = s.now := by
  unfold watchReadEnd
  try dsimp only
  (repeat' split) <;> simp

@[simp] theorem watchReadEnd_tables (p : Nat) (kind : ReadKind) (a : Option (List Byte)) (s : State) : (watchReadEnd p kind a s).tables = s.tables := by
  unfold watchReadEnd
  try dsimp only
  (repeat' split) <;> simp

@[simp] theorem watchReadEnd_update (p : Nat) (kind : ReadKind) (a : Option (List Byte)) (s : State) : (watchReadEnd p kind a s).update = s.update := by
  unfold watchReadEnd
  try dsimp only
  (repeat' split) <;> simp

@[simp] theorem watchReadEnd_chain (p : Nat) (kind : ReadKind) (a : Option (List Byte)) (s : State) : (watchReadEnd p kind a s).chain = s.chain := by
  unfold watchReadEnd
  try dsimp only
  (repeat' split) <;> simp

@[simp] theorem watchReadEnd_arbiter (p : Nat) (kind : ReadKind) (a : Option (List Byte)) (s : State) : (watchReadEnd p kind a s).arbiter = s.arbiter := by
  unfold watchReadEnd
  try dsimp only
  (repeat' split) <;> simp

@[simp] theorem watchReadEnd_link (p : Nat) (kind : ReadKind) (a : Option (List Byte)) (s : State) : (watchReadEnd p kind a s).link = s.link := by
  unfold watchReadEnd
  try dsimp only
  (repeat' split) <;> simp

@[simp] theorem clearMisses_pending (p : Nat) (s : State) : (clearMisses p s).pending = s.pending := rfl

@[simp] theorem clearMisses_choices (p : Nat) (s : State) : (clearMisses p s).choices = s.choices := rfl

@[simp] theorem clearMisses_now (p : Nat) (s : State) : (clearMisses p s).now = s.now := rfl

@[simp] theorem clearMisses_tables (p : Nat) (s : State) : (clearMisses p s).tables = s.tables := rfl

@[simp] theorem clearMisses_update (p : Nat) (s : State) : (clearMisses p s).update = s.update := rfl

@[simp] theorem clearMisses_sweep (p : Nat) (s : State) : (clearMisses p s).sweep = s.sweep := rfl

@[simp] theorem clearMisses_arbiter (p : Nat) (s : State) : (clearMisses p s).arbiter = s.arbiter := rfl

@[simp] theorem clearMisses_evaluator (p : Nat) (s : State) : (clearMisses p s).evaluator = s.evaluator := rfl

@[simp] theorem clearMisses_protection (p : Nat) (s : State) : (clearMisses p s).protection = s.protection := rfl

@[simp] theorem clearMisses_sequencer (p : Nat) (s : State) : (clearMisses p s).sequencer = s.sequencer := rfl

@[simp] theorem clearMisses_capture (p : Nat) (s : State) : (clearMisses p s).capture = s.capture := rfl

@[simp] theorem clearMisses_power (p : Nat) (s : State) : (clearMisses p s).power = s.power := rfl

@[simp] theorem clearMisses_link (p : Nat) (s : State) : (clearMisses p s).link = s.link := rfl

@[simp] theorem clearMisses_notice (p : Nat) (s : State) : (clearMisses p s).notice = s.notice := rfl

@[simp] theorem becomeLost_pending (p : Nat) (st : Stamp) (s : State) : (becomeLost p st s).pending = s.pending := by
  unfold becomeLost
  try dsimp only
  simp

@[simp] theorem becomeLost_choices (p : Nat) (st : Stamp) (s : State) : (becomeLost p st s).choices = s.choices := by
  unfold becomeLost
  try dsimp only
  simp

@[simp] theorem becomeLost_now (p : Nat) (st : Stamp) (s : State) : (becomeLost p st s).now = s.now := by
  unfold becomeLost
  try dsimp only
  simp

@[simp] theorem becomeLost_tables (p : Nat) (st : Stamp) (s : State) : (becomeLost p st s).tables = s.tables := by
  unfold becomeLost
  try dsimp only
  simp

@[simp] theorem becomeLost_update (p : Nat) (st : Stamp) (s : State) : (becomeLost p st s).update = s.update := by
  unfold becomeLost
  try dsimp only
  simp

@[simp] theorem becomeLost_arbiter (p : Nat) (st : Stamp) (s : State) : (becomeLost p st s).arbiter = s.arbiter := by
  unfold becomeLost
  try dsimp only
  simp

@[simp] theorem becomeLost_power (p : Nat) (st : Stamp) (s : State) : (becomeLost p st s).power = s.power := by
  unfold becomeLost
  try dsimp only
  simp

@[simp] theorem becomeLost_link (p : Nat) (st : Stamp) (s : State) : (becomeLost p st s).link = s.link := by
  unfold becomeLost
  try dsimp only
  simp

@[simp] theorem countMiss_pending (p : Nat) (st : Stamp) (s : State) : (countMiss p st s).pending = s.pending := by
  unfold countMiss
  try dsimp only
  (repeat' split) <;> simp

@[simp] theorem countMiss_choices (p : Nat) (st : Stamp) (s : State) : (countMiss p st s).choices = s.choices := by
  unfold countMiss
  try dsimp only
  (repeat' split) <;> simp

@[simp] theorem countMiss_now (p : Nat) (st : Stamp) (s : State) : (countMiss p st s).now = s.now := by
  unfold countMiss
  try dsimp only
  (repeat' split) <;> simp

@[simp] theorem countMiss_tables (p : Nat) (st : Stamp) (s : State) : (countMiss p st s).tables = s.tables := by
  unfold countMiss
  try dsimp only
  (repeat' split) <;> simp

@[simp] theorem countMiss_update (p : Nat) (st : Stamp) (s : State) : (countMiss p st s).update = s.update := by
  unfold countMiss
  try dsimp only
  (repeat' split) <;> simp

@[simp] theorem countMiss_arbiter (p : Nat) (st : Stamp) (s : State) : (countMiss p st s).arbiter = s.arbiter := by
  unfold countMiss
  try dsimp only
  (repeat' split) <;> simp

@[simp] theorem countMiss_power (p : Nat) (st : Stamp) (s : State) : (countMiss p st s).power = s.power := by
  unfold countMiss
  try dsimp only
  (repeat' split) <;> simp

@[simp] theorem countMiss_link (p : Nat) (st : Stamp) (s : State) : (countMiss p st s).link = s.link := by
  unfold countMiss
  try dsimp only
  (repeat' split) <;> simp

@[simp] theorem applyMiss_pending (q : Requester) (p : Nat) (e : Ending) (s : State) : (applyMiss q p e s).pending = s.pending := by
  unfold applyMiss
  try dsimp only
  (repeat' split) <;> simp

@[simp] theorem applyMiss_choices (q : Requester) (p : Nat) (e : Ending) (s : State) : (applyMiss q p e s).choices = s.choices := by
  unfold applyMiss
  try dsimp only
  (repeat' split) <;> simp

@[simp] theorem applyMiss_now (q : Requester) (p : Nat) (e : Ending) (s : State) : (applyMiss q p e s).now = s.now := by
  unfold applyMiss
  try dsimp only
  (repeat' split) <;> simp

@[simp] theorem applyMiss_tables (q : Requester) (p : Nat) (e : Ending) (s : State) : (applyMiss q p e s).tables = s.tables := by
  unfold applyMiss
  try dsimp only
  (repeat' split) <;> simp

@[simp] theorem applyMiss_update (q : Requester) (p : Nat) (e : Ending) (s : State) : (applyMiss q p e s).update = s.update := by
  unfold applyMiss
  try dsimp only
  (repeat' split) <;> simp

@[simp] theorem applyMiss_arbiter (q : Requester) (p : Nat) (e : Ending) (s : State) : (applyMiss q p e s).arbiter = s.arbiter := by
  unfold applyMiss
  try dsimp only
  (repeat' split) <;> simp

@[simp] theorem applyMiss_power (q : Requester) (p : Nat) (e : Ending) (s : State) : (applyMiss q p e s).power = s.power := by
  unfold applyMiss
  try dsimp only
  (repeat' split) <;> simp

@[simp] theorem applyMiss_link (q : Requester) (p : Nat) (e : Ending) (s : State) : (applyMiss q p e s).link = s.link := by
  unfold applyMiss
  try dsimp only
  (repeat' split) <;> simp

@[simp] theorem handForward_pending (p : Nat) (e : Ending) (s : State) : (handForward p e s).pending = s.pending := rfl

@[simp] theorem handForward_choices (p : Nat) (e : Ending) (s : State) : (handForward p e s).choices = s.choices := rfl

@[simp] theorem handForward_now (p : Nat) (e : Ending) (s : State) : (handForward p e s).now = s.now := rfl

@[simp] theorem handForward_tables (p : Nat) (e : Ending) (s : State) : (handForward p e s).tables = s.tables := rfl

@[simp] theorem handForward_update (p : Nat) (e : Ending) (s : State) : (handForward p e s).update = s.update := rfl

@[simp] theorem handForward_sweep (p : Nat) (e : Ending) (s : State) : (handForward p e s).sweep = s.sweep := rfl

@[simp] theorem handForward_chain (p : Nat) (e : Ending) (s : State) : (handForward p e s).chain = s.chain := rfl

@[simp] theorem handForward_arbiter (p : Nat) (e : Ending) (s : State) : (handForward p e s).arbiter = s.arbiter := rfl

@[simp] theorem handForward_evaluator (p : Nat) (e : Ending) (s : State) : (handForward p e s).evaluator = s.evaluator := rfl

@[simp] theorem handForward_protection (p : Nat) (e : Ending) (s : State) : (handForward p e s).protection = s.protection := rfl

@[simp] theorem handForward_sequencer (p : Nat) (e : Ending) (s : State) : (handForward p e s).sequencer = s.sequencer := rfl

@[simp] theorem handForward_capture (p : Nat) (e : Ending) (s : State) : (handForward p e s).capture = s.capture := rfl

@[simp] theorem handForward_power (p : Nat) (e : Ending) (s : State) : (handForward p e s).power = s.power := rfl

@[simp] theorem handForward_notice (p : Nat) (e : Ending) (s : State) : (handForward p e s).notice = s.notice := rfl

@[simp] theorem handSweep_pending (p : Nat) (k : ReadKind) (e : Ending) (s : State) : (handSweep p k e s).pending = s.pending := by
  unfold handSweep
  try dsimp only
  (repeat' split) <;> simp

@[simp] theorem handSweep_now (p : Nat) (k : ReadKind) (e : Ending) (s : State) : (handSweep p k e s).now = s.now := by
  unfold handSweep
  try dsimp only
  (repeat' split) <;> simp

@[simp] theorem handSweep_tables (p : Nat) (k : ReadKind) (e : Ending) (s : State) : (handSweep p k e s).tables = s.tables := by
  unfold handSweep
  try dsimp only
  (repeat' split) <;> simp

@[simp] theorem handSweep_update (p : Nat) (k : ReadKind) (e : Ending) (s : State) : (handSweep p k e s).update = s.update := by
  unfold handSweep
  try dsimp only
  (repeat' split) <;> simp

@[simp] theorem handSweep_chain (p : Nat) (k : ReadKind) (e : Ending) (s : State) : (handSweep p k e s).chain = s.chain := by
  unfold handSweep
  try dsimp only
  (repeat' split) <;> simp

@[simp] theorem handSweep_arbiter (p : Nat) (k : ReadKind) (e : Ending) (s : State) : (handSweep p k e s).arbiter = s.arbiter := by
  unfold handSweep
  try dsimp only
  (repeat' split) <;> simp

@[simp] theorem handSweep_power (p : Nat) (k : ReadKind) (e : Ending) (s : State) : (handSweep p k e s).power = s.power := by
  unfold handSweep
  try dsimp only
  (repeat' split) <;> simp

@[simp] theorem handCapture_pending (p : Nat) (id : Half) (e : Ending) (s : State) : (handCapture p id e s).pending = s.pending := by
  unfold handCapture
  try dsimp only
  (repeat' split) <;> simp

@[simp] theorem handCapture_choices (p : Nat) (id : Half) (e : Ending) (s : State) : (handCapture p id e s).choices = s.choices := by
  unfold handCapture
  try dsimp only
  (repeat' split) <;> simp

@[simp] theorem handCapture_now (p : Nat) (id : Half) (e : Ending) (s : State) : (handCapture p id e s).now = s.now := by
  unfold handCapture
  try dsimp only
  (repeat' split) <;> simp

@[simp] theorem handCapture_tables (p : Nat) (id : Half) (e : Ending) (s : State) : (handCapture p id e s).tables = s.tables := by
  unfold handCapture
  try dsimp only
  (repeat' split) <;> simp

@[simp] theorem handCapture_update (p : Nat) (id : Half) (e : Ending) (s : State) : (handCapture p id e s).update = s.update := by
  unfold handCapture
  try dsimp only
  (repeat' split) <;> simp

@[simp] theorem handCapture_sweep (p : Nat) (id : Half) (e : Ending) (s : State) : (handCapture p id e s).sweep = s.sweep := by
  unfold handCapture
  try dsimp only
  (repeat' split) <;> simp

@[simp] theorem handCapture_chain (p : Nat) (id : Half) (e : Ending) (s : State) : (handCapture p id e s).chain = s.chain := by
  unfold handCapture
  try dsimp only
  (repeat' split) <;> simp

@[simp] theorem handCapture_arbiter (p : Nat) (id : Half) (e : Ending) (s : State) : (handCapture p id e s).arbiter = s.arbiter := by
  unfold handCapture
  try dsimp only
  (repeat' split) <;> simp

@[simp] theorem handCapture_protection (p : Nat) (id : Half) (e : Ending) (s : State) : (handCapture p id e s).protection = s.protection := by
  unfold handCapture
  try dsimp only
  (repeat' split) <;> simp

@[simp] theorem handCapture_power (p : Nat) (id : Half) (e : Ending) (s : State) : (handCapture p id e s).power = s.power := by
  unfold handCapture
  try dsimp only
  (repeat' split) <;> simp

@[simp] theorem handCapture_link (p : Nat) (id : Half) (e : Ending) (s : State) : (handCapture p id e s).link = s.link := by
  unfold handCapture
  try dsimp only
  (repeat' split) <;> simp

@[simp] theorem endEnumeration_pending (f : Bool) (s : State) : (endEnumeration f s).pending = s.pending := rfl

@[simp] theorem endEnumeration_choices (f : Bool) (s : State) : (endEnumeration f s).choices = s.choices := rfl

@[simp] theorem endEnumeration_now (f : Bool) (s : State) : (endEnumeration f s).now = s.now := rfl

@[simp] theorem endEnumeration_tables (f : Bool) (s : State) : (endEnumeration f s).tables = s.tables := rfl

@[simp] theorem endEnumeration_update (f : Bool) (s : State) : (endEnumeration f s).update = s.update := rfl

@[simp] theorem endEnumeration_sweep (f : Bool) (s : State) : (endEnumeration f s).sweep = s.sweep := rfl

@[simp] theorem endEnumeration_arbiter (f : Bool) (s : State) : (endEnumeration f s).arbiter = s.arbiter := rfl

@[simp] theorem endEnumeration_evaluator (f : Bool) (s : State) : (endEnumeration f s).evaluator = s.evaluator := rfl

@[simp] theorem endEnumeration_protection (f : Bool) (s : State) : (endEnumeration f s).protection = s.protection := rfl

@[simp] theorem endEnumeration_sequencer (f : Bool) (s : State) : (endEnumeration f s).sequencer = s.sequencer := rfl

@[simp] theorem endEnumeration_capture (f : Bool) (s : State) : (endEnumeration f s).capture = s.capture := rfl

@[simp] theorem endEnumeration_power (f : Bool) (s : State) : (endEnumeration f s).power = s.power := rfl

@[simp] theorem endEnumeration_link (f : Bool) (s : State) : (endEnumeration f s).link = s.link := rfl

@[simp] theorem handEnumerate_pending (k : Nat) (e : Ending) (s : State) : (handEnumerate k e s).pending = s.pending := by
  unfold handEnumerate
  try dsimp only
  (repeat' split) <;> simp

@[simp] theorem handEnumerate_choices (k : Nat) (e : Ending) (s : State) : (handEnumerate k e s).choices = s.choices := by
  unfold handEnumerate
  try dsimp only
  (repeat' split) <;> simp

@[simp] theorem handEnumerate_now (k : Nat) (e : Ending) (s : State) : (handEnumerate k e s).now = s.now := by
  unfold handEnumerate
  try dsimp only
  (repeat' split) <;> simp

@[simp] theorem handEnumerate_tables (k : Nat) (e : Ending) (s : State) : (handEnumerate k e s).tables = s.tables := by
  unfold handEnumerate
  try dsimp only
  (repeat' split) <;> simp

@[simp] theorem handEnumerate_update (k : Nat) (e : Ending) (s : State) : (handEnumerate k e s).update = s.update := by
  unfold handEnumerate
  try dsimp only
  (repeat' split) <;> simp

@[simp] theorem handEnumerate_sweep (k : Nat) (e : Ending) (s : State) : (handEnumerate k e s).sweep = s.sweep := by
  unfold handEnumerate
  try dsimp only
  (repeat' split) <;> simp

@[simp] theorem handEnumerate_arbiter (k : Nat) (e : Ending) (s : State) : (handEnumerate k e s).arbiter = s.arbiter := by
  unfold handEnumerate
  try dsimp only
  (repeat' split) <;> simp

@[simp] theorem handEnumerate_evaluator (k : Nat) (e : Ending) (s : State) : (handEnumerate k e s).evaluator = s.evaluator := by
  unfold handEnumerate
  try dsimp only
  (repeat' split) <;> simp

@[simp] theorem handEnumerate_protection (k : Nat) (e : Ending) (s : State) : (handEnumerate k e s).protection = s.protection := by
  unfold handEnumerate
  try dsimp only
  (repeat' split) <;> simp

@[simp] theorem handEnumerate_sequencer (k : Nat) (e : Ending) (s : State) : (handEnumerate k e s).sequencer = s.sequencer := by
  unfold handEnumerate
  try dsimp only
  (repeat' split) <;> simp

@[simp] theorem handEnumerate_capture (k : Nat) (e : Ending) (s : State) : (handEnumerate k e s).capture = s.capture := by
  unfold handEnumerate
  try dsimp only
  (repeat' split) <;> simp

@[simp] theorem handEnumerate_power (k : Nat) (e : Ending) (s : State) : (handEnumerate k e s).power = s.power := by
  unfold handEnumerate
  try dsimp only
  (repeat' split) <;> simp

@[simp] theorem handEnumerate_link (k : Nat) (e : Ending) (s : State) : (handEnumerate k e s).link = s.link := by
  unfold handEnumerate
  try dsimp only
  (repeat' split) <;> simp

@[simp] theorem handOn_pending (t : Transaction) (p : Nat) (e : Ending) (s : State) : (handOn t p e s).pending = s.pending := by
  unfold handOn
  try dsimp only
  (repeat' split) <;> simp

@[simp] theorem handOn_now (t : Transaction) (p : Nat) (e : Ending) (s : State) : (handOn t p e s).now = s.now := by
  unfold handOn
  try dsimp only
  (repeat' split) <;> simp

@[simp] theorem handOn_tables (t : Transaction) (p : Nat) (e : Ending) (s : State) : (handOn t p e s).tables = s.tables := by
  unfold handOn
  try dsimp only
  (repeat' split) <;> simp

@[simp] theorem handOn_update (t : Transaction) (p : Nat) (e : Ending) (s : State) : (handOn t p e s).update = s.update := by
  unfold handOn
  try dsimp only
  (repeat' split) <;> simp

@[simp] theorem handOn_arbiter (t : Transaction) (p : Nat) (e : Ending) (s : State) : (handOn t p e s).arbiter = s.arbiter := by
  unfold handOn
  try dsimp only
  (repeat' split) <;> simp

@[simp] theorem finish_pending (t : Transaction) (p : Nat) (e : Ending) (s : State) : (finish t p e s).pending = s.pending := by
  unfold finish
  try dsimp only
  simp

@[simp] theorem finish_now (t : Transaction) (p : Nat) (e : Ending) (s : State) : (finish t p e s).now = s.now := by
  unfold finish
  try dsimp only
  simp

@[simp] theorem finish_tables (t : Transaction) (p : Nat) (e : Ending) (s : State) : (finish t p e s).tables = s.tables := by
  unfold finish
  try dsimp only
  simp

@[simp] theorem finish_update (t : Transaction) (p : Nat) (e : Ending) (s : State) : (finish t p e s).update = s.update := by
  unfold finish
  try dsimp only
  simp

@[simp] theorem broadcastEnd_pending (t : Transaction) (s : State) : (broadcastEnd t s).pending = s.pending := by
  unfold broadcastEnd
  try dsimp only
  (repeat' split) <;> simp

@[simp] theorem broadcastEnd_choices (t : Transaction) (s : State) : (broadcastEnd t s).choices = s.choices := by
  unfold broadcastEnd
  try dsimp only
  (repeat' split) <;> simp

@[simp] theorem broadcastEnd_now (t : Transaction) (s : State) : (broadcastEnd t s).now = s.now := by
  unfold broadcastEnd
  try dsimp only
  (repeat' split) <;> simp

@[simp] theorem broadcastEnd_tables (t : Transaction) (s : State) : (broadcastEnd t s).tables = s.tables := by
  unfold broadcastEnd
  try dsimp only
  (repeat' split) <;> simp

@[simp] theorem broadcastEnd_update (t : Transaction) (s : State) : (broadcastEnd t s).update = s.update := by
  unfold broadcastEnd
  try dsimp only
  (repeat' split) <;> simp

@[simp] theorem broadcastEnd_evaluator (t : Transaction) (s : State) : (broadcastEnd t s).evaluator = s.evaluator := by
  unfold broadcastEnd
  try dsimp only
  (repeat' split) <;> simp

@[simp] theorem broadcastEnd_protection (t : Transaction) (s : State) : (broadcastEnd t s).protection = s.protection := by
  unfold broadcastEnd
  try dsimp only
  (repeat' split) <;> simp

@[simp] theorem broadcastEnd_sequencer (t : Transaction) (s : State) : (broadcastEnd t s).sequencer = s.sequencer := by
  unfold broadcastEnd
  try dsimp only
  (repeat' split) <;> simp

@[simp] theorem reportUpdate_pending (r : UpdateResult) (s : State) : (reportUpdate r s).pending = s.pending := rfl

@[simp] theorem reportUpdate_choices (r : UpdateResult) (s : State) : (reportUpdate r s).choices = s.choices := rfl

@[simp] theorem reportUpdate_now (r : UpdateResult) (s : State) : (reportUpdate r s).now = s.now := rfl

@[simp] theorem reportUpdate_tables (r : UpdateResult) (s : State) : (reportUpdate r s).tables = s.tables := rfl

@[simp] theorem reportUpdate_sweep (r : UpdateResult) (s : State) : (reportUpdate r s).sweep = s.sweep := rfl

@[simp] theorem reportUpdate_chain (r : UpdateResult) (s : State) : (reportUpdate r s).chain = s.chain := rfl

@[simp] theorem reportUpdate_arbiter (r : UpdateResult) (s : State) : (reportUpdate r s).arbiter = s.arbiter := rfl

@[simp] theorem reportUpdate_evaluator (r : UpdateResult) (s : State) : (reportUpdate r s).evaluator = s.evaluator := rfl

@[simp] theorem reportUpdate_protection (r : UpdateResult) (s : State) : (reportUpdate r s).protection = s.protection := rfl

@[simp] theorem reportUpdate_sequencer (r : UpdateResult) (s : State) : (reportUpdate r s).sequencer = s.sequencer := rfl

@[simp] theorem reportUpdate_capture (r : UpdateResult) (s : State) : (reportUpdate r s).capture = s.capture := rfl

@[simp] theorem reportUpdate_power (r : UpdateResult) (s : State) : (reportUpdate r s).power = s.power := rfl

@[simp] theorem reportUpdate_link (r : UpdateResult) (s : State) : (reportUpdate r s).link = s.link := rfl

@[simp] theorem dropUpdate_pending (s : State) : (dropUpdate s).pending = s.pending := rfl

@[simp] theorem dropUpdate_choices (s : State) : (dropUpdate s).choices = s.choices := rfl

@[simp] theorem dropUpdate_now (s : State) : (dropUpdate s).now = s.now := rfl

@[simp] theorem dropUpdate_tables (s : State) : (dropUpdate s).tables = s.tables := rfl

@[simp] theorem dropUpdate_sweep (s : State) : (dropUpdate s).sweep = s.sweep := rfl

@[simp] theorem dropUpdate_chain (s : State) : (dropUpdate s).chain = s.chain := rfl

@[simp] theorem dropUpdate_arbiter (s : State) : (dropUpdate s).arbiter = s.arbiter := rfl

@[simp] theorem dropUpdate_evaluator (s : State) : (dropUpdate s).evaluator = s.evaluator := rfl

@[simp] theorem dropUpdate_protection (s : State) : (dropUpdate s).protection = s.protection := rfl

@[simp] theorem dropUpdate_sequencer (s : State) : (dropUpdate s).sequencer = s.sequencer := rfl

@[simp] theorem dropUpdate_capture (s : State) : (dropUpdate s).capture = s.capture := rfl

@[simp] theorem dropUpdate_power (s : State) : (dropUpdate s).power = s.power := rfl

@[simp] theorem dropUpdate_link (s : State) : (dropUpdate s).link = s.link := rfl

@[simp] theorem dropUpdate_notice (s : State) : (dropUpdate s).notice = s.notice := rfl

@[simp] theorem tamperUpdate_pending (s : State) : (tamperUpdate s).pending = s.pending := by
  unfold tamperUpdate
  try dsimp only
  (repeat' split) <;> simp

@[simp] theorem tamperUpdate_choices (s : State) : (tamperUpdate s).choices = s.choices := by
  unfold tamperUpdate
  try dsimp only
  (repeat' split) <;> simp

@[simp] theorem tamperUpdate_now (s : State) : (tamperUpdate s).now = s.now := by
  unfold tamperUpdate
  try dsimp only
  (repeat' split) <;> simp

@[simp] theorem tamperUpdate_tables (s : State) : (tamperUpdate s).tables = s.tables := by
  unfold tamperUpdate
  try dsimp only
  (repeat' split) <;> simp

@[simp] theorem tamperUpdate_sweep (s : State) : (tamperUpdate s).sweep = s.sweep := by
  unfold tamperUpdate
  try dsimp only
  (repeat' split) <;> simp

@[simp] theorem tamperUpdate_chain (s : State) : (tamperUpdate s).chain = s.chain := by
  unfold tamperUpdate
  try dsimp only
  (repeat' split) <;> simp

@[simp] theorem tamperUpdate_arbiter (s : State) : (tamperUpdate s).arbiter = s.arbiter := by
  unfold tamperUpdate
  try dsimp only
  (repeat' split) <;> simp

@[simp] theorem tamperUpdate_evaluator (s : State) : (tamperUpdate s).evaluator = s.evaluator := by
  unfold tamperUpdate
  try dsimp only
  (repeat' split) <;> simp

@[simp] theorem tamperUpdate_protection (s : State) : (tamperUpdate s).protection = s.protection := by
  unfold tamperUpdate
  try dsimp only
  (repeat' split) <;> simp

@[simp] theorem tamperUpdate_sequencer (s : State) : (tamperUpdate s).sequencer = s.sequencer := by
  unfold tamperUpdate
  try dsimp only
  (repeat' split) <;> simp

@[simp] theorem tamperUpdate_capture (s : State) : (tamperUpdate s).capture = s.capture := by
  unfold tamperUpdate
  try dsimp only
  (repeat' split) <;> simp

@[simp] theorem tamperUpdate_power (s : State) : (tamperUpdate s).power = s.power := by
  unfold tamperUpdate
  try dsimp only
  (repeat' split) <;> simp

@[simp] theorem tamperUpdate_link (s : State) : (tamperUpdate s).link = s.link := by
  unfold tamperUpdate
  try dsimp only
  (repeat' split) <;> simp

@[simp] theorem tamperAsserted_pending (s : State) : (tamperAsserted s).pending = s.pending := by
  unfold tamperAsserted
  try dsimp only
  simp

@[simp] theorem tamperAsserted_choices (s : State) : (tamperAsserted s).choices = s.choices := by
  unfold tamperAsserted
  try dsimp only
  simp

@[simp] theorem tamperAsserted_now (s : State) : (tamperAsserted s).now = s.now := by
  unfold tamperAsserted
  try dsimp only
  simp

@[simp] theorem tamperAsserted_tables (s : State) : (tamperAsserted s).tables = s.tables := by
  unfold tamperAsserted
  try dsimp only
  simp

@[simp] theorem tamperAsserted_sweep (s : State) : (tamperAsserted s).sweep = s.sweep := by
  unfold tamperAsserted
  try dsimp only
  simp

@[simp] theorem tamperAsserted_chain (s : State) : (tamperAsserted s).chain = s.chain := by
  unfold tamperAsserted
  try dsimp only
  simp

@[simp] theorem tamperAsserted_arbiter (s : State) : (tamperAsserted s).arbiter = s.arbiter := by
  unfold tamperAsserted
  try dsimp only
  simp

@[simp] theorem tamperAsserted_evaluator (s : State) : (tamperAsserted s).evaluator = s.evaluator := by
  unfold tamperAsserted
  try dsimp only
  simp

@[simp] theorem tamperAsserted_protection (s : State) : (tamperAsserted s).protection = s.protection := by
  unfold tamperAsserted
  try dsimp only
  simp

@[simp] theorem tamperAsserted_sequencer (s : State) : (tamperAsserted s).sequencer = s.sequencer := by
  unfold tamperAsserted
  try dsimp only
  simp

@[simp] theorem tamperAsserted_capture (s : State) : (tamperAsserted s).capture = s.capture := by
  unfold tamperAsserted
  try dsimp only
  simp

@[simp] theorem tamperAsserted_link (s : State) : (tamperAsserted s).link = s.link := by
  unfold tamperAsserted
  try dsimp only
  simp

@[simp] theorem tamperAtReset_pending (s : State) : (tamperAtReset s).pending = s.pending := by
  unfold tamperAtReset
  try dsimp only
  (repeat' split) <;> simp

@[simp] theorem tamperAtReset_choices (s : State) : (tamperAtReset s).choices = s.choices := by
  unfold tamperAtReset
  try dsimp only
  (repeat' split) <;> simp

@[simp] theorem tamperAtReset_now (s : State) : (tamperAtReset s).now = s.now := by
  unfold tamperAtReset
  try dsimp only
  (repeat' split) <;> simp

@[simp] theorem tamperAtReset_tables (s : State) : (tamperAtReset s).tables = s.tables := by
  unfold tamperAtReset
  try dsimp only
  (repeat' split) <;> simp

@[simp] theorem tamperAtReset_sweep (s : State) : (tamperAtReset s).sweep = s.sweep := by
  unfold tamperAtReset
  try dsimp only
  (repeat' split) <;> simp

@[simp] theorem tamperAtReset_chain (s : State) : (tamperAtReset s).chain = s.chain := by
  unfold tamperAtReset
  try dsimp only
  (repeat' split) <;> simp

@[simp] theorem tamperAtReset_arbiter (s : State) : (tamperAtReset s).arbiter = s.arbiter := by
  unfold tamperAtReset
  try dsimp only
  (repeat' split) <;> simp

@[simp] theorem tamperAtReset_evaluator (s : State) : (tamperAtReset s).evaluator = s.evaluator := by
  unfold tamperAtReset
  try dsimp only
  (repeat' split) <;> simp

@[simp] theorem tamperAtReset_protection (s : State) : (tamperAtReset s).protection = s.protection := by
  unfold tamperAtReset
  try dsimp only
  (repeat' split) <;> simp

@[simp] theorem tamperAtReset_sequencer (s : State) : (tamperAtReset s).sequencer = s.sequencer := by
  unfold tamperAtReset
  try dsimp only
  (repeat' split) <;> simp

@[simp] theorem tamperAtReset_capture (s : State) : (tamperAtReset s).capture = s.capture := by
  unfold tamperAtReset
  try dsimp only
  (repeat' split) <;> simp

@[simp] theorem tamperAtReset_link (s : State) : (tamperAtReset s).link = s.link := by
  unfold tamperAtReset
  try dsimp only
  (repeat' split) <;> simp

@[simp] theorem resetEnd_pending (s : State) : (resetEnd s).pending = s.pending := by
  unfold resetEnd
  try dsimp only
  simp

@[simp] theorem resetEnd_choices (s : State) : (resetEnd s).choices = s.choices := by
  unfold resetEnd
  try dsimp only
  simp

@[simp] theorem resetEnd_now (s : State) : (resetEnd s).now = s.now := by
  unfold resetEnd
  try dsimp only
  simp

@[simp] theorem resetEnd_tables (s : State) : (resetEnd s).tables = s.tables := by
  unfold resetEnd
  try dsimp only
  simp

@[simp] theorem resetEnd_evaluator (s : State) : (resetEnd s).evaluator = s.evaluator := by
  unfold resetEnd
  try dsimp only
  simp

@[simp] theorem resetEnd_protection (s : State) : (resetEnd s).protection = s.protection := by
  unfold resetEnd
  try dsimp only
  simp

@[simp] theorem resetEnd_sequencer (s : State) : (resetEnd s).sequencer = s.sequencer := by
  unfold resetEnd
  try dsimp only
  simp

@[simp] theorem setSlot_pending (id : SlotId) (img : Option Image) (s : State) : (setSlot id img s).pending = s.pending := by
  unfold setSlot
  try dsimp only
  (repeat' split) <;> simp

@[simp] theorem setSlot_choices (id : SlotId) (img : Option Image) (s : State) : (setSlot id img s).choices = s.choices := by
  unfold setSlot
  try dsimp only
  (repeat' split) <;> simp

@[simp] theorem setSlot_now (id : SlotId) (img : Option Image) (s : State) : (setSlot id img s).now = s.now := by
  unfold setSlot
  try dsimp only
  (repeat' split) <;> simp

@[simp] theorem setSlot_update (id : SlotId) (img : Option Image) (s : State) : (setSlot id img s).update = s.update := by
  unfold setSlot
  try dsimp only
  (repeat' split) <;> simp

@[simp] theorem setSlot_sweep (id : SlotId) (img : Option Image) (s : State) : (setSlot id img s).sweep = s.sweep := by
  unfold setSlot
  try dsimp only
  (repeat' split) <;> simp

@[simp] theorem setSlot_chain (id : SlotId) (img : Option Image) (s : State) : (setSlot id img s).chain = s.chain := by
  unfold setSlot
  try dsimp only
  (repeat' split) <;> simp

@[simp] theorem setSlot_arbiter (id : SlotId) (img : Option Image) (s : State) : (setSlot id img s).arbiter = s.arbiter := by
  unfold setSlot
  try dsimp only
  (repeat' split) <;> simp

@[simp] theorem setSlot_evaluator (id : SlotId) (img : Option Image) (s : State) : (setSlot id img s).evaluator = s.evaluator := by
  unfold setSlot
  try dsimp only
  (repeat' split) <;> simp

@[simp] theorem setSlot_protection (id : SlotId) (img : Option Image) (s : State) : (setSlot id img s).protection = s.protection := by
  unfold setSlot
  try dsimp only
  (repeat' split) <;> simp

@[simp] theorem setSlot_sequencer (id : SlotId) (img : Option Image) (s : State) : (setSlot id img s).sequencer = s.sequencer := by
  unfold setSlot
  try dsimp only
  (repeat' split) <;> simp

@[simp] theorem setSlot_capture (id : SlotId) (img : Option Image) (s : State) : (setSlot id img s).capture = s.capture := by
  unfold setSlot
  try dsimp only
  (repeat' split) <;> simp

@[simp] theorem setSlot_power (id : SlotId) (img : Option Image) (s : State) : (setSlot id img s).power = s.power := by
  unfold setSlot
  try dsimp only
  (repeat' split) <;> simp

@[simp] theorem setSlot_link (id : SlotId) (img : Option Image) (s : State) : (setSlot id img s).link = s.link := by
  unfold setSlot
  try dsimp only
  (repeat' split) <;> simp

@[simp] theorem setSlot_notice (id : SlotId) (img : Option Image) (s : State) : (setSlot id img s).notice = s.notice := by
  unfold setSlot
  try dsimp only
  (repeat' split) <;> simp

@[simp] theorem closeWrite_pending (s : State) : (closeWrite s).pending = s.pending := rfl

@[simp] theorem closeWrite_choices (s : State) : (closeWrite s).choices = s.choices := rfl

@[simp] theorem closeWrite_now (s : State) : (closeWrite s).now = s.now := rfl

@[simp] theorem closeWrite_tables (s : State) : (closeWrite s).tables = s.tables := rfl

@[simp] theorem closeWrite_sweep (s : State) : (closeWrite s).sweep = s.sweep := rfl

@[simp] theorem closeWrite_chain (s : State) : (closeWrite s).chain = s.chain := rfl

@[simp] theorem closeWrite_arbiter (s : State) : (closeWrite s).arbiter = s.arbiter := rfl

@[simp] theorem closeWrite_evaluator (s : State) : (closeWrite s).evaluator = s.evaluator := rfl

@[simp] theorem closeWrite_protection (s : State) : (closeWrite s).protection = s.protection := rfl

@[simp] theorem closeWrite_sequencer (s : State) : (closeWrite s).sequencer = s.sequencer := rfl

@[simp] theorem closeWrite_capture (s : State) : (closeWrite s).capture = s.capture := rfl

@[simp] theorem closeWrite_power (s : State) : (closeWrite s).power = s.power := rfl

@[simp] theorem closeWrite_link (s : State) : (closeWrite s).link = s.link := rfl

@[simp] theorem closeWrite_notice (s : State) : (closeWrite s).notice = s.notice := rfl

@[simp] theorem rejectStructure_pending (t : Table) (i : Nat) (s : State) : (rejectStructure t i s).pending = s.pending := rfl

@[simp] theorem rejectStructure_choices (t : Table) (i : Nat) (s : State) : (rejectStructure t i s).choices = s.choices := rfl

@[simp] theorem rejectStructure_now (t : Table) (i : Nat) (s : State) : (rejectStructure t i s).now = s.now := rfl

@[simp] theorem rejectStructure_tables (t : Table) (i : Nat) (s : State) : (rejectStructure t i s).tables = s.tables := rfl

@[simp] theorem rejectStructure_sweep (t : Table) (i : Nat) (s : State) : (rejectStructure t i s).sweep = s.sweep := rfl

@[simp] theorem rejectStructure_chain (t : Table) (i : Nat) (s : State) : (rejectStructure t i s).chain = s.chain := rfl

@[simp] theorem rejectStructure_arbiter (t : Table) (i : Nat) (s : State) : (rejectStructure t i s).arbiter = s.arbiter := rfl

@[simp] theorem rejectStructure_evaluator (t : Table) (i : Nat) (s : State) : (rejectStructure t i s).evaluator = s.evaluator := rfl

@[simp] theorem rejectStructure_protection (t : Table) (i : Nat) (s : State) : (rejectStructure t i s).protection = s.protection := rfl

@[simp] theorem rejectStructure_sequencer (t : Table) (i : Nat) (s : State) : (rejectStructure t i s).sequencer = s.sequencer := rfl

@[simp] theorem rejectStructure_capture (t : Table) (i : Nat) (s : State) : (rejectStructure t i s).capture = s.capture := rfl

@[simp] theorem rejectStructure_power (t : Table) (i : Nat) (s : State) : (rejectStructure t i s).power = s.power := rfl

@[simp] theorem rejectStructure_link (t : Table) (i : Nat) (s : State) : (rejectStructure t i s).link = s.link := rfl

@[simp] theorem rejectTag_pending (s : State) : (rejectTag s).pending = s.pending := by
  unfold rejectTag
  try dsimp only
  (repeat' split) <;> simp

@[simp] theorem rejectTag_choices (s : State) : (rejectTag s).choices = s.choices := by
  unfold rejectTag
  try dsimp only
  (repeat' split) <;> simp

@[simp] theorem rejectTag_now (s : State) : (rejectTag s).now = s.now := by
  unfold rejectTag
  try dsimp only
  (repeat' split) <;> simp

@[simp] theorem rejectTag_tables (s : State) : (rejectTag s).tables = s.tables := by
  unfold rejectTag
  try dsimp only
  (repeat' split) <;> simp

@[simp] theorem rejectTag_sweep (s : State) : (rejectTag s).sweep = s.sweep := by
  unfold rejectTag
  try dsimp only
  (repeat' split) <;> simp

@[simp] theorem rejectTag_chain (s : State) : (rejectTag s).chain = s.chain := by
  unfold rejectTag
  try dsimp only
  (repeat' split) <;> simp

@[simp] theorem rejectTag_arbiter (s : State) : (rejectTag s).arbiter = s.arbiter := by
  unfold rejectTag
  try dsimp only
  (repeat' split) <;> simp

@[simp] theorem rejectTag_evaluator (s : State) : (rejectTag s).evaluator = s.evaluator := by
  unfold rejectTag
  try dsimp only
  (repeat' split) <;> simp

@[simp] theorem rejectTag_protection (s : State) : (rejectTag s).protection = s.protection := by
  unfold rejectTag
  try dsimp only
  (repeat' split) <;> simp

@[simp] theorem rejectTag_sequencer (s : State) : (rejectTag s).sequencer = s.sequencer := by
  unfold rejectTag
  try dsimp only
  (repeat' split) <;> simp

@[simp] theorem rejectTag_capture (s : State) : (rejectTag s).capture = s.capture := by
  unfold rejectTag
  try dsimp only
  (repeat' split) <;> simp

@[simp] theorem rejectTag_power (s : State) : (rejectTag s).power = s.power := by
  unfold rejectTag
  try dsimp only
  (repeat' split) <;> simp

@[simp] theorem rejectTag_link (s : State) : (rejectTag s).link = s.link := by
  unfold rejectTag
  try dsimp only
  (repeat' split) <;> simp

@[simp] theorem sealStage_pending (s : State) : (sealStage s).pending = s.pending := rfl

@[simp] theorem sealStage_choices (s : State) : (sealStage s).choices = s.choices := rfl

@[simp] theorem sealStage_now (s : State) : (sealStage s).now = s.now := rfl

@[simp] theorem sealStage_tables (s : State) : (sealStage s).tables = s.tables := rfl

@[simp] theorem sealStage_sweep (s : State) : (sealStage s).sweep = s.sweep := rfl

@[simp] theorem sealStage_chain (s : State) : (sealStage s).chain = s.chain := rfl

@[simp] theorem sealStage_arbiter (s : State) : (sealStage s).arbiter = s.arbiter := rfl

@[simp] theorem sealStage_evaluator (s : State) : (sealStage s).evaluator = s.evaluator := rfl

@[simp] theorem sealStage_protection (s : State) : (sealStage s).protection = s.protection := rfl

@[simp] theorem sealStage_sequencer (s : State) : (sealStage s).sequencer = s.sequencer := rfl

@[simp] theorem sealStage_capture (s : State) : (sealStage s).capture = s.capture := rfl

@[simp] theorem sealStage_power (s : State) : (sealStage s).power = s.power := rfl

@[simp] theorem sealStage_link (s : State) : (sealStage s).link = s.link := rfl

@[simp] theorem verifyStage_pending (g : Stage) (tag : Tag) (s : State) : (verifyStage g tag s).pending = s.pending := by
  unfold verifyStage
  try dsimp only
  (repeat' split) <;> simp

@[simp] theorem verifyStage_choices (g : Stage) (tag : Tag) (s : State) : (verifyStage g tag s).choices = s.choices := by
  unfold verifyStage
  try dsimp only
  (repeat' split) <;> simp

@[simp] theorem verifyStage_now (g : Stage) (tag : Tag) (s : State) : (verifyStage g tag s).now = s.now := by
  unfold verifyStage
  try dsimp only
  (repeat' split) <;> simp

@[simp] theorem verifyStage_tables (g : Stage) (tag : Tag) (s : State) : (verifyStage g tag s).tables = s.tables := by
  unfold verifyStage
  try dsimp only
  (repeat' split) <;> simp

@[simp] theorem verifyStage_sweep (g : Stage) (tag : Tag) (s : State) : (verifyStage g tag s).sweep = s.sweep := by
  unfold verifyStage
  try dsimp only
  (repeat' split) <;> simp

@[simp] theorem verifyStage_chain (g : Stage) (tag : Tag) (s : State) : (verifyStage g tag s).chain = s.chain := by
  unfold verifyStage
  try dsimp only
  (repeat' split) <;> simp

@[simp] theorem verifyStage_arbiter (g : Stage) (tag : Tag) (s : State) : (verifyStage g tag s).arbiter = s.arbiter := by
  unfold verifyStage
  try dsimp only
  (repeat' split) <;> simp

@[simp] theorem verifyStage_evaluator (g : Stage) (tag : Tag) (s : State) : (verifyStage g tag s).evaluator = s.evaluator := by
  unfold verifyStage
  try dsimp only
  (repeat' split) <;> simp

@[simp] theorem verifyStage_protection (g : Stage) (tag : Tag) (s : State) : (verifyStage g tag s).protection = s.protection := by
  unfold verifyStage
  try dsimp only
  (repeat' split) <;> simp

@[simp] theorem verifyStage_sequencer (g : Stage) (tag : Tag) (s : State) : (verifyStage g tag s).sequencer = s.sequencer := by
  unfold verifyStage
  try dsimp only
  (repeat' split) <;> simp

@[simp] theorem verifyStage_capture (g : Stage) (tag : Tag) (s : State) : (verifyStage g tag s).capture = s.capture := by
  unfold verifyStage
  try dsimp only
  (repeat' split) <;> simp

@[simp] theorem verifyStage_power (g : Stage) (tag : Tag) (s : State) : (verifyStage g tag s).power = s.power := by
  unfold verifyStage
  try dsimp only
  (repeat' split) <;> simp

@[simp] theorem verifyStage_link (g : Stage) (tag : Tag) (s : State) : (verifyStage g tag s).link = s.link := by
  unfold verifyStage
  try dsimp only
  (repeat' split) <;> simp

@[simp] theorem beginCommit_pending (g : Stage) (s : State) : (beginCommit g s).pending = s.pending := by
  unfold beginCommit
  try dsimp only
  simp

@[simp] theorem beginCommit_choices (g : Stage) (s : State) : (beginCommit g s).choices = s.choices := by
  unfold beginCommit
  try dsimp only
  simp

@[simp] theorem beginCommit_now (g : Stage) (s : State) : (beginCommit g s).now = s.now := by
  unfold beginCommit
  try dsimp only
  simp

@[simp] theorem beginCommit_sweep (g : Stage) (s : State) : (beginCommit g s).sweep = s.sweep := by
  unfold beginCommit
  try dsimp only
  simp

@[simp] theorem beginCommit_chain (g : Stage) (s : State) : (beginCommit g s).chain = s.chain := by
  unfold beginCommit
  try dsimp only
  simp

@[simp] theorem beginCommit_arbiter (g : Stage) (s : State) : (beginCommit g s).arbiter = s.arbiter := by
  unfold beginCommit
  try dsimp only
  simp

@[simp] theorem beginCommit_evaluator (g : Stage) (s : State) : (beginCommit g s).evaluator = s.evaluator := by
  unfold beginCommit
  try dsimp only
  simp

@[simp] theorem beginCommit_protection (g : Stage) (s : State) : (beginCommit g s).protection = s.protection := by
  unfold beginCommit
  try dsimp only
  simp

@[simp] theorem beginCommit_sequencer (g : Stage) (s : State) : (beginCommit g s).sequencer = s.sequencer := by
  unfold beginCommit
  try dsimp only
  simp

@[simp] theorem beginCommit_capture (g : Stage) (s : State) : (beginCommit g s).capture = s.capture := by
  unfold beginCommit
  try dsimp only
  simp

@[simp] theorem beginCommit_power (g : Stage) (s : State) : (beginCommit g s).power = s.power := by
  unfold beginCommit
  try dsimp only
  simp

@[simp] theorem beginCommit_link (g : Stage) (s : State) : (beginCommit g s).link = s.link := by
  unfold beginCommit
  try dsimp only
  simp

@[simp] theorem beginCommit_notice (g : Stage) (s : State) : (beginCommit g s).notice = s.notice := by
  unfold beginCommit
  try dsimp only
  simp

@[simp] theorem endCommit_pending (r : Bool) (id : SlotId) (img : Image) (s : State) : (endCommit r id img s).pending = s.pending := by
  unfold endCommit
  try dsimp only
  (repeat' split) <;> simp

@[simp] theorem endCommit_choices (r : Bool) (id : SlotId) (img : Image) (s : State) : (endCommit r id img s).choices = s.choices := by
  unfold endCommit
  try dsimp only
  (repeat' split) <;> simp

@[simp] theorem endCommit_now (r : Bool) (id : SlotId) (img : Image) (s : State) : (endCommit r id img s).now = s.now := by
  unfold endCommit
  try dsimp only
  (repeat' split) <;> simp

@[simp] theorem endCommit_protection (r : Bool) (id : SlotId) (img : Image) (s : State) : (endCommit r id img s).protection = s.protection := by
  unfold endCommit
  try dsimp only
  (repeat' split) <;> simp

@[simp] theorem endCommit_sequencer (r : Bool) (id : SlotId) (img : Image) (s : State) : (endCommit r id img s).sequencer = s.sequencer := by
  unfold endCommit
  try dsimp only
  (repeat' split) <;> simp

@[simp] theorem endCommit_capture (r : Bool) (id : SlotId) (img : Image) (s : State) : (endCommit r id img s).capture = s.capture := by
  unfold endCommit
  try dsimp only
  (repeat' split) <;> simp

@[simp] theorem endCommit_power (r : Bool) (id : SlotId) (img : Image) (s : State) : (endCommit r id img s).power = s.power := by
  unfold endCommit
  try dsimp only
  (repeat' split) <;> simp

@[simp] theorem endCommit_link (r : Bool) (id : SlotId) (img : Image) (s : State) : (endCommit r id img s).link = s.link := by
  unfold endCommit
  try dsimp only
  (repeat' split) <;> simp

@[simp] theorem directedUpdate_pending (s : State) : (directedUpdate s).pending = s.pending := by
  unfold directedUpdate
  try dsimp only
  (repeat' split) <;> simp

@[simp] theorem directedUpdate_choices (s : State) : (directedUpdate s).choices = s.choices := by
  unfold directedUpdate
  try dsimp only
  (repeat' split) <;> simp

@[simp] theorem directedUpdate_now (s : State) : (directedUpdate s).now = s.now := by
  unfold directedUpdate
  try dsimp only
  (repeat' split) <;> simp

@[simp] theorem directedUpdate_tables (s : State) : (directedUpdate s).tables = s.tables := by
  unfold directedUpdate
  try dsimp only
  (repeat' split) <;> simp

@[simp] theorem directedUpdate_sweep (s : State) : (directedUpdate s).sweep = s.sweep := by
  unfold directedUpdate
  try dsimp only
  (repeat' split) <;> simp

@[simp] theorem directedUpdate_chain (s : State) : (directedUpdate s).chain = s.chain := by
  unfold directedUpdate
  try dsimp only
  (repeat' split) <;> simp

@[simp] theorem directedUpdate_arbiter (s : State) : (directedUpdate s).arbiter = s.arbiter := by
  unfold directedUpdate
  try dsimp only
  (repeat' split) <;> simp

@[simp] theorem directedUpdate_evaluator (s : State) : (directedUpdate s).evaluator = s.evaluator := by
  unfold directedUpdate
  try dsimp only
  (repeat' split) <;> simp

@[simp] theorem directedUpdate_protection (s : State) : (directedUpdate s).protection = s.protection := by
  unfold directedUpdate
  try dsimp only
  (repeat' split) <;> simp

@[simp] theorem directedUpdate_sequencer (s : State) : (directedUpdate s).sequencer = s.sequencer := by
  unfold directedUpdate
  try dsimp only
  (repeat' split) <;> simp

@[simp] theorem directedUpdate_capture (s : State) : (directedUpdate s).capture = s.capture := by
  unfold directedUpdate
  try dsimp only
  (repeat' split) <;> simp

@[simp] theorem directedUpdate_power (s : State) : (directedUpdate s).power = s.power := by
  unfold directedUpdate
  try dsimp only
  (repeat' split) <;> simp

@[simp] theorem directedUpdate_link (s : State) : (directedUpdate s).link = s.link := by
  unfold directedUpdate
  try dsimp only
  (repeat' split) <;> simp

@[simp] theorem directedUpdate_notice (s : State) : (directedUpdate s).notice = s.notice := by
  unfold directedUpdate
  try dsimp only
  (repeat' split) <;> simp

@[simp] theorem directedSweep_pending (s : State) : (directedSweep s).pending = s.pending := rfl

@[simp] theorem directedSweep_choices (s : State) : (directedSweep s).choices = s.choices := rfl

@[simp] theorem directedSweep_now (s : State) : (directedSweep s).now = s.now := rfl

@[simp] theorem directedSweep_tables (s : State) : (directedSweep s).tables = s.tables := rfl

@[simp] theorem directedSweep_update (s : State) : (directedSweep s).update = s.update := rfl

@[simp] theorem directedSweep_chain (s : State) : (directedSweep s).chain = s.chain := rfl

@[simp] theorem directedSweep_arbiter (s : State) : (directedSweep s).arbiter = s.arbiter := rfl

@[simp] theorem directedSweep_evaluator (s : State) : (directedSweep s).evaluator = s.evaluator := rfl

@[simp] theorem directedSweep_protection (s : State) : (directedSweep s).protection = s.protection := rfl

@[simp] theorem directedSweep_sequencer (s : State) : (directedSweep s).sequencer = s.sequencer := rfl

@[simp] theorem directedSweep_capture (s : State) : (directedSweep s).capture = s.capture := rfl

@[simp] theorem directedSweep_power (s : State) : (directedSweep s).power = s.power := rfl

@[simp] theorem directedSweep_link (s : State) : (directedSweep s).link = s.link := rfl

@[simp] theorem directedSweep_notice (s : State) : (directedSweep s).notice = s.notice := rfl

@[simp] theorem directedChain_pending (s : State) : (directedChain s).pending = s.pending := rfl

@[simp] theorem directedChain_choices (s : State) : (directedChain s).choices = s.choices := rfl

@[simp] theorem directedChain_now (s : State) : (directedChain s).now = s.now := rfl

@[simp] theorem directedChain_tables (s : State) : (directedChain s).tables = s.tables := rfl

@[simp] theorem directedChain_update (s : State) : (directedChain s).update = s.update := rfl

@[simp] theorem directedChain_sweep (s : State) : (directedChain s).sweep = s.sweep := rfl

@[simp] theorem directedChain_evaluator (s : State) : (directedChain s).evaluator = s.evaluator := rfl

@[simp] theorem directedChain_protection (s : State) : (directedChain s).protection = s.protection := rfl

@[simp] theorem directedChain_sequencer (s : State) : (directedChain s).sequencer = s.sequencer := rfl

@[simp] theorem directedChain_capture (s : State) : (directedChain s).capture = s.capture := rfl

@[simp] theorem directedChain_power (s : State) : (directedChain s).power = s.power := rfl

@[simp] theorem directedChain_link (s : State) : (directedChain s).link = s.link := rfl

@[simp] theorem directedChain_notice (s : State) : (directedChain s).notice = s.notice := rfl

@[simp] theorem directedEvaluator_pending (s : State) : (directedEvaluator s).pending = s.pending := rfl

@[simp] theorem directedEvaluator_choices (s : State) : (directedEvaluator s).choices = s.choices := rfl

@[simp] theorem directedEvaluator_now (s : State) : (directedEvaluator s).now = s.now := rfl

@[simp] theorem directedEvaluator_tables (s : State) : (directedEvaluator s).tables = s.tables := rfl

@[simp] theorem directedEvaluator_update (s : State) : (directedEvaluator s).update = s.update := rfl

@[simp] theorem directedEvaluator_sweep (s : State) : (directedEvaluator s).sweep = s.sweep := rfl

@[simp] theorem directedEvaluator_chain (s : State) : (directedEvaluator s).chain = s.chain := rfl

@[simp] theorem directedEvaluator_arbiter (s : State) : (directedEvaluator s).arbiter = s.arbiter := rfl

@[simp] theorem directedEvaluator_protection (s : State) : (directedEvaluator s).protection = s.protection := rfl

@[simp] theorem directedEvaluator_sequencer (s : State) : (directedEvaluator s).sequencer = s.sequencer := rfl

@[simp] theorem directedEvaluator_capture (s : State) : (directedEvaluator s).capture = s.capture := rfl

@[simp] theorem directedEvaluator_power (s : State) : (directedEvaluator s).power = s.power := rfl

@[simp] theorem directedEvaluator_link (s : State) : (directedEvaluator s).link = s.link := rfl

@[simp] theorem directedEvaluator_notice (s : State) : (directedEvaluator s).notice = s.notice := rfl

@[simp] theorem directedCapture_pending (s : State) : (directedCapture s).pending = s.pending := rfl

@[simp] theorem directedCapture_choices (s : State) : (directedCapture s).choices = s.choices := rfl

@[simp] theorem directedCapture_now (s : State) : (directedCapture s).now = s.now := rfl

@[simp] theorem directedCapture_tables (s : State) : (directedCapture s).tables = s.tables := rfl

@[simp] theorem directedCapture_update (s : State) : (directedCapture s).update = s.update := rfl

@[simp] theorem directedCapture_sweep (s : State) : (directedCapture s).sweep = s.sweep := rfl

@[simp] theorem directedCapture_chain (s : State) : (directedCapture s).chain = s.chain := rfl

@[simp] theorem directedCapture_arbiter (s : State) : (directedCapture s).arbiter = s.arbiter := rfl

@[simp] theorem directedCapture_evaluator (s : State) : (directedCapture s).evaluator = s.evaluator := rfl

@[simp] theorem directedCapture_protection (s : State) : (directedCapture s).protection = s.protection := rfl

@[simp] theorem directedCapture_sequencer (s : State) : (directedCapture s).sequencer = s.sequencer := rfl

@[simp] theorem directedCapture_power (s : State) : (directedCapture s).power = s.power := rfl

@[simp] theorem directedCapture_link (s : State) : (directedCapture s).link = s.link := rfl

@[simp] theorem directedCapture_notice (s : State) : (directedCapture s).notice = s.notice := rfl

@[simp] theorem directedPower_pending (s : State) : (directedPower s).pending = s.pending := rfl

@[simp] theorem directedPower_choices (s : State) : (directedPower s).choices = s.choices := rfl

@[simp] theorem directedPower_now (s : State) : (directedPower s).now = s.now := rfl

@[simp] theorem directedPower_tables (s : State) : (directedPower s).tables = s.tables := rfl

@[simp] theorem directedPower_update (s : State) : (directedPower s).update = s.update := rfl

@[simp] theorem directedPower_sweep (s : State) : (directedPower s).sweep = s.sweep := rfl

@[simp] theorem directedPower_chain (s : State) : (directedPower s).chain = s.chain := rfl

@[simp] theorem directedPower_arbiter (s : State) : (directedPower s).arbiter = s.arbiter := rfl

@[simp] theorem directedPower_evaluator (s : State) : (directedPower s).evaluator = s.evaluator := rfl

@[simp] theorem directedPower_protection (s : State) : (directedPower s).protection = s.protection := rfl

@[simp] theorem directedPower_sequencer (s : State) : (directedPower s).sequencer = s.sequencer := rfl

@[simp] theorem directedPower_capture (s : State) : (directedPower s).capture = s.capture := rfl

@[simp] theorem directedPower_link (s : State) : (directedPower s).link = s.link := rfl

@[simp] theorem directedPower_notice (s : State) : (directedPower s).notice = s.notice := rfl

@[simp] theorem directedSequencer_pending (s : State) : (directedSequencer s).pending = s.pending := by
  unfold directedSequencer
  try dsimp only
  simp

@[simp] theorem directedSequencer_choices (s : State) : (directedSequencer s).choices = s.choices := by
  unfold directedSequencer
  try dsimp only
  simp

@[simp] theorem directedSequencer_now (s : State) : (directedSequencer s).now = s.now := by
  unfold directedSequencer
  try dsimp only
  simp

@[simp] theorem directedSequencer_tables (s : State) : (directedSequencer s).tables = s.tables := by
  unfold directedSequencer
  try dsimp only
  simp

@[simp] theorem directedSequencer_update (s : State) : (directedSequencer s).update = s.update := by
  unfold directedSequencer
  try dsimp only
  simp

@[simp] theorem directedSequencer_sweep (s : State) : (directedSequencer s).sweep = s.sweep := by
  unfold directedSequencer
  try dsimp only
  simp

@[simp] theorem directedSequencer_chain (s : State) : (directedSequencer s).chain = s.chain := by
  unfold directedSequencer
  try dsimp only
  simp

@[simp] theorem directedSequencer_arbiter (s : State) : (directedSequencer s).arbiter = s.arbiter := by
  unfold directedSequencer
  try dsimp only
  simp

@[simp] theorem directedSequencer_evaluator (s : State) : (directedSequencer s).evaluator = s.evaluator := by
  unfold directedSequencer
  try dsimp only
  simp

@[simp] theorem directedSequencer_protection (s : State) : (directedSequencer s).protection = s.protection := by
  unfold directedSequencer
  try dsimp only
  simp

@[simp] theorem directedSequencer_capture (s : State) : (directedSequencer s).capture = s.capture := by
  unfold directedSequencer
  try dsimp only
  simp

@[simp] theorem directedSequencer_power (s : State) : (directedSequencer s).power = s.power := by
  unfold directedSequencer
  try dsimp only
  simp

@[simp] theorem directedSequencer_link (s : State) : (directedSequencer s).link = s.link := by
  unfold directedSequencer
  try dsimp only
  simp

@[simp] theorem directedSequencer_notice (s : State) : (directedSequencer s).notice = s.notice := by
  unfold directedSequencer
  try dsimp only
  simp

@[simp] theorem directedLink_pending (s : State) : (directedLink s).pending = s.pending := rfl

@[simp] theorem directedLink_choices (s : State) : (directedLink s).choices = s.choices := rfl

@[simp] theorem directedLink_now (s : State) : (directedLink s).now = s.now := rfl

@[simp] theorem directedLink_tables (s : State) : (directedLink s).tables = s.tables := rfl

@[simp] theorem directedLink_update (s : State) : (directedLink s).update = s.update := rfl

@[simp] theorem directedLink_sweep (s : State) : (directedLink s).sweep = s.sweep := rfl

@[simp] theorem directedLink_chain (s : State) : (directedLink s).chain = s.chain := rfl

@[simp] theorem directedLink_arbiter (s : State) : (directedLink s).arbiter = s.arbiter := rfl

@[simp] theorem directedLink_evaluator (s : State) : (directedLink s).evaluator = s.evaluator := rfl

@[simp] theorem directedLink_protection (s : State) : (directedLink s).protection = s.protection := rfl

@[simp] theorem directedLink_sequencer (s : State) : (directedLink s).sequencer = s.sequencer := rfl

@[simp] theorem directedLink_capture (s : State) : (directedLink s).capture = s.capture := rfl

@[simp] theorem directedLink_power (s : State) : (directedLink s).power = s.power := rfl

@[simp] theorem directedReset_pending (s : State) : (directedReset s).pending = s.pending := by
  unfold directedReset
  try dsimp only
  simp

@[simp] theorem directedReset_choices (s : State) : (directedReset s).choices = s.choices := by
  unfold directedReset
  try dsimp only
  simp

@[simp] theorem directedReset_now (s : State) : (directedReset s).now = s.now := by
  unfold directedReset
  try dsimp only
  simp

@[simp] theorem directedReset_protection (s : State) : (directedReset s).protection = s.protection := by
  unfold directedReset
  try dsimp only
  simp

@[simp] theorem takeReading_pending (c : Contactor) (b : Bool) (s : State) : (takeReading c b s).pending = s.pending := by
  unfold takeReading
  try dsimp only
  simp

@[simp] theorem takeReading_choices (c : Contactor) (b : Bool) (s : State) : (takeReading c b s).choices = s.choices := by
  unfold takeReading
  try dsimp only
  simp

@[simp] theorem takeReading_now (c : Contactor) (b : Bool) (s : State) : (takeReading c b s).now = s.now := by
  unfold takeReading
  try dsimp only
  simp

@[simp] theorem takeReading_tables (c : Contactor) (b : Bool) (s : State) : (takeReading c b s).tables = s.tables := by
  unfold takeReading
  try dsimp only
  simp

@[simp] theorem takeReading_update (c : Contactor) (b : Bool) (s : State) : (takeReading c b s).update = s.update := by
  unfold takeReading
  try dsimp only
  simp

@[simp] theorem takeReading_sweep (c : Contactor) (b : Bool) (s : State) : (takeReading c b s).sweep = s.sweep := by
  unfold takeReading
  try dsimp only
  simp

@[simp] theorem takeReading_chain (c : Contactor) (b : Bool) (s : State) : (takeReading c b s).chain = s.chain := by
  unfold takeReading
  try dsimp only
  simp

@[simp] theorem takeReading_arbiter (c : Contactor) (b : Bool) (s : State) : (takeReading c b s).arbiter = s.arbiter := by
  unfold takeReading
  try dsimp only
  simp

@[simp] theorem takeReading_evaluator (c : Contactor) (b : Bool) (s : State) : (takeReading c b s).evaluator = s.evaluator := by
  unfold takeReading
  try dsimp only
  simp

@[simp] theorem takeReading_protection (c : Contactor) (b : Bool) (s : State) : (takeReading c b s).protection = s.protection := by
  unfold takeReading
  try dsimp only
  simp

@[simp] theorem takeReading_capture (c : Contactor) (b : Bool) (s : State) : (takeReading c b s).capture = s.capture := by
  unfold takeReading
  try dsimp only
  simp

@[simp] theorem takeReading_power (c : Contactor) (b : Bool) (s : State) : (takeReading c b s).power = s.power := by
  unfold takeReading
  try dsimp only
  simp

@[simp] theorem takeReading_link (c : Contactor) (b : Bool) (s : State) : (takeReading c b s).link = s.link := by
  unfold takeReading
  try dsimp only
  simp

@[simp] theorem takeReading_notice (c : Contactor) (b : Bool) (s : State) : (takeReading c b s).notice = s.notice := by
  unfold takeReading
  try dsimp only
  simp

@[simp] theorem feedbackEffect_pending (s : State) : (feedbackEffect s).pending = s.pending := by
  unfold feedbackEffect
  try dsimp only
  (repeat' split) <;> simp

@[simp] theorem feedbackEffect_choices (s : State) : (feedbackEffect s).choices = s.choices := by
  unfold feedbackEffect
  try dsimp only
  (repeat' split) <;> simp

@[simp] theorem feedbackEffect_now (s : State) : (feedbackEffect s).now = s.now := by
  unfold feedbackEffect
  try dsimp only
  (repeat' split) <;> simp

@[simp] theorem feedbackEffect_tables (s : State) : (feedbackEffect s).tables = s.tables := by
  unfold feedbackEffect
  try dsimp only
  (repeat' split) <;> simp

@[simp] theorem feedbackEffect_update (s : State) : (feedbackEffect s).update = s.update := by
  unfold feedbackEffect
  try dsimp only
  (repeat' split) <;> simp

@[simp] theorem feedbackEffect_sweep (s : State) : (feedbackEffect s).sweep = s.sweep := by
  unfold feedbackEffect
  try dsimp only
  (repeat' split) <;> simp

@[simp] theorem feedbackEffect_chain (s : State) : (feedbackEffect s).chain = s.chain := by
  unfold feedbackEffect
  try dsimp only
  (repeat' split) <;> simp

@[simp] theorem feedbackEffect_arbiter (s : State) : (feedbackEffect s).arbiter = s.arbiter := by
  unfold feedbackEffect
  try dsimp only
  (repeat' split) <;> simp

@[simp] theorem feedbackEffect_evaluator (s : State) : (feedbackEffect s).evaluator = s.evaluator := by
  unfold feedbackEffect
  try dsimp only
  (repeat' split) <;> simp

@[simp] theorem feedbackEffect_protection (s : State) : (feedbackEffect s).protection = s.protection := by
  unfold feedbackEffect
  try dsimp only
  (repeat' split) <;> simp

@[simp] theorem feedbackEffect_capture (s : State) : (feedbackEffect s).capture = s.capture := by
  unfold feedbackEffect
  try dsimp only
  (repeat' split) <;> simp

@[simp] theorem feedbackEffect_power (s : State) : (feedbackEffect s).power = s.power := by
  unfold feedbackEffect
  try dsimp only
  (repeat' split) <;> simp

@[simp] theorem feedbackEffect_link (s : State) : (feedbackEffect s).link = s.link := by
  unfold feedbackEffect
  try dsimp only
  (repeat' split) <;> simp

@[simp] theorem prechargeTimedOut_pending (s : State) : (prechargeTimedOut s).pending = s.pending := by
  unfold prechargeTimedOut
  try dsimp only
  simp

@[simp] theorem prechargeTimedOut_choices (s : State) : (prechargeTimedOut s).choices = s.choices := by
  unfold prechargeTimedOut
  try dsimp only
  simp

@[simp] theorem prechargeTimedOut_now (s : State) : (prechargeTimedOut s).now = s.now := by
  unfold prechargeTimedOut
  try dsimp only
  simp

@[simp] theorem prechargeTimedOut_tables (s : State) : (prechargeTimedOut s).tables = s.tables := by
  unfold prechargeTimedOut
  try dsimp only
  simp

@[simp] theorem prechargeTimedOut_update (s : State) : (prechargeTimedOut s).update = s.update := by
  unfold prechargeTimedOut
  try dsimp only
  simp

@[simp] theorem prechargeTimedOut_evaluator (s : State) : (prechargeTimedOut s).evaluator = s.evaluator := by
  unfold prechargeTimedOut
  try dsimp only
  simp

@[simp] theorem deferTimedOut_pending (s : State) : (deferTimedOut s).pending = s.pending := by
  unfold deferTimedOut
  try dsimp only
  simp

@[simp] theorem deferTimedOut_choices (s : State) : (deferTimedOut s).choices = s.choices := by
  unfold deferTimedOut
  try dsimp only
  simp

@[simp] theorem deferTimedOut_now (s : State) : (deferTimedOut s).now = s.now := by
  unfold deferTimedOut
  try dsimp only
  simp

@[simp] theorem deferTimedOut_tables (s : State) : (deferTimedOut s).tables = s.tables := by
  unfold deferTimedOut
  try dsimp only
  simp

@[simp] theorem deferTimedOut_update (s : State) : (deferTimedOut s).update = s.update := by
  unfold deferTimedOut
  try dsimp only
  simp

@[simp] theorem deferTimedOut_evaluator (s : State) : (deferTimedOut s).evaluator = s.evaluator := by
  unfold deferTimedOut
  try dsimp only
  simp

@[simp] theorem deferTimedOut_protection (s : State) : (deferTimedOut s).protection = s.protection := by
  unfold deferTimedOut
  try dsimp only
  simp

@[simp] theorem weldTimedOut_pending (s : State) : (weldTimedOut s).pending = s.pending := by
  unfold weldTimedOut
  try dsimp only
  (repeat' split) <;> simp

@[simp] theorem weldTimedOut_choices (s : State) : (weldTimedOut s).choices = s.choices := by
  unfold weldTimedOut
  try dsimp only
  (repeat' split) <;> simp

@[simp] theorem weldTimedOut_now (s : State) : (weldTimedOut s).now = s.now := by
  unfold weldTimedOut
  try dsimp only
  (repeat' split) <;> simp

@[simp] theorem weldTimedOut_tables (s : State) : (weldTimedOut s).tables = s.tables := by
  unfold weldTimedOut
  try dsimp only
  (repeat' split) <;> simp

@[simp] theorem weldTimedOut_update (s : State) : (weldTimedOut s).update = s.update := by
  unfold weldTimedOut
  try dsimp only
  (repeat' split) <;> simp

@[simp] theorem weldTimedOut_chain (s : State) : (weldTimedOut s).chain = s.chain := by
  unfold weldTimedOut
  try dsimp only
  (repeat' split) <;> simp

@[simp] theorem weldTimedOut_arbiter (s : State) : (weldTimedOut s).arbiter = s.arbiter := by
  unfold weldTimedOut
  try dsimp only
  (repeat' split) <;> simp

@[simp] theorem weldTimedOut_evaluator (s : State) : (weldTimedOut s).evaluator = s.evaluator := by
  unfold weldTimedOut
  try dsimp only
  (repeat' split) <;> simp

@[simp] theorem weldTimedOut_power (s : State) : (weldTimedOut s).power = s.power := by
  unfold weldTimedOut
  try dsimp only
  (repeat' split) <;> simp

@[simp] theorem weldTimedOut_link (s : State) : (weldTimedOut s).link = s.link := by
  unfold weldTimedOut
  try dsimp only
  (repeat' split) <;> simp

@[simp] theorem stopDisagree_pending (c : Contactor) (s : State) : (stopDisagree c s).pending = s.pending := by
  unfold stopDisagree
  try dsimp only
  (repeat' split) <;> simp

@[simp] theorem stopDisagree_choices (c : Contactor) (s : State) : (stopDisagree c s).choices = s.choices := by
  unfold stopDisagree
  try dsimp only
  (repeat' split) <;> simp

@[simp] theorem stopDisagree_now (c : Contactor) (s : State) : (stopDisagree c s).now = s.now := by
  unfold stopDisagree
  try dsimp only
  (repeat' split) <;> simp

@[simp] theorem stopDisagree_tables (c : Contactor) (s : State) : (stopDisagree c s).tables = s.tables := by
  unfold stopDisagree
  try dsimp only
  (repeat' split) <;> simp

@[simp] theorem stopDisagree_update (c : Contactor) (s : State) : (stopDisagree c s).update = s.update := by
  unfold stopDisagree
  try dsimp only
  (repeat' split) <;> simp

@[simp] theorem stopDisagree_sweep (c : Contactor) (s : State) : (stopDisagree c s).sweep = s.sweep := by
  unfold stopDisagree
  try dsimp only
  (repeat' split) <;> simp

@[simp] theorem stopDisagree_chain (c : Contactor) (s : State) : (stopDisagree c s).chain = s.chain := by
  unfold stopDisagree
  try dsimp only
  (repeat' split) <;> simp

@[simp] theorem stopDisagree_arbiter (c : Contactor) (s : State) : (stopDisagree c s).arbiter = s.arbiter := by
  unfold stopDisagree
  try dsimp only
  (repeat' split) <;> simp

@[simp] theorem stopDisagree_evaluator (c : Contactor) (s : State) : (stopDisagree c s).evaluator = s.evaluator := by
  unfold stopDisagree
  try dsimp only
  (repeat' split) <;> simp

@[simp] theorem stopDisagree_protection (c : Contactor) (s : State) : (stopDisagree c s).protection = s.protection := by
  unfold stopDisagree
  try dsimp only
  (repeat' split) <;> simp

@[simp] theorem stopDisagree_capture (c : Contactor) (s : State) : (stopDisagree c s).capture = s.capture := by
  unfold stopDisagree
  try dsimp only
  (repeat' split) <;> simp

@[simp] theorem stopDisagree_power (c : Contactor) (s : State) : (stopDisagree c s).power = s.power := by
  unfold stopDisagree
  try dsimp only
  (repeat' split) <;> simp

@[simp] theorem stopDisagree_link (c : Contactor) (s : State) : (stopDisagree c s).link = s.link := by
  unfold stopDisagree
  try dsimp only
  (repeat' split) <;> simp

@[simp] theorem stopDisagree_notice (c : Contactor) (s : State) : (stopDisagree c s).notice = s.notice := by
  unfold stopDisagree
  try dsimp only
  (repeat' split) <;> simp

@[simp] theorem disagreeTimedOut_pending (c : Contactor) (s : State) : (disagreeTimedOut c s).pending = s.pending := by
  unfold disagreeTimedOut
  try dsimp only
  simp

@[simp] theorem disagreeTimedOut_choices (c : Contactor) (s : State) : (disagreeTimedOut c s).choices = s.choices := by
  unfold disagreeTimedOut
  try dsimp only
  simp

@[simp] theorem disagreeTimedOut_now (c : Contactor) (s : State) : (disagreeTimedOut c s).now = s.now := by
  unfold disagreeTimedOut
  try dsimp only
  simp

@[simp] theorem disagreeTimedOut_tables (c : Contactor) (s : State) : (disagreeTimedOut c s).tables = s.tables := by
  unfold disagreeTimedOut
  try dsimp only
  simp

@[simp] theorem disagreeTimedOut_update (c : Contactor) (s : State) : (disagreeTimedOut c s).update = s.update := by
  unfold disagreeTimedOut
  try dsimp only
  simp

@[simp] theorem disagreeTimedOut_evaluator (c : Contactor) (s : State) : (disagreeTimedOut c s).evaluator = s.evaluator := by
  unfold disagreeTimedOut
  try dsimp only
  simp

@[simp] theorem silenceTimedOut_pending (s : State) : (silenceTimedOut s).pending = s.pending := by
  unfold silenceTimedOut
  try dsimp only
  simp

@[simp] theorem silenceTimedOut_choices (s : State) : (silenceTimedOut s).choices = s.choices := by
  unfold silenceTimedOut
  try dsimp only
  simp

@[simp] theorem silenceTimedOut_now (s : State) : (silenceTimedOut s).now = s.now := by
  unfold silenceTimedOut
  try dsimp only
  simp

@[simp] theorem silenceTimedOut_tables (s : State) : (silenceTimedOut s).tables = s.tables := by
  unfold silenceTimedOut
  try dsimp only
  simp

@[simp] theorem silenceTimedOut_update (s : State) : (silenceTimedOut s).update = s.update := by
  unfold silenceTimedOut
  try dsimp only
  simp

@[simp] theorem silenceTimedOut_evaluator (s : State) : (silenceTimedOut s).evaluator = s.evaluator := by
  unfold silenceTimedOut
  try dsimp only
  simp

@[simp] theorem serveRequest_pending (s : State) : (serveRequest s).pending = s.pending := by
  unfold serveRequest
  try dsimp only
  (repeat' split) <;> simp

@[simp] theorem serveRequest_choices (s : State) : (serveRequest s).choices = s.choices := by
  unfold serveRequest
  try dsimp only
  (repeat' split) <;> simp

@[simp] theorem serveRequest_now (s : State) : (serveRequest s).now = s.now := by
  unfold serveRequest
  try dsimp only
  (repeat' split) <;> simp

@[simp] theorem serveRequest_tables (s : State) : (serveRequest s).tables = s.tables := by
  unfold serveRequest
  try dsimp only
  (repeat' split) <;> simp

@[simp] theorem serveRequest_update (s : State) : (serveRequest s).update = s.update := by
  unfold serveRequest
  try dsimp only
  (repeat' split) <;> simp

@[simp] theorem serveRequest_evaluator (s : State) : (serveRequest s).evaluator = s.evaluator := by
  unfold serveRequest
  try dsimp only
  (repeat' split) <;> simp

@[simp] theorem serveRequest_protection (s : State) : (serveRequest s).protection = s.protection := by
  unfold serveRequest
  try dsimp only
  (repeat' split) <;> simp

@[simp] theorem enterDrain_pending (s : State) : (enterDrain s).pending = s.pending := by
  unfold enterDrain
  try dsimp only
  (repeat' split) <;> simp

@[simp] theorem enterDrain_choices (s : State) : (enterDrain s).choices = s.choices := by
  unfold enterDrain
  try dsimp only
  (repeat' split) <;> simp

@[simp] theorem enterDrain_now (s : State) : (enterDrain s).now = s.now := by
  unfold enterDrain
  try dsimp only
  (repeat' split) <;> simp

@[simp] theorem enterDrain_tables (s : State) : (enterDrain s).tables = s.tables := by
  unfold enterDrain
  try dsimp only
  (repeat' split) <;> simp

@[simp] theorem enterDrain_update (s : State) : (enterDrain s).update = s.update := by
  unfold enterDrain
  try dsimp only
  (repeat' split) <;> simp

@[simp] theorem enterDrain_sweep (s : State) : (enterDrain s).sweep = s.sweep := by
  unfold enterDrain
  try dsimp only
  (repeat' split) <;> simp

@[simp] theorem enterDrain_chain (s : State) : (enterDrain s).chain = s.chain := by
  unfold enterDrain
  try dsimp only
  (repeat' split) <;> simp

@[simp] theorem enterDrain_arbiter (s : State) : (enterDrain s).arbiter = s.arbiter := by
  unfold enterDrain
  try dsimp only
  (repeat' split) <;> simp

@[simp] theorem enterDrain_evaluator (s : State) : (enterDrain s).evaluator = s.evaluator := by
  unfold enterDrain
  try dsimp only
  (repeat' split) <;> simp

@[simp] theorem enterDrain_protection (s : State) : (enterDrain s).protection = s.protection := by
  unfold enterDrain
  try dsimp only
  (repeat' split) <;> simp

@[simp] theorem enterDrain_capture (s : State) : (enterDrain s).capture = s.capture := by
  unfold enterDrain
  try dsimp only
  (repeat' split) <;> simp

@[simp] theorem enterDrain_link (s : State) : (enterDrain s).link = s.link := by
  unfold enterDrain
  try dsimp only
  (repeat' split) <;> simp

@[simp] theorem settleEnd_pending (s : State) : (settleEnd s).pending = s.pending := by
  unfold settleEnd
  try dsimp only
  (repeat' split) <;> simp

@[simp] theorem settleEnd_choices (s : State) : (settleEnd s).choices = s.choices := by
  unfold settleEnd
  try dsimp only
  (repeat' split) <;> simp

@[simp] theorem settleEnd_now (s : State) : (settleEnd s).now = s.now := by
  unfold settleEnd
  try dsimp only
  (repeat' split) <;> simp

@[simp] theorem settleEnd_tables (s : State) : (settleEnd s).tables = s.tables := by
  unfold settleEnd
  try dsimp only
  (repeat' split) <;> simp

@[simp] theorem settleEnd_update (s : State) : (settleEnd s).update = s.update := by
  unfold settleEnd
  try dsimp only
  (repeat' split) <;> simp

@[simp] theorem settleEnd_chain (s : State) : (settleEnd s).chain = s.chain := by
  unfold settleEnd
  try dsimp only
  (repeat' split) <;> simp

@[simp] theorem settleEnd_arbiter (s : State) : (settleEnd s).arbiter = s.arbiter := by
  unfold settleEnd
  try dsimp only
  (repeat' split) <;> simp

@[simp] theorem settleEnd_evaluator (s : State) : (settleEnd s).evaluator = s.evaluator := by
  unfold settleEnd
  try dsimp only
  (repeat' split) <;> simp

@[simp] theorem settleEnd_protection (s : State) : (settleEnd s).protection = s.protection := by
  unfold settleEnd
  try dsimp only
  (repeat' split) <;> simp

@[simp] theorem settleEnd_capture (s : State) : (settleEnd s).capture = s.capture := by
  unfold settleEnd
  try dsimp only
  (repeat' split) <;> simp

@[simp] theorem lightUp_pending (s : State) : (lightUp s).pending = s.pending := rfl

@[simp] theorem lightUp_choices (s : State) : (lightUp s).choices = s.choices := rfl

@[simp] theorem lightUp_now (s : State) : (lightUp s).now = s.now := rfl

@[simp] theorem lightUp_tables (s : State) : (lightUp s).tables = s.tables := rfl

@[simp] theorem lightUp_update (s : State) : (lightUp s).update = s.update := rfl

@[simp] theorem lightUp_sweep (s : State) : (lightUp s).sweep = s.sweep := rfl

@[simp] theorem lightUp_arbiter (s : State) : (lightUp s).arbiter = s.arbiter := rfl

@[simp] theorem lightUp_evaluator (s : State) : (lightUp s).evaluator = s.evaluator := rfl

@[simp] theorem lightUp_protection (s : State) : (lightUp s).protection = s.protection := rfl

@[simp] theorem lightUp_sequencer (s : State) : (lightUp s).sequencer = s.sequencer := rfl

@[simp] theorem lightUp_capture (s : State) : (lightUp s).capture = s.capture := rfl

@[simp] theorem lightUp_link (s : State) : (lightUp s).link = s.link := rfl

@[simp] theorem lightUp_notice (s : State) : (lightUp s).notice = s.notice := rfl

@[simp] theorem startEngine_pending (s : State) : (startEngine s).pending = s.pending := by
  unfold startEngine
  try dsimp only
  (repeat' split) <;> simp

@[simp] theorem startEngine_now (s : State) : (startEngine s).now = s.now := by
  unfold startEngine
  try dsimp only
  (repeat' split) <;> simp

@[simp] theorem startEngine_protection (s : State) : (startEngine s).protection = s.protection := by
  unfold startEngine
  try dsimp only
  (repeat' split) <;> simp

@[simp] theorem stopEngine_pending (s : State) : (stopEngine s).pending = s.pending := by
  unfold stopEngine
  try dsimp only
  (repeat' split) <;> simp

@[simp] theorem stopEngine_now (s : State) : (stopEngine s).now = s.now := by
  unfold stopEngine
  try dsimp only
  (repeat' split) <;> simp

@[simp] theorem stopEngine_protection (s : State) : (stopEngine s).protection = s.protection := by
  unfold stopEngine
  try dsimp only
  (repeat' split) <;> simp

@[simp] theorem beginEnumeration_pending (s : State) : (beginEnumeration s).pending = s.pending := by
  unfold beginEnumeration
  try dsimp only
  simp

@[simp] theorem beginEnumeration_choices (s : State) : (beginEnumeration s).choices = s.choices := by
  unfold beginEnumeration
  try dsimp only
  simp

@[simp] theorem beginEnumeration_now (s : State) : (beginEnumeration s).now = s.now := by
  unfold beginEnumeration
  try dsimp only
  simp

@[simp] theorem beginEnumeration_tables (s : State) : (beginEnumeration s).tables = s.tables := by
  unfold beginEnumeration
  try dsimp only
  simp

@[simp] theorem beginEnumeration_update (s : State) : (beginEnumeration s).update = s.update := by
  unfold beginEnumeration
  try dsimp only
  simp

@[simp] theorem beginEnumeration_evaluator (s : State) : (beginEnumeration s).evaluator = s.evaluator := by
  unfold beginEnumeration
  try dsimp only
  simp

@[simp] theorem beginEnumeration_protection (s : State) : (beginEnumeration s).protection = s.protection := by
  unfold beginEnumeration
  try dsimp only
  simp

@[simp] theorem beginEnumeration_sequencer (s : State) : (beginEnumeration s).sequencer = s.sequencer := by
  unfold beginEnumeration
  try dsimp only
  simp

@[simp] theorem rephase_pending (s : State) : (rephase s).pending = s.pending := by
  unfold rephase
  try dsimp only
  (repeat' split) <;> simp

@[simp] theorem rephase_choices (s : State) : (rephase s).choices = s.choices := by
  unfold rephase
  try dsimp only
  (repeat' split) <;> simp

@[simp] theorem rephase_now (s : State) : (rephase s).now = s.now := by
  unfold rephase
  try dsimp only
  (repeat' split) <;> simp

@[simp] theorem rephase_tables (s : State) : (rephase s).tables = s.tables := by
  unfold rephase
  try dsimp only
  (repeat' split) <;> simp

@[simp] theorem rephase_update (s : State) : (rephase s).update = s.update := by
  unfold rephase
  try dsimp only
  (repeat' split) <;> simp

@[simp] theorem rephase_chain (s : State) : (rephase s).chain = s.chain := by
  unfold rephase
  try dsimp only
  (repeat' split) <;> simp

@[simp] theorem rephase_arbiter (s : State) : (rephase s).arbiter = s.arbiter := by
  unfold rephase
  try dsimp only
  (repeat' split) <;> simp

@[simp] theorem rephase_evaluator (s : State) : (rephase s).evaluator = s.evaluator := by
  unfold rephase
  try dsimp only
  (repeat' split) <;> simp

@[simp] theorem rephase_protection (s : State) : (rephase s).protection = s.protection := by
  unfold rephase
  try dsimp only
  (repeat' split) <;> simp

@[simp] theorem rephase_sequencer (s : State) : (rephase s).sequencer = s.sequencer := by
  unfold rephase
  try dsimp only
  (repeat' split) <;> simp

@[simp] theorem rephase_capture (s : State) : (rephase s).capture = s.capture := by
  unfold rephase
  try dsimp only
  (repeat' split) <;> simp

@[simp] theorem rephase_power (s : State) : (rephase s).power = s.power := by
  unfold rephase
  try dsimp only
  (repeat' split) <;> simp

@[simp] theorem rephase_link (s : State) : (rephase s).link = s.link := by
  unfold rephase
  try dsimp only
  (repeat' split) <;> simp

@[simp] theorem rephase_notice (s : State) : (rephase s).notice = s.notice := by
  unfold rephase
  try dsimp only
  (repeat' split) <;> simp

@[simp] theorem syncEdge_pending (s : State) : (syncEdge s).pending = s.pending := by
  unfold syncEdge
  try dsimp only
  simp

@[simp] theorem syncEdge_now (s : State) : (syncEdge s).now = s.now := by
  unfold syncEdge
  try dsimp only
  simp

@[simp] theorem syncEdge_protection (s : State) : (syncEdge s).protection = s.protection := by
  unfold syncEdge
  try dsimp only
  simp

@[simp] theorem syncLost_pending (s : State) : (syncLost s).pending = s.pending := by
  unfold syncLost
  try dsimp only
  (repeat' split) <;> simp

@[simp] theorem syncLost_now (s : State) : (syncLost s).now = s.now := by
  unfold syncLost
  try dsimp only
  (repeat' split) <;> simp

@[simp] theorem syncLost_protection (s : State) : (syncLost s).protection = s.protection := by
  unfold syncLost
  try dsimp only
  (repeat' split) <;> simp

@[simp] theorem foldDefer_pending (l : List Nat) (s : State) : (l.foldl (fun s i => deferSlot i s) s).pending = s.pending := by
  induction l generalizing s with
  | nil => rfl
  | cons i l ih => simp [ih]

@[simp] theorem foldDefer_choices (l : List Nat) (s : State) : (l.foldl (fun s i => deferSlot i s) s).choices = s.choices := by
  induction l generalizing s with
  | nil => rfl
  | cons i l ih => simp [ih]

@[simp] theorem foldDefer_now (l : List Nat) (s : State) : (l.foldl (fun s i => deferSlot i s) s).now = s.now := by
  induction l generalizing s with
  | nil => rfl
  | cons i l ih => simp [ih]

@[simp] theorem foldDefer_tables (l : List Nat) (s : State) : (l.foldl (fun s i => deferSlot i s) s).tables = s.tables := by
  induction l generalizing s with
  | nil => rfl
  | cons i l ih => simp [ih]

@[simp] theorem foldDefer_update (l : List Nat) (s : State) : (l.foldl (fun s i => deferSlot i s) s).update = s.update := by
  induction l generalizing s with
  | nil => rfl
  | cons i l ih => simp [ih]

@[simp] theorem foldDefer_chain (l : List Nat) (s : State) : (l.foldl (fun s i => deferSlot i s) s).chain = s.chain := by
  induction l generalizing s with
  | nil => rfl
  | cons i l ih => simp [ih]

@[simp] theorem foldDefer_arbiter (l : List Nat) (s : State) : (l.foldl (fun s i => deferSlot i s) s).arbiter = s.arbiter := by
  induction l generalizing s with
  | nil => rfl
  | cons i l ih => simp [ih]

@[simp] theorem foldDefer_evaluator (l : List Nat) (s : State) : (l.foldl (fun s i => deferSlot i s) s).evaluator = s.evaluator := by
  induction l generalizing s with
  | nil => rfl
  | cons i l ih => simp [ih]

@[simp] theorem foldDefer_protection (l : List Nat) (s : State) : (l.foldl (fun s i => deferSlot i s) s).protection = s.protection := by
  induction l generalizing s with
  | nil => rfl
  | cons i l ih => simp [ih]

@[simp] theorem foldDefer_sequencer (l : List Nat) (s : State) : (l.foldl (fun s i => deferSlot i s) s).sequencer = s.sequencer := by
  induction l generalizing s with
  | nil => rfl
  | cons i l ih => simp [ih]

@[simp] theorem foldDefer_capture (l : List Nat) (s : State) : (l.foldl (fun s i => deferSlot i s) s).capture = s.capture := by
  induction l generalizing s with
  | nil => rfl
  | cons i l ih => simp [ih]

@[simp] theorem foldDefer_power (l : List Nat) (s : State) : (l.foldl (fun s i => deferSlot i s) s).power = s.power := by
  induction l generalizing s with
  | nil => rfl
  | cons i l ih => simp [ih]

@[simp] theorem foldDefer_link (l : List Nat) (s : State) : (l.foldl (fun s i => deferSlot i s) s).link = s.link := by
  induction l generalizing s with
  | nil => rfl
  | cons i l ih => simp [ih]

@[simp] theorem foldDefer_notice (l : List Nat) (s : State) : (l.foldl (fun s i => deferSlot i s) s).notice = s.notice := by
  induction l generalizing s with
  | nil => rfl
  | cons i l ih => simp [ih]

@[simp] theorem deferTriggers_pending (s : State) : (deferTriggers s).pending = s.pending := by
  unfold deferTriggers
  try dsimp only
  simp

@[simp] theorem deferTriggers_choices (s : State) : (deferTriggers s).choices = s.choices := by
  unfold deferTriggers
  try dsimp only
  simp

@[simp] theorem deferTriggers_now (s : State) : (deferTriggers s).now = s.now := by
  unfold deferTriggers
  try dsimp only
  simp

@[simp] theorem deferTriggers_tables (s : State) : (deferTriggers s).tables = s.tables := by
  unfold deferTriggers
  try dsimp only
  simp

@[simp] theorem deferTriggers_update (s : State) : (deferTriggers s).update = s.update := by
  unfold deferTriggers
  try dsimp only
  simp

@[simp] theorem deferTriggers_chain (s : State) : (deferTriggers s).chain = s.chain := by
  unfold deferTriggers
  try dsimp only
  simp

@[simp] theorem deferTriggers_arbiter (s : State) : (deferTriggers s).arbiter = s.arbiter := by
  unfold deferTriggers
  try dsimp only
  simp

@[simp] theorem deferTriggers_evaluator (s : State) : (deferTriggers s).evaluator = s.evaluator := by
  unfold deferTriggers
  try dsimp only
  simp

@[simp] theorem deferTriggers_protection (s : State) : (deferTriggers s).protection = s.protection := by
  unfold deferTriggers
  try dsimp only
  simp

@[simp] theorem deferTriggers_sequencer (s : State) : (deferTriggers s).sequencer = s.sequencer := by
  unfold deferTriggers
  try dsimp only
  simp

@[simp] theorem deferTriggers_capture (s : State) : (deferTriggers s).capture = s.capture := by
  unfold deferTriggers
  try dsimp only
  simp

@[simp] theorem deferTriggers_power (s : State) : (deferTriggers s).power = s.power := by
  unfold deferTriggers
  try dsimp only
  simp

@[simp] theorem deferTriggers_link (s : State) : (deferTriggers s).link = s.link := by
  unfold deferTriggers
  try dsimp only
  simp

@[simp] theorem deferTriggers_notice (s : State) : (deferTriggers s).notice = s.notice := by
  unfold deferTriggers
  try dsimp only
  simp

@[simp] theorem foldDeferred_pending (l : List Nat) (s : State) : (l.foldl actDeferred s).pending = s.pending := by
  induction l generalizing s with
  | nil => rfl
  | cons i l ih => simp [ih]

@[simp] theorem foldDeferred_choices (l : List Nat) (s : State) : (l.foldl actDeferred s).choices = s.choices := by
  induction l generalizing s with
  | nil => rfl
  | cons i l ih => simp [ih]

@[simp] theorem foldDeferred_now (l : List Nat) (s : State) : (l.foldl actDeferred s).now = s.now := by
  induction l generalizing s with
  | nil => rfl
  | cons i l ih => simp [ih]

@[simp] theorem foldDeferred_tables (l : List Nat) (s : State) : (l.foldl actDeferred s).tables = s.tables := by
  induction l generalizing s with
  | nil => rfl
  | cons i l ih => simp [ih]

@[simp] theorem foldDeferred_update (l : List Nat) (s : State) : (l.foldl actDeferred s).update = s.update := by
  induction l generalizing s with
  | nil => rfl
  | cons i l ih => simp [ih]

@[simp] theorem foldDeferred_chain (l : List Nat) (s : State) : (l.foldl actDeferred s).chain = s.chain := by
  induction l generalizing s with
  | nil => rfl
  | cons i l ih => simp [ih]

@[simp] theorem foldDeferred_arbiter (l : List Nat) (s : State) : (l.foldl actDeferred s).arbiter = s.arbiter := by
  induction l generalizing s with
  | nil => rfl
  | cons i l ih => simp [ih]

@[simp] theorem foldDeferred_evaluator (l : List Nat) (s : State) : (l.foldl actDeferred s).evaluator = s.evaluator := by
  induction l generalizing s with
  | nil => rfl
  | cons i l ih => simp [ih]

@[simp] theorem foldDeferred_protection (l : List Nat) (s : State) : (l.foldl actDeferred s).protection = s.protection := by
  induction l generalizing s with
  | nil => rfl
  | cons i l ih => simp [ih]

@[simp] theorem foldDeferred_sequencer (l : List Nat) (s : State) : (l.foldl actDeferred s).sequencer = s.sequencer := by
  induction l generalizing s with
  | nil => rfl
  | cons i l ih => simp [ih]

@[simp] theorem foldDeferred_capture (l : List Nat) (s : State) : (l.foldl actDeferred s).capture = s.capture := by
  induction l generalizing s with
  | nil => rfl
  | cons i l ih => simp [ih]

@[simp] theorem foldDeferred_power (l : List Nat) (s : State) : (l.foldl actDeferred s).power = s.power := by
  induction l generalizing s with
  | nil => rfl
  | cons i l ih => simp [ih]

@[simp] theorem foldDeferred_link (l : List Nat) (s : State) : (l.foldl actDeferred s).link = s.link := by
  induction l generalizing s with
  | nil => rfl
  | cons i l ih => simp [ih]

@[simp] theorem foldDeferred_notice (l : List Nat) (s : State) : (l.foldl actDeferred s).notice = s.notice := by
  induction l generalizing s with
  | nil => rfl
  | cons i l ih => simp [ih]

@[simp] theorem enterQuiet_pending (s : State) : (enterQuiet s).pending = s.pending := by
  unfold enterQuiet
  try dsimp only
  simp

@[simp] theorem enterQuiet_choices (s : State) : (enterQuiet s).choices = s.choices := by
  unfold enterQuiet
  try dsimp only
  simp

@[simp] theorem enterQuiet_now (s : State) : (enterQuiet s).now = s.now := by
  unfold enterQuiet
  try dsimp only
  simp

@[simp] theorem enterQuiet_tables (s : State) : (enterQuiet s).tables = s.tables := by
  unfold enterQuiet
  try dsimp only
  simp

@[simp] theorem enterQuiet_update (s : State) : (enterQuiet s).update = s.update := by
  unfold enterQuiet
  try dsimp only
  simp

@[simp] theorem enterQuiet_evaluator (s : State) : (enterQuiet s).evaluator = s.evaluator := by
  unfold enterQuiet
  try dsimp only
  simp

@[simp] theorem enterQuiet_protection (s : State) : (enterQuiet s).protection = s.protection := by
  unfold enterQuiet
  try dsimp only
  simp

@[simp] theorem leaveQuiet_pending (s : State) : (leaveQuiet s).pending = s.pending := by
  unfold leaveQuiet
  try dsimp only
  simp

@[simp] theorem leaveQuiet_choices (s : State) : (leaveQuiet s).choices = s.choices := by
  unfold leaveQuiet
  try dsimp only
  simp

@[simp] theorem leaveQuiet_now (s : State) : (leaveQuiet s).now = s.now := by
  unfold leaveQuiet
  try dsimp only
  simp

@[simp] theorem leaveQuiet_tables (s : State) : (leaveQuiet s).tables = s.tables := by
  unfold leaveQuiet
  try dsimp only
  simp

@[simp] theorem leaveQuiet_update (s : State) : (leaveQuiet s).update = s.update := by
  unfold leaveQuiet
  try dsimp only
  simp

@[simp] theorem leaveQuiet_evaluator (s : State) : (leaveQuiet s).evaluator = s.evaluator := by
  unfold leaveQuiet
  try dsimp only
  simp

@[simp] theorem leaveQuiet_protection (s : State) : (leaveQuiet s).protection = s.protection := by
  unfold leaveQuiet
  try dsimp only
  simp

@[simp] theorem leaveQuiet_sequencer (s : State) : (leaveQuiet s).sequencer = s.sequencer := by
  unfold leaveQuiet
  try dsimp only
  simp

@[simp] theorem chooseProfile_pending (p : Fin 4) (s : State) : (chooseProfile p s).pending = s.pending := by
  unfold chooseProfile
  try dsimp only
  (repeat' split) <;> simp

@[simp] theorem chooseProfile_choices (p : Fin 4) (s : State) : (chooseProfile p s).choices = s.choices := by
  unfold chooseProfile
  try dsimp only
  (repeat' split) <;> simp

@[simp] theorem chooseProfile_now (p : Fin 4) (s : State) : (chooseProfile p s).now = s.now := by
  unfold chooseProfile
  try dsimp only
  (repeat' split) <;> simp

@[simp] theorem chooseProfile_tables (p : Fin 4) (s : State) : (chooseProfile p s).tables = s.tables := by
  unfold chooseProfile
  try dsimp only
  (repeat' split) <;> simp

@[simp] theorem chooseProfile_update (p : Fin 4) (s : State) : (chooseProfile p s).update = s.update := by
  unfold chooseProfile
  try dsimp only
  (repeat' split) <;> simp

@[simp] theorem chooseProfile_sweep (p : Fin 4) (s : State) : (chooseProfile p s).sweep = s.sweep := by
  unfold chooseProfile
  try dsimp only
  (repeat' split) <;> simp

@[simp] theorem chooseProfile_chain (p : Fin 4) (s : State) : (chooseProfile p s).chain = s.chain := by
  unfold chooseProfile
  try dsimp only
  (repeat' split) <;> simp

@[simp] theorem chooseProfile_arbiter (p : Fin 4) (s : State) : (chooseProfile p s).arbiter = s.arbiter := by
  unfold chooseProfile
  try dsimp only
  (repeat' split) <;> simp

@[simp] theorem chooseProfile_protection (p : Fin 4) (s : State) : (chooseProfile p s).protection = s.protection := by
  unfold chooseProfile
  try dsimp only
  (repeat' split) <;> simp

@[simp] theorem chooseProfile_sequencer (p : Fin 4) (s : State) : (chooseProfile p s).sequencer = s.sequencer := by
  unfold chooseProfile
  try dsimp only
  (repeat' split) <;> simp

@[simp] theorem chooseProfile_capture (p : Fin 4) (s : State) : (chooseProfile p s).capture = s.capture := by
  unfold chooseProfile
  try dsimp only
  (repeat' split) <;> simp

@[simp] theorem chooseProfile_power (p : Fin 4) (s : State) : (chooseProfile p s).power = s.power := by
  unfold chooseProfile
  try dsimp only
  (repeat' split) <;> simp

@[simp] theorem chooseProfile_link (p : Fin 4) (s : State) : (chooseProfile p s).link = s.link := by
  unfold chooseProfile
  try dsimp only
  (repeat' split) <;> simp

@[simp] theorem chooseProfile_notice (p : Fin 4) (s : State) : (chooseProfile p s).notice = s.notice := by
  unfold chooseProfile
  try dsimp only
  (repeat' split) <;> simp

@[simp] theorem grantClear_pending (s : State) : (grantClear s).pending = s.pending := by
  unfold grantClear
  try dsimp only
  (repeat' split) <;> simp

@[simp] theorem grantClear_choices (s : State) : (grantClear s).choices = s.choices := by
  unfold grantClear
  try dsimp only
  (repeat' split) <;> simp

@[simp] theorem grantClear_now (s : State) : (grantClear s).now = s.now := by
  unfold grantClear
  try dsimp only
  (repeat' split) <;> simp

@[simp] theorem grantClear_tables (s : State) : (grantClear s).tables = s.tables := by
  unfold grantClear
  try dsimp only
  (repeat' split) <;> simp

@[simp] theorem grantClear_update (s : State) : (grantClear s).update = s.update := by
  unfold grantClear
  try dsimp only
  (repeat' split) <;> simp

@[simp] theorem grantClear_sweep (s : State) : (grantClear s).sweep = s.sweep := by
  unfold grantClear
  try dsimp only
  (repeat' split) <;> simp

@[simp] theorem grantClear_chain (s : State) : (grantClear s).chain = s.chain := by
  unfold grantClear
  try dsimp only
  (repeat' split) <;> simp

@[simp] theorem grantClear_arbiter (s : State) : (grantClear s).arbiter = s.arbiter := by
  unfold grantClear
  try dsimp only
  (repeat' split) <;> simp

@[simp] theorem grantClear_capture (s : State) : (grantClear s).capture = s.capture := by
  unfold grantClear
  try dsimp only
  (repeat' split) <;> simp

@[simp] theorem grantClear_power (s : State) : (grantClear s).power = s.power := by
  unfold grantClear
  try dsimp only
  (repeat' split) <;> simp

@[simp] theorem grantClear_link (s : State) : (grantClear s).link = s.link := by
  unfold grantClear
  try dsimp only
  (repeat' split) <;> simp

@[simp] theorem grantClear_notice (s : State) : (grantClear s).notice = s.notice := by
  unfold grantClear
  try dsimp only
  (repeat' split) <;> simp

@[simp] theorem tick_pending (s : State) : (tick s).pending = s.pending := by
  unfold tick
  try dsimp only
  (repeat' split) <;> simp

@[simp] theorem tick_choices (s : State) : (tick s).choices = s.choices := by
  unfold tick
  try dsimp only
  (repeat' split) <;> simp

@[simp] theorem tick_now (s : State) : (tick s).now = s.now := by
  unfold tick
  try dsimp only
  (repeat' split) <;> simp

@[simp] theorem tick_tables (s : State) : (tick s).tables = s.tables := by
  unfold tick
  try dsimp only
  (repeat' split) <;> simp

@[simp] theorem tick_update (s : State) : (tick s).update = s.update := by
  unfold tick
  try dsimp only
  (repeat' split) <;> simp

@[simp] theorem tick_chain (s : State) : (tick s).chain = s.chain := by
  unfold tick
  try dsimp only
  (repeat' split) <;> simp

@[simp] theorem tick_arbiter (s : State) : (tick s).arbiter = s.arbiter := by
  unfold tick
  try dsimp only
  (repeat' split) <;> simp

@[simp] theorem tick_evaluator (s : State) : (tick s).evaluator = s.evaluator := by
  unfold tick
  try dsimp only
  (repeat' split) <;> simp

@[simp] theorem tick_protection (s : State) : (tick s).protection = s.protection := by
  unfold tick
  try dsimp only
  (repeat' split) <;> simp

@[simp] theorem tick_sequencer (s : State) : (tick s).sequencer = s.sequencer := by
  unfold tick
  try dsimp only
  (repeat' split) <;> simp

@[simp] theorem tick_power (s : State) : (tick s).power = s.power := by
  unfold tick
  try dsimp only
  (repeat' split) <;> simp

@[simp] theorem tick_link (s : State) : (tick s).link = s.link := by
  unfold tick
  try dsimp only
  (repeat' split) <;> simp

@[simp] theorem tick_notice (s : State) : (tick s).notice = s.notice := by
  unfold tick
  try dsimp only
  (repeat' split) <;> simp

@[simp] theorem passTime_pending (s : State) : (passTime s).pending = s.pending := by
  unfold passTime
  try dsimp only
  (repeat' split) <;> simp

@[simp] theorem passTime_choices (s : State) : (passTime s).choices = s.choices := by
  unfold passTime
  try dsimp only
  (repeat' split) <;> simp

@[simp] theorem passTime_tables (s : State) : (passTime s).tables = s.tables := by
  unfold passTime
  try dsimp only
  (repeat' split) <;> simp

@[simp] theorem passTime_update (s : State) : (passTime s).update = s.update := by
  unfold passTime
  try dsimp only
  (repeat' split) <;> simp

@[simp] theorem passTime_chain (s : State) : (passTime s).chain = s.chain := by
  unfold passTime
  try dsimp only
  (repeat' split) <;> simp

@[simp] theorem passTime_arbiter (s : State) : (passTime s).arbiter = s.arbiter := by
  unfold passTime
  try dsimp only
  (repeat' split) <;> simp

@[simp] theorem passTime_evaluator (s : State) : (passTime s).evaluator = s.evaluator := by
  unfold passTime
  try dsimp only
  (repeat' split) <;> simp

@[simp] theorem passTime_protection (s : State) : (passTime s).protection = s.protection := by
  unfold passTime
  try dsimp only
  (repeat' split) <;> simp

@[simp] theorem passTime_sequencer (s : State) : (passTime s).sequencer = s.sequencer := by
  unfold passTime
  try dsimp only
  (repeat' split) <;> simp

@[simp] theorem passTime_link (s : State) : (passTime s).link = s.link := by
  unfold passTime
  try dsimp only
  (repeat' split) <;> simp

@[simp] theorem passTime_notice (s : State) : (passTime s).notice = s.notice := by
  unfold passTime
  try dsimp only
  (repeat' split) <;> simp

@[simp] theorem takeFrameOut_pending (s : State) : (takeFrameOut s).pending = s.pending := by
  unfold takeFrameOut
  try dsimp only
  (repeat' split) <;> simp

@[simp] theorem takeFrameOut_choices (s : State) : (takeFrameOut s).choices = s.choices := by
  unfold takeFrameOut
  try dsimp only
  (repeat' split) <;> simp

@[simp] theorem takeFrameOut_now (s : State) : (takeFrameOut s).now = s.now := by
  unfold takeFrameOut
  try dsimp only
  (repeat' split) <;> simp

@[simp] theorem takeFrameOut_tables (s : State) : (takeFrameOut s).tables = s.tables := by
  unfold takeFrameOut
  try dsimp only
  (repeat' split) <;> simp

@[simp] theorem takeFrameOut_update (s : State) : (takeFrameOut s).update = s.update := by
  unfold takeFrameOut
  try dsimp only
  (repeat' split) <;> simp

@[simp] theorem takeFrameOut_sweep (s : State) : (takeFrameOut s).sweep = s.sweep := by
  unfold takeFrameOut
  try dsimp only
  (repeat' split) <;> simp

@[simp] theorem takeFrameOut_chain (s : State) : (takeFrameOut s).chain = s.chain := by
  unfold takeFrameOut
  try dsimp only
  (repeat' split) <;> simp

@[simp] theorem takeFrameOut_arbiter (s : State) : (takeFrameOut s).arbiter = s.arbiter := by
  unfold takeFrameOut
  try dsimp only
  (repeat' split) <;> simp

@[simp] theorem takeFrameOut_evaluator (s : State) : (takeFrameOut s).evaluator = s.evaluator := by
  unfold takeFrameOut
  try dsimp only
  (repeat' split) <;> simp

@[simp] theorem takeFrameOut_protection (s : State) : (takeFrameOut s).protection = s.protection := by
  unfold takeFrameOut
  try dsimp only
  (repeat' split) <;> simp

@[simp] theorem takeFrameOut_sequencer (s : State) : (takeFrameOut s).sequencer = s.sequencer := by
  unfold takeFrameOut
  try dsimp only
  (repeat' split) <;> simp

@[simp] theorem takeFrameOut_capture (s : State) : (takeFrameOut s).capture = s.capture := by
  unfold takeFrameOut
  try dsimp only
  (repeat' split) <;> simp

@[simp] theorem takeFrameOut_power (s : State) : (takeFrameOut s).power = s.power := by
  unfold takeFrameOut
  try dsimp only
  (repeat' split) <;> simp

@[simp] theorem takeFrameOut_notice (s : State) : (takeFrameOut s).notice = s.notice := by
  unfold takeFrameOut
  try dsimp only
  (repeat' split) <;> simp

@[simp] theorem forwardFrame_pending (f : Frame) (s : State) : (forwardFrame f s).pending = s.pending := by
  unfold forwardFrame
  try dsimp only
  simp

@[simp] theorem forwardFrame_choices (f : Frame) (s : State) : (forwardFrame f s).choices = s.choices := by
  unfold forwardFrame
  try dsimp only
  simp

@[simp] theorem forwardFrame_now (f : Frame) (s : State) : (forwardFrame f s).now = s.now := by
  unfold forwardFrame
  try dsimp only
  simp

@[simp] theorem forwardFrame_tables (f : Frame) (s : State) : (forwardFrame f s).tables = s.tables := by
  unfold forwardFrame
  try dsimp only
  simp

@[simp] theorem forwardFrame_update (f : Frame) (s : State) : (forwardFrame f s).update = s.update := by
  unfold forwardFrame
  try dsimp only
  simp

@[simp] theorem forwardFrame_evaluator (f : Frame) (s : State) : (forwardFrame f s).evaluator = s.evaluator := by
  unfold forwardFrame
  try dsimp only
  simp

@[simp] theorem forwardFrame_protection (f : Frame) (s : State) : (forwardFrame f s).protection = s.protection := by
  unfold forwardFrame
  try dsimp only
  simp

end Sys2Proof.Machine
end

