-- ==== Sys2Proof/Laws/State.lean ====
section
/-! SUPPORT. Field by field, what the acceptance of a frame and its reply leave: `taken`, `closed` and `replied` of Safety.lean. -/

namespace Sys2Proof.Machine

set_option Elab.async false

@[simp] theorem taken_pending (s : State) : (taken s).pending = s.pending := rfl

@[simp] theorem taken_choices (s : State) : (taken s).choices = s.choices := rfl

@[simp] theorem taken_now (s : State) : (taken s).now = s.now := rfl

@[simp] theorem taken_tables (s : State) : (taken s).tables = s.tables := rfl

@[simp] theorem taken_update (s : State) : (taken s).update = s.update := rfl

@[simp] theorem taken_sweep (s : State) : (taken s).sweep = s.sweep := rfl

@[simp] theorem taken_chain (s : State) : (taken s).chain = s.chain := rfl

@[simp] theorem taken_arbiter (s : State) : (taken s).arbiter = s.arbiter := rfl

@[simp] theorem taken_evaluator (s : State) : (taken s).evaluator = s.evaluator := rfl

@[simp] theorem taken_protection (s : State) : (taken s).protection = s.protection := rfl

@[simp] theorem taken_capture (s : State) : (taken s).capture = s.capture := rfl

@[simp] theorem taken_power (s : State) : (taken s).power = s.power := rfl

@[simp] theorem taken_notice (s : State) : (taken s).notice = s.notice := rfl

@[simp] theorem taken_sequencer_state (s : State) : (taken s).sequencer.state = s.sequencer.state := rfl

@[simp] theorem taken_sequencer_drive (s : State) : (taken s).sequencer.drive = s.sequencer.drive := rfl

@[simp] theorem taken_sequencer_feedback (s : State) : (taken s).sequencer.feedback = s.sequencer.feedback := rfl

@[simp] theorem taken_sequencer_closePending (s : State) : (taken s).sequencer.closePending = s.sequencer.closePending := rfl

@[simp] theorem taken_sequencer_openPending (s : State) : (taken s).sequencer.openPending = s.sequencer.openPending := rfl

@[simp] theorem taken_sequencer_prechargeTimer (s : State) : (taken s).sequencer.prechargeTimer = s.sequencer.prechargeTimer := rfl

@[simp] theorem taken_sequencer_deferTimer (s : State) : (taken s).sequencer.deferTimer = s.sequencer.deferTimer := rfl

@[simp] theorem taken_sequencer_dwellTimer (s : State) : (taken s).sequencer.dwellTimer = s.sequencer.dwellTimer := rfl

@[simp] theorem taken_sequencer_weldTimer (s : State) : (taken s).sequencer.weldTimer = s.sequencer.weldTimer := rfl

@[simp] theorem taken_sequencer_disagreePos (s : State) : (taken s).sequencer.disagreePos = s.sequencer.disagreePos := rfl

@[simp] theorem taken_sequencer_disagreeNeg (s : State) : (taken s).sequencer.disagreeNeg = s.sequencer.disagreeNeg := rfl

@[simp] theorem taken_sequencer_disagreePre (s : State) : (taken s).sequencer.disagreePre = s.sequencer.disagreePre := rfl

@[simp] theorem taken_sequencer_prechargeStart (s : State) : (taken s).sequencer.prechargeStart = s.sequencer.prechargeStart := rfl

@[simp] theorem taken_sequencer_prechargeMs (s : State) : (taken s).sequencer.prechargeMs = s.sequencer.prechargeMs := rfl

@[simp] theorem taken_sequencer_deferStart (s : State) : (taken s).sequencer.deferStart = s.sequencer.deferStart := rfl

@[simp] theorem taken_sequencer_qualifying (s : State) : (taken s).sequencer.qualifying = s.sequencer.qualifying := rfl

@[simp] theorem taken_sequencer_openSequence (s : State) : (taken s).sequencer.openSequence = s.sequencer.openSequence := rfl

@[simp] theorem taken_sequencer_lastClose (s : State) : (taken s).sequencer.lastClose = s.sequencer.lastClose := rfl

@[simp] theorem taken_sequencer_lastOpen (s : State) : (taken s).sequencer.lastOpen = s.sequencer.lastOpen := rfl

@[simp] theorem taken_sequencer_silenceTimer (s : State) : (taken s).sequencer.silenceTimer = silenceAfter s := rfl

@[simp] theorem taken_link_answerSlot (s : State) : (taken s).link.answerSlot = s.link.answerSlot := rfl

@[simp] theorem taken_link_forward (s : State) : (taken s).link.forward = s.link.forward := rfl

@[simp] theorem taken_link_upstream (s : State) : (taken s).link.upstream = s.link.upstream := rfl

@[simp] theorem taken_link_exchange (s : State) : (taken s).link.exchange = none := rfl

@[simp] theorem taken_link_reserved (s : State) : (taken s).link.reserved = s.link.reserved + 1 := rfl

@[simp] theorem closed_pending (s : State) : (closed s).pending = s.pending := rfl

@[simp] theorem closed_choices (s : State) : (closed s).choices = s.choices := rfl

@[simp] theorem closed_now (s : State) : (closed s).now = s.now := rfl

@[simp] theorem closed_tables (s : State) : (closed s).tables = s.tables := rfl

@[simp] theorem closed_sweep (s : State) : (closed s).sweep = s.sweep := rfl

@[simp] theorem closed_chain (s : State) : (closed s).chain = s.chain := rfl

@[simp] theorem closed_arbiter (s : State) : (closed s).arbiter = s.arbiter := rfl

@[simp] theorem closed_evaluator (s : State) : (closed s).evaluator = s.evaluator := rfl

@[simp] theorem closed_protection (s : State) : (closed s).protection = s.protection := rfl

@[simp] theorem closed_capture (s : State) : (closed s).capture = s.capture := rfl

@[simp] theorem closed_power (s : State) : (closed s).power = s.power := rfl

@[simp] theorem closed_notice (s : State) : (closed s).notice = s.notice := rfl

@[simp] theorem closed_sequencer_state (s : State) : (closed s).sequencer.state = s.sequencer.state := rfl

@[simp] theorem closed_sequencer_drive (s : State) : (closed s).sequencer.drive = s.sequencer.drive := rfl

@[simp] theorem closed_sequencer_feedback (s : State) : (closed s).sequencer.feedback = s.sequencer.feedback := rfl

@[simp] theorem closed_sequencer_closePending (s : State) : (closed s).sequencer.closePending = s.sequencer.closePending := rfl

@[simp] theorem closed_sequencer_openPending (s : State) : (closed s).sequencer.openPending = s.sequencer.openPending := rfl

@[simp] theorem closed_sequencer_prechargeTimer (s : State) : (closed s).sequencer.prechargeTimer = s.sequencer.prechargeTimer := rfl

@[simp] theorem closed_sequencer_deferTimer (s : State) : (closed s).sequencer.deferTimer = s.sequencer.deferTimer := rfl

@[simp] theorem closed_sequencer_dwellTimer (s : State) : (closed s).sequencer.dwellTimer = s.sequencer.dwellTimer := rfl

@[simp] theorem closed_sequencer_weldTimer (s : State) : (closed s).sequencer.weldTimer = s.sequencer.weldTimer := rfl

@[simp] theorem closed_sequencer_disagreePos (s : State) : (closed s).sequencer.disagreePos = s.sequencer.disagreePos := rfl

@[simp] theorem closed_sequencer_disagreeNeg (s : State) : (closed s).sequencer.disagreeNeg = s.sequencer.disagreeNeg := rfl

@[simp] theorem closed_sequencer_disagreePre (s : State) : (closed s).sequencer.disagreePre = s.sequencer.disagreePre := rfl

@[simp] theorem closed_sequencer_prechargeStart (s : State) : (closed s).sequencer.prechargeStart = s.sequencer.prechargeStart := rfl

@[simp] theorem closed_sequencer_prechargeMs (s : State) : (closed s).sequencer.prechargeMs = s.sequencer.prechargeMs := rfl

@[simp] theorem closed_sequencer_deferStart (s : State) : (closed s).sequencer.deferStart = s.sequencer.deferStart := rfl

@[simp] theorem closed_sequencer_qualifying (s : State) : (closed s).sequencer.qualifying = s.sequencer.qualifying := rfl

@[simp] theorem closed_sequencer_openSequence (s : State) : (closed s).sequencer.openSequence = s.sequencer.openSequence := rfl

@[simp] theorem closed_sequencer_lastClose (s : State) : (closed s).sequencer.lastClose = s.sequencer.lastClose := rfl

@[simp] theorem closed_sequencer_lastOpen (s : State) : (closed s).sequencer.lastOpen = s.sequencer.lastOpen := rfl

@[simp] theorem closed_sequencer_silenceTimer (s : State) : (closed s).sequencer.silenceTimer = silenceAfter s := rfl

@[simp] theorem closed_link_answerSlot (s : State) : (closed s).link.answerSlot = s.link.answerSlot := rfl

@[simp] theorem closed_link_forward (s : State) : (closed s).link.forward = s.link.forward := rfl

@[simp] theorem closed_link_upstream (s : State) : (closed s).link.upstream = s.link.upstream := rfl

@[simp] theorem closed_link_exchange (s : State) : (closed s).link.exchange = none := rfl

@[simp] theorem closed_link_reserved (s : State) : (closed s).link.reserved = s.link.reserved + 1 := rfl

@[simp] theorem closed_update_state (s : State) : (closed s).update.state = s.update.state := rfl

@[simp] theorem closed_update_stage (s : State) : (closed s).update.stage = s.update.stage := rfl

@[simp] theorem closed_update_window (s : State) : (closed s).update.window = s.update.window := rfl

@[simp] theorem closed_update_tag (s : State) : (closed s).update.tag = s.update.tag := rfl

@[simp] theorem closed_update_target (s : State) : (closed s).update.target = s.update.target := rfl

@[simp] theorem closed_update_commit (s : State) : (closed s).update.commit = s.update.commit := rfl

@[simp] theorem closed_update_commitTampered (s : State) : (closed s).update.commitTampered = s.update.commitTampered := rfl

@[simp] theorem closed_update_lastResult (s : State) : (closed s).update.lastResult = s.update.lastResult := rfl

@[simp] theorem closed_update_rejected (s : State) : (closed s).update.rejected = s.update.rejected := rfl

@[simp] theorem closed_update_mismatches (s : State) : (closed s).update.mismatches = s.update.mismatches := rfl

@[simp] theorem closed_update_tamperLatch (s : State) : (closed s).update.tamperLatch = s.update.tamperLatch := rfl

@[simp] theorem closed_update_floorLock (s : State) : (closed s).update.floorLock = s.update.floorLock := rfl

@[simp] theorem closed_update_tamperReading (s : State) : (closed s).update.tamperReading = s.update.tamperReading := rfl

@[simp] theorem closed_update_openWrite (s : State) : (closed s).update.openWrite = none := rfl

@[simp] theorem taken_live (s : State) : live (taken s) = live s := rfl

@[simp] theorem closed_live (s : State) : live (closed s) = live s := rfl

@[simp] theorem replied_pending (code : Byte) (r : Reply) (s : State) : (replied code r s).pending = s.pending := rfl

@[simp] theorem replied_choices (code : Byte) (r : Reply) (s : State) : (replied code r s).choices = s.choices := rfl

@[simp] theorem replied_now (code : Byte) (r : Reply) (s : State) : (replied code r s).now = s.now := rfl

@[simp] theorem replied_tables (code : Byte) (r : Reply) (s : State) : (replied code r s).tables = s.tables := rfl

@[simp] theorem replied_update (code : Byte) (r : Reply) (s : State) : (replied code r s).update = s.update := rfl

@[simp] theorem replied_sweep (code : Byte) (r : Reply) (s : State) : (replied code r s).sweep = s.sweep := rfl

@[simp] theorem replied_chain (code : Byte) (r : Reply) (s : State) : (replied code r s).chain = s.chain := rfl

@[simp] theorem replied_arbiter (code : Byte) (r : Reply) (s : State) : (replied code r s).arbiter = s.arbiter := rfl

@[simp] theorem replied_evaluator (code : Byte) (r : Reply) (s : State) : (replied code r s).evaluator = s.evaluator := rfl

@[simp] theorem replied_protection (code : Byte) (r : Reply) (s : State) : (replied code r s).protection = s.protection := rfl

@[simp] theorem replied_sequencer (code : Byte) (r : Reply) (s : State) : (replied code r s).sequencer = s.sequencer := rfl

@[simp] theorem replied_capture (code : Byte) (r : Reply) (s : State) : (replied code r s).capture = s.capture := rfl

@[simp] theorem replied_power (code : Byte) (r : Reply) (s : State) : (replied code r s).power = s.power := rfl

@[simp] theorem replied_notice (code : Byte) (r : Reply) (s : State) : (replied code r s).notice = s.notice := rfl

@[simp] theorem replied_link_exchange (code : Byte) (r : Reply) (s : State) : (replied code r s).link.exchange = s.link.exchange := rfl

@[simp] theorem replied_link_answerSlot (code : Byte) (r : Reply) (s : State) : (replied code r s).link.answerSlot = s.link.answerSlot := rfl

@[simp] theorem replied_link_forward (code : Byte) (r : Reply) (s : State) : (replied code r s).link.forward = s.link.forward := rfl

@[simp] theorem replied_link_upstream (code : Byte) (r : Reply) (s : State) :
    (replied code r s).link.upstream = s.link.upstream ++ [replyFrame code r] := rfl

@[simp] theorem replied_link_reserved (code : Byte) (r : Reply) (s : State) : (replied code r s).link.reserved = s.link.reserved - 1 := rfl

/-- Every operation of a command reads the same facts of the state after the acceptance as before it. -/
theorem closed_facts (s : State) :
    enteringSleep (closed s) = enteringSleep s ∧ openOrFaulted (closed s) = openOrFaulted s ∧ packSenseUsable (closed s) = packSenseUsable s ∧
      safetyActivation (closed s) = safetyActivation s ∧ sweeping (closed s) = sweeping s ∧ portPowered (closed s) = portPowered s ∧
      waking (closed s) = waking s := ⟨rfl, rfl, rfl, rfl, rfl, rfl, rfl⟩

end Sys2Proof.Machine
end

