-- ==== Sys2Proof/Laws/Commands.lean ====
section
/-! SUPPORT. A management command from its acceptance to its reply: what `manage` answers, once, for all commands; and that no command
touches the queue of the commands that wait. -/

namespace Sys2Proof.Machine

set_option Elab.async false

/-- The acceptance of a frame at the end of its exchange. -/
theorem acceptFrame_eq_taken (s : State) : acceptFrame { s with link.exchange := none } = taken s := by
  simp [acceptFrame, taken, silenceAfter, after, live]

/-- An accepted command but UPDATE-WRITE acts on the closed state, and its reply is appended. -/
theorem manage_eq_replied {s : State} (h : Accepting s) {code : Byte} (hc : code ≠ 0x15) (cmd : State → Reply × State) :
    manage code cmd s = replied code (cmd (closed s)).1 (cmd (closed s)).2 := by
  have h1 : freeCount { s with link.exchange := none } = freeCount s := rfl
  have h2 : waking { s with link.exchange := none } = waking s := rfl
  have e : closeWrite (acceptFrame { s with link.exchange := none }) = closed s := by rw [acceptFrame_eq_taken]; rfl
  simp only [manage, h.powered, h.lit, h1, h2, h.awake, h.room, dispatch, hc, Bool.not_true, Bool.or_self, Bool.false_eq_true,
    if_false, e]
  rfl

/-- An accepted UPDATE-WRITE acts on the taken state, its open write still open. -/
theorem manage_write_eq_replied {s : State} (h : Accepting s) (cmd : State → Reply × State) :
    manage 0x15 cmd s = replied 0x15 (cmd (taken s)).1 (cmd (taken s)).2 := by
  have h1 : freeCount { s with link.exchange := none } = freeCount s := rfl
  have h2 : waking { s with link.exchange := none } = waking s := rfl
  have e : acceptFrame { s with link.exchange := none } = taken s := by rw [acceptFrame_eq_taken]
  simp only [manage, h.powered, h.lit, h1, h2, h.awake, h.room, dispatch, Bool.not_true, Bool.or_self, Bool.false_eq_true, if_false,
    if_true, e]
  rfl

/-- The drain phase is a phase of ENTERING_SLEEP. -/
theorem enteringSleep_of_drain {s : State} (h : s.power.power = .drain) : enteringSleep s = true := by simp [enteringSleep, h]

/-- A part that accepts frames outside the drain phase is not ENTERING_SLEEP. -/
theorem not_enteringSleep_of_accepting {s : State} (h : Accepting s) (hd : s.power.power ≠ .drain) : enteringSleep s = false := by
  have hp := h.powered
  unfold portPowered at hp; unfold enteringSleep
  split <;> simp_all

/-- A management frame leaves the waiting commands as its command does. -/
theorem manage_pending (code : Byte) (cmd : State → Reply × State) (h : ∀ s, (cmd s).2.pending = s.pending) (s : State) :
    (manage code cmd s).pending = s.pending := by
  unfold manage dispatch
  dsimp only
  split
  · rfl
  split
  · simp
  split
  · simp
  · rw [enqueueReserved_pending, h]; split <;> simp

/-- The lowest channel that fails PERSISTING, when one is found. -/
theorem firstPersisting_eq_some (s : State) (i : Nat) :
    firstPersisting s = some i ↔
      (i < 480 ∧ persisting s i = true) ∧ ∀ j, j < i → ¬ (j < 480 ∧ persisting s j = true) := by
  simp only [firstPersisting]
  rw [List.find?_range_eq_some]
  constructor
  · rintro ⟨a, b, c⟩; exact ⟨⟨by simpa using b, a⟩, fun j hj hh => by have := c j hj; simp [hh.2] at this⟩
  · rintro ⟨⟨a, b⟩, c⟩; exact ⟨b, by simpa using a, fun j hj => by have := c j hj; simp at this; simpa using this (by omega)⟩

/-- No channel fails PERSISTING. -/
theorem firstPersisting_eq_none (s : State) : firstPersisting s = none ↔ ∀ i, ¬ (i < 480 ∧ persisting s i = true) := by
  simp [firstPersisting, List.find?_eq_none]

end Sys2Proof.Machine
end

