-- ==== Sys2Proof/Laws/Operations.lean ====
section
/-! SUPPORT. What the shared operations do, one lemma each: the supervision of the feedbacks, the breaking off of a close, the end of a
transaction, the arbiter on a busy chain, the folds of the Sweep Engine, and the entries of the tables. -/

namespace Sys2Proof.Machine

set_option Elab.async false

/-! ### Timers -/

/-- A timer has expired when it runs and its instant has come. -/
theorem expired_iff (s : State) (timer : Option Nat) : expired s timer = true ↔ ∃ t, timer = some t ∧ t ≤ s.now := by
  cases timer <;> simp [expired]

/-! ### Trips of the other blocks -/

/-- A trip that hands no order is taken alone. -/
theorem takeOutsideTrip_of_soft (t : Trip) (s : State) (h : responseTo (live s) t.cause = .soft) : takeOutsideTrip t s = takeTrip t s := by
  have e (timer : Option Nat) : stoppedExpired s timer timer = false := by cases timer <;> simp [stoppedExpired, expired]
  have q : (takeTrip t s).sequencer = s.sequencer := by simp [takeTrip, h]
  have d (c : Contactor) : disagreeTimer (takeTrip t s) c = disagreeTimer s c := by cases c <;> simp [disagreeTimer, q]
  simp [takeOutsideTrip, takeStoppedExpiry, prechargeStopped, disagreementStopped, silenceStopped, q, d, e]

/-! ### The supervision of the feedbacks -/

@[simp] theorem superviseFeedback_state (s : State) : (superviseFeedback s).sequencer.state = s.sequencer.state := by
  simp only [superviseFeedback]; split <;> rfl

@[simp] theorem superviseFeedback_drive (s : State) : (superviseFeedback s).sequencer.drive = s.sequencer.drive := by
  simp only [superviseFeedback]; split <;> rfl

@[simp] theorem superviseFeedback_feedback (s : State) : (superviseFeedback s).sequencer.feedback = s.sequencer.feedback := by
  simp only [superviseFeedback]; split <;> rfl

@[simp] theorem superviseFeedback_openSequence (s : State) :
    (superviseFeedback s).sequencer.openSequence = s.sequencer.openSequence := by
  simp only [superviseFeedback]; split <;> rfl

@[simp] theorem superviseFeedback_prechargeMs (s : State) :
    (superviseFeedback s).sequencer.prechargeMs = s.sequencer.prechargeMs := by
  simp only [superviseFeedback]; split <;> rfl

/-- A second supervision of the same disagreement changes nothing. -/
theorem disagreeAfter_idem (t : Option Nat) (agrees : Bool) (start : Nat) :
    disagreeAfter (disagreeAfter t agrees start) agrees start = disagreeAfter t agrees start := by
  unfold disagreeAfter; cases agrees <;> cases t <;> simp

/-! ### The breaking off of a close -/

/-- Outputs open, timers stop, the record is written and WELD_CHECK begins, under one supervision. -/
theorem enterWeldCheck_of_close (r : CloseResult) (kept : Option Nat) (s : State) (h : s.sequencer.state ≠ .faulted) :
    enterWeldCheck (writeClose r kept { setDrives allOpen s with sequencer.prechargeTimer := none, sequencer.silenceTimer := none }) =
      superviseFeedback
        { s with
          sequencer.drive := allOpen
          sequencer.prechargeTimer := none
          sequencer.silenceTimer := none
          sequencer.state := .weldCheck
          sequencer.weldTimer := some (s.now + (live s).contactor.weldTime.toNat * 100)
          sequencer.lastClose := some { result := r, prechargeMs := kept, sweep := s.sweep.number } } := by
  simp only [enterWeldCheck, writeClose, setDrives, after, ms]
  by_cases hp : s.power.power = .active
  · simp [superviseFeedback, h, hp, live, disagreeAfter_idem]
  · simp [superviseFeedback, h, hp, live]

/-! ### The end of a transaction -/

/-- An addressed transaction in flight is awaited. -/
theorem awaiting_eq {s : State} {t : Transaction} {p : Nat} (h : s.chain.inFlight = some t) (ht : t.target = some p) :
    awaiting s = some (t, p) := by simp [awaiting, h, ht]

/-- A forwarded transaction hands its outcome on, or nothing when it is to be discarded. -/
theorem finish_forward (t : Transaction) (p : Nat) (e : Ending) (s : State) (h : t.requester = .forward) :
    finish t p e s =
      arbitrate (if t.discard then { s with chain.inFlight := none } else handForward p e { s with chain.inFlight := none }) := by
  simp only [finish, h, applyMiss, handOn]

/-- An ASSIGN hands its outcome to the enumeration. -/
theorem finish_enumerate (t : Transaction) (p : Nat) (e : Ending) (s : State) (h : t.requester = .enumerate) :
    finish t p e s = arbitrate (handEnumerate p e { s with chain.inFlight := none }) := by
  simp only [finish, h, applyMiss, handOn]

/-- The arbiter does nothing while a transaction is in flight. -/
theorem arbitrateN_busy (n : Nat) {s : State} (h : chainFree s = false) : arbitrateN n s = s := by
  cases n <;> simp [arbitrateN, h]

/-- The arbiter does nothing when no requester may be granted. -/
theorem arbitrateN_idle (n : Nat) {s : State} (h : chooseGrant s = none) : arbitrateN n s = s := by
  cases n <;> simp [arbitrateN, h]

/-! ### The folds of the Sweep Engine -/

/-- Adding reads one after another changes the read list alone. -/
theorem foldReads_eq (kind : ReadKind) (ps : List Nat) (s : State) :
    ps.foldl (fun s p => addRead s { position := p, kind := kind }) s =
      { s with
        sweep.reads :=
          ps.foldl (fun l p => if (⟨p, kind⟩ : ReadEntry) ∈ l then l else l ++ [⟨p, kind⟩]) s.sweep.reads } := by
  induction ps generalizing s with
  | nil => rfl
  | cons p ps ih =>
    rw [List.foldl_cons, List.foldl_cons, ih]
    by_cases h : (⟨p, kind⟩ : ReadEntry) ∈ s.sweep.reads <;> simp [addRead, h]

/-! ### The entries of the tables -/

/-- Every entry has bytes. -/
theorem fieldWidths_sum_pos (t : Table) (i : Nat) : 0 < (fieldWidths t i).sum := by
  cases t <;> simp only [fieldWidths] <;> (try split) <;> decide

/-- The width of an entry is the sum of the widths of its fields. -/
theorem entryWidth_eq_sum (t : Table) (i : Nat) : entryWidth t i = (fieldWidths t i).sum := by
  rw [entryWidth, List.sum_eq_foldl]

/-- An entry has a value for each field of its layout. -/
theorem entryFields_length (img : Image) (t : Table) (i : Nat) : (entryFields img t i).length = (fieldWidths t i).length := by
  cases t <;> simp only [fieldWidths, entryFields] <;> (try split) <;> rfl

/-- The bytes of an entry give a value for each field of its layout. -/
theorem unpackFields_length (ws : List Nat) (b : List Byte) : (unpackFields ws b).length = ws.length := by
  induction ws generalizing b with
  | nil => rfl
  | cons w ws ih => simp [unpackFields, ih]

/-- Replacing a table replaces its entries and no others. -/
theorem entryFields_withTable (img src : Image) (t u : Table) (i : Nat) :
    entryFields (withTable img src t) u i = if u = t then entryFields src u i else entryFields img u i := by
  cases t <;> cases u <;> simp only [reduceCtorEq, if_true, if_false] <;> rfl

/-- A table of a set is one whose bit is set. -/
theorem mem_tablesOf (set : Byte) (t : Table) : t ∈ tablesOf set ↔ holds set t = true := by
  simp only [tablesOf, List.mem_filter, and_iff_right_iff_imp]; intro _; cases t <;> decide

end Sys2Proof.Machine
end

