-- ==== Sys2Proof/Laws/PerInstr.lean ====
section
/-! SUPPORT. Statements about every command, made command by command. -/

namespace Sys2Proof.Laws

set_option Elab.async false

/-- The frame of a well-formed command of the Controller Port fits: its parameters are at most 31 bytes (10.1). -/
def CommandFits.Statement (i : Instr) : Prop :=
  i.wellFormed = true → ∀ code p, Machine.commandFrame i = some (code, p) → p.length ≤ 31

theorem CommandFits.exchangeBegin : CommandFits.Statement .exchangeBegin := by
  intro _ code q e
  cases e

theorem CommandFits.exchangeEnd (rx : List Byte) : CommandFits.Statement (.exchangeEnd rx) := by
  intro _ code q e
  cases e

theorem CommandFits.unknownCommand (code : Byte) : CommandFits.Statement (.unknownCommand code) := by
  intro _ code q e
  cases e
  exact Nat.zero_le 31

theorem CommandFits.identify : CommandFits.Statement .identify := by
  intro _ code q e
  cases e
  exact Nat.zero_le 31

theorem CommandFits.readStatus (params : List Byte) : CommandFits.Statement (.readStatus params) := by
  intro h code q e
  cases e
  exact of_decide_eq_true h

theorem CommandFits.readEvents (params : List Byte) : CommandFits.Statement (.readEvents params) := by
  intro h code q e
  cases e
  exact of_decide_eq_true h

theorem CommandFits.setEvents (params : List Byte) : CommandFits.Statement (.setEvents params) := by
  intro h code q e
  cases e
  exact of_decide_eq_true h

theorem CommandFits.hubReset : CommandFits.Statement .hubReset := by
  intro _ code q e
  cases e
  exact Nat.zero_le 31

theorem CommandFits.sweepStart : CommandFits.Statement .sweepStart := by
  intro _ code q e
  cases e
  exact Nat.zero_le 31

theorem CommandFits.sweepStop : CommandFits.Statement .sweepStop := by
  intro _ code q e
  cases e
  exact Nat.zero_le 31

theorem CommandFits.chainGate (params : List Byte) : CommandFits.Statement (.chainGate params) := by
  intro h code q e
  cases e
  exact of_decide_eq_true h

theorem CommandFits.enumerate : CommandFits.Statement .enumerate := by
  intro _ code q e
  cases e
  exact Nat.zero_le 31

theorem CommandFits.setProfile (params : List Byte) : CommandFits.Statement (.setProfile params) := by
  intro h code q e
  cases e
  exact of_decide_eq_true h

theorem CommandFits.readSamples (params : List Byte) : CommandFits.Statement (.readSamples params) := by
  intro h code q e
  cases e
  exact of_decide_eq_true h

theorem CommandFits.readPack : CommandFits.Statement .readPack := by
  intro _ code q e
  cases e
  exact Nat.zero_le 31

theorem CommandFits.readTrip : CommandFits.Statement .readTrip := by
  intro _ code q e
  cases e
  exact Nat.zero_le 31

theorem CommandFits.clearTrip : CommandFits.Statement .clearTrip := by
  intro _ code q e
  cases e
  exact Nat.zero_le 31

theorem CommandFits.closeContactors : CommandFits.Statement .closeContactors := by
  intro _ code q e
  cases e
  exact Nat.zero_le 31

theorem CommandFits.openContactors : CommandFits.Statement .openContactors := by
  intro _ code q e
  cases e
  exact Nat.zero_le 31

theorem CommandFits.readCapture (params : List Byte) : CommandFits.Statement (.readCapture params) := by
  intro h code q e
  cases e
  exact of_decide_eq_true h

theorem CommandFits.sleep : CommandFits.Statement .sleep := by
  intro _ code q e
  cases e
  exact Nat.zero_le 31

theorem CommandFits.updateBegin (params : List Byte) : CommandFits.Statement (.updateBegin params) := by
  intro h code q e
  cases e
  exact of_decide_eq_true h

theorem CommandFits.updateWindow (params : List Byte) : CommandFits.Statement (.updateWindow params) := by
  intro h code q e
  cases e
  exact of_decide_eq_true h

theorem CommandFits.updateWrite (params : List Byte) : CommandFits.Statement (.updateWrite params) := by
  intro h code q e
  cases e
  exact of_decide_eq_true h

theorem CommandFits.updateSeal (params : List Byte) : CommandFits.Statement (.updateSeal params) := by
  intro h code q e
  cases e
  exact of_decide_eq_true h

theorem CommandFits.updateActivate : CommandFits.Statement .updateActivate := by
  intro _ code q e
  cases e
  exact Nat.zero_le 31

theorem CommandFits.updateAbort : CommandFits.Statement .updateAbort := by
  intro _ code q e
  cases e
  exact Nat.zero_le 31

theorem CommandFits.lockFloor : CommandFits.Statement .lockFloor := by
  intro _ code q e
  cases e
  exact Nat.zero_le 31

theorem CommandFits.clearTamper : CommandFits.Statement .clearTamper := by
  intro _ code q e
  cases e
  exact Nat.zero_le 31

theorem CommandFits.readTable (params : List Byte) : CommandFits.Statement (.readTable params) := by
  intro h code q e
  cases e
  exact of_decide_eq_true h

theorem CommandFits.powerOnReset : CommandFits.Statement .powerOnReset := by
  intro _ code q e
  cases e

theorem CommandFits.hardReset : CommandFits.Statement .hardReset := by
  intro _ code q e
  cases e

theorem CommandFits.linkWake : CommandFits.Statement .linkWake := by
  intro _ code q e
  cases e

theorem CommandFits.wakeIn : CommandFits.Statement .wakeIn := by
  intro _ code q e
  cases e

theorem CommandFits.tamperIn : CommandFits.Statement .tamperIn := by
  intro _ code q e
  cases e

theorem CommandFits.syncIn : CommandFits.Statement .syncIn := by
  intro _ code q e
  cases e

theorem CommandFits.syncWaitExpiry : CommandFits.Statement .syncWaitExpiry := by
  intro _ code q e
  cases e

theorem CommandFits.slotDue : CommandFits.Statement .slotDue := by
  intro _ code q e
  cases e

theorem CommandFits.quietWindowStart : CommandFits.Statement .quietWindowStart := by
  intro _ code q e
  cases e

theorem CommandFits.deferredSlotsDue : CommandFits.Statement .deferredSlotsDue := by
  intro _ code q e
  cases e

theorem CommandFits.sweepEnd : CommandFits.Statement .sweepEnd := by
  intro _ code q e
  cases e

theorem CommandFits.broadcastSent : CommandFits.Statement .broadcastSent := by
  intro _ code q e
  cases e

theorem CommandFits.answerReceived (rx : List Byte) : CommandFits.Statement (.answerReceived rx) := by
  intro _ code q e
  cases e

theorem CommandFits.responseWindowClose (begun : Bool) : CommandFits.Statement (.responseWindowClose begun) := by
  intro _ code q e
  cases e

theorem CommandFits.answerLengthBad (length : Byte) : CommandFits.Statement (.answerLengthBad length) := by
  intro _ code q e
  cases e

theorem CommandFits.strayFrame (rx : List Byte) : CommandFits.Statement (.strayFrame rx) := by
  intro _ code q e
  cases e

theorem CommandFits.captureStepDue : CommandFits.Statement .captureStepDue := by
  intro _ code q e
  cases e

theorem CommandFits.endedContextLeaves : CommandFits.Statement .endedContextLeaves := by
  intro _ code q e
  cases e

theorem CommandFits.feedbackDebounced (contactor : Contactor) (closed : Bool) : CommandFits.Statement (.feedbackDebounced contactor closed) := by
  intro _ code q e
  cases e

theorem CommandFits.prechargeTimeout : CommandFits.Statement .prechargeTimeout := by
  intro _ code q e
  cases e

theorem CommandFits.deferTimerExpiry : CommandFits.Statement .deferTimerExpiry := by
  intro _ code q e
  cases e

theorem CommandFits.dwellTimerExpiry : CommandFits.Statement .dwellTimerExpiry := by
  intro _ code q e
  cases e

theorem CommandFits.weldTimerExpiry : CommandFits.Statement .weldTimerExpiry := by
  intro _ code q e
  cases e

theorem CommandFits.disagreementTimerExpiry (contactor : Contactor) : CommandFits.Statement (.disagreementTimerExpiry contactor) := by
  intro _ code q e
  cases e

theorem CommandFits.silenceTimerExpiry : CommandFits.Statement .silenceTimerExpiry := by
  intro _ code q e
  cases e

theorem CommandFits.drainComplete : CommandFits.Statement .drainComplete := by
  intro _ code q e
  cases e

theorem CommandFits.drainTimerExpiry : CommandFits.Statement .drainTimerExpiry := by
  intro _ code q e
  cases e

theorem CommandFits.watchTimerExpiry : CommandFits.Statement .watchTimerExpiry := by
  intro _ code q e
  cases e

theorem CommandFits.chainSettleEnd : CommandFits.Statement .chainSettleEnd := by
  intro _ code q e
  cases e

theorem CommandFits.oscillatorStarted : CommandFits.Statement .oscillatorStarted := by
  intro _ code q e
  cases e

theorem CommandFits.verifyEnd : CommandFits.Statement .verifyEnd := by
  intro _ code q e
  cases e

theorem CommandFits.commitEnd (readBack : Bool) : CommandFits.Statement (.commitEnd readBack) := by
  intro _ code q e
  cases e

theorem CommandFits.noticeAdmitted : CommandFits.Statement .noticeAdmitted := by
  intro _ code q e
  cases e

theorem CommandFits.tamperInDeasserted : CommandFits.Statement .tamperInDeasserted := by
  intro _ code q e
  cases e

end Sys2Proof.Laws
end

