-- ==== Sys2Proof/Tests/Slice0.lean ====
section
/-! SUPPORT. Tests: ill-formed command terms that WellFormed refuses, the manual's worked cases, single commands on small states, and for
every statement a witness of the hypotheses of its clauses. -/

namespace Sys2Proof.Tests

set_option Elab.async false

open Sys2Proof.Machine

/-! ### WellFormed refuses -/

/-- 32 parameter bytes and the code make a payload of 33 bytes (10.1). -/
theorem test_params_too_long_refused :
    (Instr.updateWrite (List.replicate 32 0)).wellFormed = false ∧ (Instr.updateWrite (List.replicate 31 0)).wellFormed = true := by
  decide

/-- 0x01 and 0x1B name commands (10.3). -/
theorem test_known_code_refused :
    (Instr.unknownCommand 0x01).wellFormed = false ∧ (Instr.unknownCommand 0x1B).wellFormed = false ∧
      (Instr.unknownCommand 0x00).wellFormed = true ∧ (Instr.unknownCommand 0x1C).wellFormed = true := by decide

/-- An answer whose length field counts more bytes than arrived is no whole frame (10.1). -/
theorem test_answer_not_whole_refused :
    (Instr.answerReceived [1, 0x14, 0, 2, 1, 0, 0]).wellFormed = false ∧ (Instr.answerReceived [1, 0x14, 0]).wellFormed = false ∧
      (Instr.answerReceived [1, 0x14, 0, 1, 1, 0, 0]).wellFormed = true := by decide

/-- A length of 32 is good and 33 is bad (R30). -/
theorem test_length_of_32_refused :
    (Instr.answerLengthBad 32).wellFormed = false ∧ (Instr.answerLengthBad 33).wellFormed = true := by decide

/-- No row of the table has bits, so no word spells a command. -/
theorem test_no_word_spells_a_command : decodeTableWord 8 1 = none ∧ decodeTableWord 0 0 = none := by decide

/-! ### The manual's worked cases -/

/-- R207: the check of "123456789" is 0x29B1. -/
theorem test_check_of_nine_digits : check [0x31, 0x32, 0x33, 0x34, 0x35, 0x36, 0x37, 0x38, 0x39] = 0x29B1 := by decide +kernel

/-- Section 3.3, worked cases of the cell correction. -/
theorem test_cell_correction :
    correctCell 37012 (-1250) 23 = .value 36989 false ∧ correctCell 65500 8191 511 = .value 65535 true ∧
      correctCell 300 0 (-512) = .value 0 true ∧ correctCell 100 5000 0 = .value 101 false ∧
      correctCell 100 (-5000) 0 = .value 100 false := by decide +kernel

/-- The curve of section 3.4's worked cases. -/
def curve : Image :=
  { Image.blank with
    thermal := #v[⟨300, 1250⟩, ⟨600, 950⟩, ⟨1000, 600⟩, ⟨1500, 400⟩, ⟨2000, 250⟩, ⟨2500, 100⟩, ⟨3000, BitVec.ofInt 16 (-50)⟩,
      ⟨3400, BitVec.ofInt 16 (-200)⟩, ⟨3800, BitVec.ofInt 16 (-400)⟩] }

/-- Section 3.4, worked cases of the interpolation. -/
theorem test_interpolation :
    correctAux curve 1234 (-5) = .value 501 false ∧ correctAux curve 1500 0 = .value 400 false ∧
      correctAux curve 3401 0 = .value (-201) false ∧ correctAux curve 250 30 = .value 1250 true ∧
      correctAux curve 250 (-30) = .value 1220 true ∧ correctAux curve 3790 (-100) = .value (-400) true ∧
      correctAux curve 4095 7 = .fault := by decide +kernel

/-- Section 3.6, the warn column of the worked sequence: over 42000, under 30000, hysteresis 150. -/
theorem test_warn_sequence :
    warnAfter .clear 41900 42000 30000 150 = .clear ∧ warnAfter .clear 42100 42000 30000 150 = .high ∧
      warnAfter .high 41900 42000 30000 150 = .high ∧ warnAfter .high 41850 42000 30000 150 = .clear ∧
      warnAfter .high 41800 42000 30000 150 = .clear := by decide

/-- Section 1 of the scope: the range 21 to 3 names seven positions. -/
theorem test_wrapping_range : watchRange 21 3 = [21, 22, 23, 24, 1, 2, 3] := by decide

/-! ### Small states -/

/-- A part at rest: reset, with the CHAIN_WAKE of the reset sent. -/
def rest : State := { State.reset with chain.inFlight := none }

/-- A live image with a cell monitor at position 1, the pack sense unit at 2, five slots and capture programs. -/
def image : Image :=
  { Image.blank with
    positions := put (put Image.blank.positions 0 1) 1 2
    cells := put Image.blank.cells 0 { flags := 0x80, gain := 0, offset := 0 }
    sweepHeader := { period := 100, modes := 2, quietStart := 40, quietEnd := 47, sumTolerance := 25, slotCount := 5 }
    slots :=
      put (put (put (put (put Image.blank.slots 0 ⟨0, 0, 1, 0, 0, 0, 0, 0⟩) 1 ⟨1, 1, 1, 0, 0, 0, 0, 0⟩) 2 ⟨2, 2, 1, 1, 1, 1, 1, 1⟩)
        3 ⟨42, 0, 2, 0, 0, 0, 0, 0⟩) 4 ⟨60, 3, 1, 1, 1, 0, 0, 0⟩
    contactor :=
      { Image.blank.contactor with precharge := ⟨8, 5⟩, close := ⟨4, 4⟩, opening := ⟨4, 5⟩, trip := ⟨6, 3⟩ }
    watch := { Image.blank.watch with interval := 1 }
    generation := 1 }

/-- A numbered chain under that image. -/
def up : State :=
  { rest with
    tables := { live := image, liveSlot := some .a, slotA := some image, slotB := none }
    chain.state := .numbered
    chain.enumRecord := { count := 2, kinds := [1, 2], faulty := false } }

/-- A sweep in progress. -/
def sweep : State :=
  { up with
    sweep.engine := .running
    sweep.number := 7
    sweep.record := some { number := 7, generation := 1, profile := 0, flags := SweepFlags.none } }

/-- The contactors CLOSED. -/
def shut : State :=
  { up with sequencer.state := .closed, sequencer.drive := ⟨true, true, false⟩, sequencer.feedback := ⟨true, true, false⟩ }

/-- A stage of the tables of a set. -/
def stageOf (set : Byte) : Stage := { image := { image with generation := 2 }, set := set }

/-- An update in STAGING with CELL_MAP and FLOOR, its window over entries 0 to 1 of CELL_MAP. -/
def staging : State :=
  { up with
    update.state := .staging
    update.stage := some (stageOf 0x0A)
    update.window := some { table := .cellMap, first := 0, last := 1, cursor := 0 } }

/-- A read of the sweep, of a kind and with the answer it expects, in flight to a position. -/
def reading (p : Nat) (kind expect : Byte) : State :=
  { sweep with
    chain.inFlight := some
      { requester := .sweep, frame := { address := byteOf p, kind := kind, flags := 1, payload := [] }, target := some p
        expect := some expect, window := 50, discard := false, context := none } }

/-- The read in flight of a sweep that has ended (R19). -/
def discarded (s : State) : State :=
  { s with sweep.engine := .stopped, chain.inFlight := s.chain.inFlight.map fun t => { t with discard := true } }

/-- A forwarded frame in flight to position 1. -/
def forwarded (discard : Bool) : State :=
  { up with
    link.reserved := 1
    chain.inFlight := some
      { requester := .forward, frame := { address := 1, kind := 1, flags := 0, payload := [] }, target := some 1, expect := none
        window := 50, discard := discard, context := none } }

/-- A broadcast of a requester in flight. -/
def sending (q : Requester) (kind : Byte) (s : State) : State :=
  { s with
    chain.inFlight := some
      { requester := q, frame := { address := 31, kind := kind, flags := 0, payload := [] }, target := none, expect := none, window := 50
        discard := false, context := none } }

/-- A context on the capture stack. -/
def context : Context :=
  { program := .precharge, id := 3, count := 8, interval := 5, nextStep := 7, ticksRemaining := 0, step := .none, waiting := false
    started := 0, late := false, underLoad := false, ended := false, flightStep := 0, flightOffset := 0, leaving := false }

/-- The bytes of a frame with its check. -/
def frameBytes (address kind : Byte) (payload : List Byte) : List Byte :=
  Frame.bytes { address := address, kind := kind, flags := 0, payload := payload }

/-- The conditions of `Accepting`, to be decided. -/
def accepts (s : State) : Bool := portPowered s && !waking s && !exchangeDark s && freeCount s != 0

/-- States that meet them accept frames. -/
theorem accepting_of {l : List State} (h : l.all accepts = true) : ∀ s ∈ l, Accepting s := by
  intro s hs
  have h := List.all_eq_true.mp h s hs
  simp only [accepts, Bool.and_eq_true, Bool.not_eq_true', bne_iff_ne, ne_eq] at h
  exact ⟨h.1.1.1, h.1.1.2, h.1.2, h.2⟩

/-- What a transaction in flight is. -/
structure Flight where
  requester : Requester
  target : Option Nat
  kind : Byte
  expect : Option Byte
  discard : Bool
  deriving DecidableEq

/-- The transaction in flight. -/
def flight (s : State) : Option Flight := s.chain.inFlight.map fun t => ⟨t.requester, t.target, t.frame.kind, t.expect, t.discard⟩

/-- The next state of an outcome, and the state itself where there is none. -/
def after (o : Host.Outcome State Fault Refusal) (s : State) : State :=
  match o with
  | .next t => t
  | _ => s

/-- A frame's address, kind and payload when the bytes are a whole frame with a right check. -/
def judged (rx : List Byte) : Option (Byte × Byte × Nat) := (goodFrame? rx).map fun f => (f.address, f.kind, f.payload.length)

/-- A free choice is one of two. -/
theorem choice_cases (s : State) : Config.choice s.choices = true ∨ Config.choice s.choices = false := by
  cases Config.choice s.choices <;> simp

/-! ### Worked cases on states -/

/-- Section 2.5, decisions 1 to 3 of the worked sequence, with SWEEP and CAPTURE HIGH. -/
theorem test_sharing_the_chain :
    let s : State :=
      { up with
        link.forward := [⟨1, 1, 0, []⟩]
        sweep.reads := [⟨1, .cells⟩]
        capture.stack := [{ context with step := .due }]
        arbiter := { State.unstarted.arbiter with highPointer := some .sweep, lowPointer := some .forward } }
    let second : State := recordGrant .capture { s with capture.stack := [] }
    let third : State := recordGrant .sweep second
    chooseGrant s = some .capture ∧ chooseGrant { second with capture.stack := [context] } = some .sweep ∧
      third.arbiter.lowTurnDue = true ∧ chooseGrant third = some .forward ∧ (recordGrant .forward third).arbiter.highCount = 0 := by
  decide +kernel

/-- Section 3.9: twelve monitors whose 192 cells read 36989 make 35509, and 35480 differs by 29. -/
theorem test_sum_check_arithmetic : ((192 * 36989 : Int) + 100) / 200 = 35509 ∧ ((35509 : Int) - 35480).natAbs = 29 := by decide

/-- Chapter 8, step 3 of the worked sequence: a MERGE of ov_warn and v_persist leaves the other fields. -/
theorem test_merge_two_fields :
    let new := [0xFF, 0xFF, 0xA3, 0x48, 0, 0, 0, 0, 0, 0, 2, 0, 0, 0, 0, 0, 0, 0, 0, 0, 0]
    entryFields (writeEntry { merge := true, select := 0x0022 } .limits 18 new image) .limits 18 =
      [43000, 41800, 30000, 25000, 200, 2, 600, 550, 65336, 65236, 20, 3] := by decide +kernel

/-- Chapter 10, worked example: run 44 gone from the stack with steps 6 and 7 held, LATE, program CLOSE. -/
theorem test_read_capture_end_of_run :
    let r (k : Nat) : CaptureRecord := ⟨44, .close, k, 10 * k, 0, 0, 0, true, false, false⟩
    let s : State := { rest with capture.buffer := [r 0, r 1, r 2, r 3, r 4, r 5, r 6, r 7] }
    (cmdReadCapture [0, 44, 6] s).1 =
        .done [0, 44, 0x16, 0x46, 0, 60, 0, 0, 0, 0, 0, 0, 0, 0, 70, 0, 0, 0, 0, 0, 0, 0] false ∧
      (cmdReadCapture [0, 44, 8] s).1 = .done [0, 44, 2, 0] false := by decide +kernel

/-- R209: a reply's records are consecutive, so with steps 3 and 5 held step 3 goes out alone, and MORE is set (R136). -/
theorem test_read_capture_gap :
    let r (k : Nat) : CaptureRecord := ⟨44, .close, k, 10 * k, 0, 0, 0, true, false, false⟩
    let s : State := { rest with capture.buffer := [r 3, r 5] }
    (cmdReadCapture [0, 44, 0] s).1 = .done [0, 44, 0x16, 0x23, 0, 30, 0, 0, 0, 0, 0, 0, 0] true ∧
      (cmdReadCapture [0, 44, 4] s).1 = .done [0, 44, 0x16, 0x25, 0, 50, 0, 0, 0, 0, 0, 0, 0] false := by decide +kernel

/-! ### Repaired behaviour: single steps the manual fixes -/

/-- R2: a tick that begins at the instant of a swap has the new length of 20, one that began before completes. -/
theorem test_tick_length_at_swap :
    let long : Image := { image with sweepHeader := { image.sweepHeader with modes := 3 }, generation := 2 }
    let s : State :=
      { sweep with
        update := { up.update with state := .armed, stage := some { image := long, set := 0x20 }, commit := some long, target := some .b } }
    (swapImage s).sweep.tickLeft = 20 ∧ (swapImage { s with sweep.tickLeft := 4 }).sweep.tickLeft = 4 := by decide +kernel

/-- R13: a slot at QE + 13 is not passed before the slots deferred to QE + 1 have acted. -/
theorem test_slot_waits_for_deferred_slots :
    let s : State := { sweep with sweep.slotsPassed := 4, sweep.counter := 60 }
    slotReached { s with sweep.quiet := .inside } = false ∧ slotReached { s with sweep.quiet := .after } = true := by decide +kernel

/-- The close pending in a sweep whose next boundary swaps a quiet window on (R21), and one whose chain has become MISMATCH (R22). -/
def closePendingSweep (modes : Byte) : State :=
  { sweep with
    tables.live.sweepHeader.modes := modes
    sequencer.closePending := true
    update :=
      { up.update with
        state := .armed, stage := some { image := { image with generation := 2 }, set := 0x20 }
        commit := some { image with generation := 2 }, target := some .b } }

/-- R21: a close granted with quiet enable off is served at the next boundary, which swaps quiet on. R22, R103: a boundary that enters
STOPPED offers a switch point, where the close is withdrawn. -/
theorem test_pending_close_at_the_boundary :
    (beginSweep false (closePendingSweep 0)).sequencer.state = .precharging ∧
      (beginSweep false (closePendingSweep 2)).sequencer.closePending = true ∧
      (beginSweep false { closePendingSweep 2 with chain.state := .mismatch }).sequencer.lastClose.map (·.result) = some .withdrawn := by
  decide +kernel

/-- R106: CLOSING entered with a POS_FB that already reads closed goes on to CLOSED at once. -/
theorem test_feedback_already_closed_at_closing :
    let s : State :=
      { up with
        sequencer :=
          { up.sequencer with state := .precharging, drive := ⟨false, true, true⟩, feedback := ⟨true, true, true⟩, qualifying := 1 }
        evaluator.pack := { up.evaluator.pack with status := .fresh, vPack := 400, vLink := 399 } }
    (judgeRecord s).sequencer.state = .closed ∧
      (judgeRecord { s with sequencer.feedback := ⟨false, true, true⟩ }).sequencer.state = .closing := by decide +kernel

/-- R114: two disagreement timers that expire at one instant raise a trip each; of two that do not, the first alone. -/
theorem test_simultaneous_disagreements :
    let s (n : Nat) : State := { shut with now := 5, sequencer.disagreePos := some 5, sequencer.disagreeNeg := some n }
    let later (s : State) : Option Nat :=
      (after (exec (.disagreementTimerExpiry .pos) s) s).protection.record.map (·.laterCount)
    later (s 5) = some 1 ∧ later (s 6) = some 0 := by decide +kernel

/-- R83: another block's HARD trip and the expiry of a Sequencer timer at one instant make one later trip, whichever is first. -/
theorem test_trips_of_one_instant_are_both_counted :
    let both (row : Instr) (s : State) : List (Option Nat) :=
      let outside (v : State) : State := takeOutsideTrip (plainTrip .limitProfile v) v
      let expiry (v : State) : State := after (exec row v) v
      [expiry (outside s), outside (expiry s)].map fun v => v.protection.record.map (·.laterCount)
    let closing : State :=
      { shut with sequencer.state := .precharging, sequencer.drive := ⟨false, true, true⟩, sequencer.feedback := ⟨false, true, true⟩ }
    both .silenceTimerExpiry { shut with sequencer.silenceTimer := some 0 } = [some 1, some 1] ∧
      both .prechargeTimeout { closing with sequencer.prechargeTimer := some 0 } = [some 1, some 1] ∧
      both (.disagreementTimerExpiry .pos) { shut with sequencer.feedback := ⟨false, true, false⟩, sequencer.disagreePos := some 0 } =
        [some 1, some 1] := by decide +kernel

/-- The model's choice (log 42): a push before CAPTURE_STEP_DUE keeps the covered run's step, which falls due once it is uncovered. -/
theorem test_push_at_the_instant_of_a_step :
    let s : State := { up with capture.stack := [context] }
    let pushed : State := captureEvent .close false s
    stepDueNow s = true ∧ pushed.capture.stack.tail = [context] ∧ stepDueNow pushed = false ∧
      stepDueNow { pushed with capture.stack := pushed.capture.stack.tail } = true := by decide +kernel

/-- R115: a frame accepted at the instant of the silence expiry restarts the timer, and no trip is raised; the expiry taken first trips. -/
theorem test_frame_before_silence_expiry :
    let s : State := { shut with now := 5, sequencer.silenceTimer := some 5 }
    let framed : State := after (exec .readTrip s) s
    (after (exec .silenceTimerExpiry framed) framed).protection.record = none ∧
      (after (exec .silenceTimerExpiry s) s).protection.state = .safeOpen := by decide +kernel

/-! ### Witnesses: the step and the link -/

theorem witness_StepTakesTheFrontCommand : ({ rest with pending := [.identify, .readTrip] } : State).pending = [.identify, .readTrip] := rfl

/-- Events at the instant at which each becomes due and, of the wait and the sweep, one tick before. -/
theorem test_due_events :
    let timers (t : Option Nat) : State :=
      { up with now := 7, sequencer.prechargeTimer := t, sequencer.deferTimer := t, sequencer.silenceTimer := t }
    let passed (n : Nat) : State := { sweep with sweep.slotsPassed := 5, sweep.quiet := .after, sweep.counter := n }
    let wait (n : Nat) : State := { up with sweep.engine := .waitingSync, sweep.waitCount := n }
    let slot (k n : Nat) : State := { sweep with sweep.slotsPassed := k, sweep.counter := n }
    (dueEvent (timers (some 7)) = some .prechargeTimeout ∧ dueEvent (timers (some 8)) = none) ∧
      (dueEvent (passed 100) = some .sweepEnd ∧ dueEvent (passed 99) = none) ∧
      (dueEvent (wait 25) = some .syncWaitExpiry ∧ dueEvent (wait 24) = none) ∧
      (dueEvent (slot 2 2) = some .slotDue ∧ dueEvent (slot 2 1) = none ∧ dueEvent (slot 3 40) = some .quietWindowStart) ∧
      dueEvent { up with notice.owedUrgent := true, power.power := .drain } = some .noticeAdmitted ∧
      dueEvent { up with power.power := .drain } = some .drainComplete := by
  decide +kernel

/-- A timer whose instant has come with nothing before it due; a tick of the sleep, of the drain's end and of ACTIVE with and without the
end of a tick. -/
theorem witness_IdleStepIsDueEventOrTime :
    up.pending = [] ∧ dueEvent { up with power.settleTimer := some 0 } = some .chainSettleEnd ∧ dueEvent up = none ∧
      up.power.power = .active ∧ 1 < up.sweep.tickLeft ∧ dueEvent { up with sweep.tickLeft := 1 } = none ∧
      dueEvent { up with power.power := .deepSleep } = none ∧ dueEvent { up with power.power := .chainSleep } = none ∧
      up.notice.owedUrgent = false ∧ up.notice.owedRoutine = false ∧ up.power.drainTimer = none ∧ up.power.watchTimer = none ∧
      0 ≤ up.now := by
  decide +kernel

/-- Addresses 1 and 24 are the ends of the range of a chain frame, 0 and 25 lie outside it. -/
theorem witness_ExchangesBeginAndEnd :
    (up.link.exchange = none ∧ portPowered up = true ∧ up.link.answerSlot = none ∧ up.link.upstream = [] ∧
        ({ up with link.answerSlot := some emptyFrame } : State).link.answerSlot = some emptyFrame ∧
        ({ up with link.upstream := [emptyFrame] } : State).link.upstream = emptyFrame :: [] ∧
        portPowered { up with power.power := .deepSleep } = false ∧
        ({ up with link.exchange := some .dark } : State).link.exchange = some .dark ∧
        ({ up with link.exchange := some (.carrying emptyFrame) } : State).link.exchange = some (.carrying emptyFrame)) ∧
      goodFrame? [] = none ∧ goodFrame? (frameBytes 0 0 []) = some ⟨0, 0, 0, []⟩ ∧ goodFrame? (frameBytes 1 1 []) = some ⟨1, 1, 0, []⟩ ∧
      goodFrame? (frameBytes 24 2 [5]) = some ⟨24, 2, 0, [5]⟩ ∧ goodFrame? (frameBytes 0 1 []) = some ⟨0, 1, 0, []⟩ ∧
      goodFrame? (frameBytes 25 2 []) = some ⟨25, 2, 0, []⟩ ∧ goodFrame? (frameBytes 0 3 []) = some ⟨0, 3, 0, []⟩ ∧
      goodFrame? (frameBytes 0 3 [1]) = some ⟨0, 3, 0, [1]⟩ ∧ waking up = false ∧ up.chain.state = .numbered ∧
      enteringSleep up = false ∧ up.protection.state ≠ .safeOpen ∧ up.link.forward.length < 4 ∧ freeCount up ≠ 0 ∧
      rest.chain.state ≠ .numbered ∧ waking { up with power.power := .wakingLit } = true ∧
      enteringSleep { up with power.power := .drain } = true ∧
      ¬ ({ up with link.forward := List.replicate 4 emptyFrame } : State).link.forward.length < 4 ∧
      freeCount { up with link.reserved := 16 } = 0 := by decide +kernel

theorem witness_CommandRowsAreTheirFrames :
    let s : State := { up with link.exchange := some (.carrying emptyFrame) }
    ((Instr.readStatus [6]).wellFormed = true ∧ commandFrame (.readStatus [6]) = some (0x02, [6]) ∧
        (Instr.unknownCommand 0x1C).wellFormed = true ∧ commandFrame (.unknownCommand 0x1C) = some (0x1C, []) ∧
        s.link.exchange = some (.carrying emptyFrame) ∧ portPowered s = true) ∧
      (let withParameters : List Byte := [0x02, 0x03, 0x04, 0x08, 0x0A, 0x0B, 0x11, 0x13, 0x14, 0x15, 0x16, 0x1B]
       Instr.wellFormed .identify = true ∧ commandFrame .identify = some (0x01, []) ∧ (0x01 : Byte) ∉ withParameters ∧
        (0x1C : Byte) ∉ withParameters ∧ (0x02 : Byte) ∈ withParameters ∧ (List.replicate 31 (7 : Byte)).length ≤ 31) ∧
      portPowered { up with power.power := .deepSleep } = false ∧ exchangeDark { up with link.exchange := some .dark } = true ∧
      portPowered { up with power.power := .wakingLit } = true ∧ waking { up with power.power := .wakingLit } = true ∧
      exchangeDark up = false ∧ waking up = false ∧ portPowered up = true ∧ freeCount { up with link.reserved := 16 } = 0 := by
  decide +kernel

/-- A trip record. -/
def tripped : TripRecord :=
  { first := plainTrip .weld up, power := .active, firstResponse := .hard, laterCount := 0, latestCause := none, level := .hard
    resetSince := false }

/-- `up` accepts, with one entry left free as well, and with a trip record. -/
theorem witness_IdentifyAndReadTripReply :
    (∀ s ∈ [up, { up with link.reserved := 15 }, { up with protection.record := some tripped }], Accepting s) ∧
      up.protection.record = none :=
  ⟨accepting_of (by decide +kernel), rfl⟩

theorem witness_ReadStatusReplies : (∀ s ∈ [up, staging, shut], Accepting s) ∧ 6 < (7 : Byte).toNat :=
  ⟨accepting_of (by decide +kernel), by decide⟩

theorem witness_ReadEventsAndSetEvents :
    (∀ s ∈ [up, { up with notice.pending := 0x0010 }], Accepting s) ∧ 1 < (2 : Byte).toNat ∧ ([0, 1, 2] : List Byte).length < 4 :=
  ⟨accepting_of (by decide +kernel), by decide⟩

/-- A NOTICE of URGENT may enter with one entry free, one of ROUTINE alone in the drain phase, none when its own is queued; with both
owed ROUTINE may still enter after URGENT. The offer of a mirror meets one of the two answers of its free choice. -/
theorem witness_NoticesAndMirrorsEnter :
    let both : State :=
      { up with notice.pending := 0x41, notice.enable := 0x7FFF, notice.map := 0x3F, notice.owedUrgent := true, notice.owedRoutine := true }
    (noticeAdmissible true { up with notice.pending := 1, notice.owedUrgent := true, link.reserved := 15 } = true ∧
        noticeAdmissible true { up with notice.pending := 1, notice.owedUrgent := true, link.reserved := 16 } = false ∧
        noticeAdmissible false { up with notice.pending := 0x40, notice.owedRoutine := true, power.power := .drain } = true ∧
        noticeAdmissible true { up with notice.pending := 0x40, notice.owedRoutine := true, power.power := .drain } = false ∧
        noticeAdmissible false { up with notice.owedRoutine := true, link.upstream := [⟨0, 0x62, 0, [1, 0, 0]⟩] } = false ∧
        (noticeAdmissible true up = false ∧ noticeAdmissible false up = false) ∧
        noticeAdmissible true both = true ∧ noticeAdmissible false (after (exec .noticeAdmitted both) both) = true ∧
        (live up).sweepHeader.modes.getLsbD 3 = false ∧
        (live { up with tables.live.sweepHeader.modes := 8 }).sweepHeader.modes.getLsbD 3 = true) ∧
      (Config.choice both.choices = true ∨ Config.choice both.choices = false) := by
  exact ⟨by decide +kernel, choice_cases _⟩

theorem witness_HubResetValues :
    (∀ s ∈ [up, shut, { up with update.tamperReading := true }], Accepting s) ∧ openOrFaulted up = true ∧ openOrFaulted shut = false ∧
      openOrFaulted { up with sequencer.state := .faulted } = true ∧ up.update.tamperReading = false ∧
      openOrFaulted { up with update.tamperReading := true } = true :=
  ⟨accepting_of (by decide +kernel), by decide +kernel⟩

/-! ### Witnesses: sweeps, chain, samples -/

theorem witness_RefusalsOnTheStateAlone :
    (∀ s ∈ [{ up with protection.state := .safeOpen }, { up with power.power := .drain }], Accepting s) ∧
      up.protection.state ≠ .safeOpen ∧ up.update.state ≠ .locked ∧ (0x1C : Byte) ≠ 0x15 :=
  ⟨accepting_of (by decide +kernel), by decide +kernel⟩

theorem witness_SweepStartAndStop :
    (∀ s ∈ [up, rest, sweep, { sweep with sweep.engine := .waitingSync }], Accepting s) ∧ up.protection.state ≠ .safeOpen ∧
      up.power.power ≠ .drain ∧ rest.chain.state ≠ .numbered ∧ up.chain.state = .numbered ∧
      slotCount (live { rest with chain.state := .numbered }) = 0 ∧ slotCount (live up) ≠ 0 ∧ up.sweep.engine = .stopped ∧
      lockedMode (live up) = false ∧ lockedMode (live { up with tables.live.sweepHeader.modes := 4 }) = true ∧
      sweep.sweep.engine = .running ∧ ({ sweep with sweep.engine := .stopping } : State).sweep.engine = .stopping :=
  ⟨accepting_of (by decide +kernel), by decide +kernel⟩

theorem witness_ChainGateEnumerateAndSetProfile :
    (∀ s ∈ [up, shut, sweep], Accepting s) ∧ up.protection.state ≠ .safeOpen ∧ up.power.power ≠ .drain ∧
      (up.sweep.engine = .stopped ∧ up.sequencer.state = .opened ∧ up.capture.stack = [] ∧ up.chain.state ≠ .numbering) ∧
      shut.sequencer.state ≠ .opened ∧ sweep.sweep.engine ≠ .stopped ∧ (3 : Fin 4) ≠ sweep.evaluator.profile ∧
      (0 : Fin 4) = sweep.evaluator.profile ∧ 3 < (4 : Byte).toNat :=
  ⟨accepting_of (by decide +kernel), by decide +kernel⟩

/-- Index 479 is in range and 480 is not; counts 1 and 8 are in range and 0 and 9 are not. -/
theorem witness_ReadSamplesReplies :
    (∀ s ∈ [up], Accepting s) ∧ 1 * 256 + (0xDF : Byte).toNat ≤ 479 ∧ ¬ 1 * 256 + (0xE0 : Byte).toNat ≤ 479 ∧ 1 ≤ (1 : Byte).toNat ∧
      (8 : Byte).toNat ≤ 8 ∧ ¬ 1 ≤ (0 : Byte).toNat ∧ ¬ (9 : Byte).toNat ≤ 8 ∧ 1 < (2 : Byte).toNat ∧
      ([0, 1, 2] : List Byte).length < 4 :=
  ⟨accepting_of (by decide +kernel), by decide⟩

theorem witness_ReadPackReplies :
    (∀ s ∈ [up], Accepting s) ∧ exec .powerOnReset up = .next (resetEnd (coldState up)) ∧
      exec .hardReset up = .next (resetEnd (hardState up)) ∧
      up.evaluator.pack =
        { vPack := 0, vLink := 0, iPack := 0, trigger := 0, fromCapture := false, stamp := .absent, status := .none } ∧
      (∀ rx k, (Instr.identify = .answerReceived rx) → up.chain.inFlight = some k → k.requester ≠ .capture ∧
        (k.requester = .sweep → k.frame.kind = 0x09 ∨ k.frame.kind = 0x0A)) :=
  ⟨accepting_of (by decide +kernel), rfl, rfl, rfl, fun _ _ h => nomatch h⟩

/-- The four conditions hold; and each of them fails in a state of its own. -/
theorem witness_ClearTripTestsFourConditions :
    let s : State := { up with protection := { state := .safeOpen, record := some tripped } }
    (∀ t ∈ [s, up], Accepting t) ∧ firstPersisting s = none ∧ firstLost s = none ∧ openOrFaulted s = true ∧
      s.sequencer.feedback = allOpen ∧ (evaluated (live s) 0 = true ∧ (effective (live s) 0 0).persist = 3) ∧
      firstPersisting { s with evaluator.channels := put s.evaluator.channels 0 { Channel.empty with counter := 3 } } = some 0 ∧
      firstLost { s with chain.lost := put s.chain.lost 23 true } = some 24 ∧
      openOrFaulted { s with sequencer.state := .weldCheck } = false ∧
      ({ s with sequencer.feedback := ⟨false, false, true⟩ } : State).sequencer.feedback ≠ allOpen ∧
      up.protection.state = .normal ∧ up.protection.record = none :=
  ⟨accepting_of (by decide +kernel), by decide +kernel⟩

/-- The slot at offset 0 acts at once; a table whose first offset is 1 waits; the wait of a quarter of the period ends at 25. -/
theorem witness_SweepBeginsAndTheWaitEnds :
    let u := atBoundary up
    let w : State := { up with sweep.engine := .waitingSync }
    u.chain.state = .numbered ∧ slotCount (live u) ≠ 0 ∧ (sweepSlot (live u) 0).offset = 0 ∧
      (let v := atBoundary { up with tables.live.slots := put image.slots 0 ⟨1, 1, 1, 0, 0, 0, 0, 0⟩ }
       v.chain.state = .numbered ∧ slotCount (live v) ≠ 0 ∧ (sweepSlot (live v) 0).offset ≠ 0) ∧
      (atBoundary rest).chain.state ≠ .numbered ∧ (beginSweep false w).sweep.engine = .running ∧
      (beginSweep false { w with chain.state := .mismatch }).sweep.engine ≠ .running ∧
      (beginSweep true w).sweep.engine = .running ∧ (beginSweep true { w with chain.state := .mismatch }).sweep.engine ≠ .running ∧
      ({ w with sweep.waitCount := 24 } : State).sweep.waitCount < (live w).sweepHeader.period.toNat / 4 ∧
      (live w).sweepHeader.period.toNat / 4 ≤ ({ w with sweep.waitCount := 25 } : State).sweep.waitCount ∧
      up.sweep.engine ≠ .waitingSync := by decide +kernel

/-- Slot 1 CONVERT, 2 SENSE, 3 READ_CELLS, 4 CONVERT in the quiet window with divider 2, 5 READ_AUX behind it, each at its offset. -/
theorem witness_SlotsActAtTheirOffsets :
    let at' (i c : Nat) (n : Word) : State := { sweep with sweep.slotsPassed := i, sweep.counter := c, sweep.number := n }
    let past : State := { at' 4 60 7 with sweep.quiet := .after }
    slotReached (at' 0 0 7) = true ∧ slotReached (at' 1 1 7) = true ∧ slotReached (at' 1 0 7) = false ∧ slotReached (at' 2 2 7) = true ∧
      slotReached (at' 3 42 7) = true ∧ slotReached past = true ∧ slotReached (at' 4 60 7) = false ∧ slotReached (at' 5 99 7) = false ∧
      (7 : Word).toNat % (sweepSlot image 3).divider.toNat ≠ 0 ∧ (8 : Word).toNat % (sweepSlot image 3).divider.toNat = 0 ∧
      (sweepSlot image 0).kind = 0 ∧ inQuietWindow image 0 = false ∧ (sweepSlot image 1).kind = 1 ∧ inQuietWindow image 1 = false ∧
      (sweepSlot image 2).kind = 2 ∧ inQuietWindow image 42 = true ∧ (sweepSlot image 4).kind = 3 ∧
      (at' 0 0 7).sweep.reads = [] ∧ ({ at' 0 0 7 with sweep.reads := [⟨1, .cells⟩] } : State).sweep.reads ≠ [] := by decide +kernel

/-- QS is 40 and QE 47. -/
theorem witness_TheQuietWindow :
    let s (c : Nat) (q : QuietPhase) : State := { sweep with sweep.counter := c, sweep.quiet := q }
    quietReached (s 40 .before) = true ∧ quietReached (s 39 .before) = false ∧ (s 40 .before).sweep.triggers = [] ∧
      ({ s 40 .before with sweep.triggers := [⟨0, false⟩] } : State).sweep.triggers ≠ [] ∧ quietOver (s 48 .inside) = true ∧
      quietOver (s 47 .inside) = false := by decide +kernel

theorem witness_SweepEndsAtThePeriod :
    let s : State := { sweep with sweep.counter := 100 }
    sweepOver s = true ∧ sweepOver { s with sweep.counter := 99 } = false ∧ s.sweep.record.isSome = true ∧ s.sweep.engine = .running ∧
      lockedMode (live s) = false ∧ lockedMode (live { s with tables.live.sweepHeader.modes := 4 }) = true ∧
      sweepOver { s with sweep.engine := .stopping } = true := by decide +kernel

/-- An ARMED update of every table; a boundary with quiet enable on, off, and with no sweep to begin; and a close that waits. -/
theorem witness_PendingChangesTakeEffect :
    let s : State :=
      { up with
        update.state := .armed, update.stage := some (stageOf 0xFF), update.commit := some { image with generation := 2 }
        update.target := some .b }
    let t : State := { closePendingSweep 2 with update.stage := some (stageOf 0x40) }
    (s.update.state = .armed ∧ s.update.stage = some (stageOf 0xFF) ∧ s.update.commit = some { image with generation := 2 }) ∧
      holds 0xFF .chainMap = true ∧ holds 0xFE .chainMap = false ∧ up.update.state ≠ .armed ∧
      (quietEnabled (live up) = true ∧ quietEnabled (live (applyPending up)) = true ∧ (applyPending up).chain.state = .numbered ∧
        slotCount (live (applyPending up)) ≠ 0) ∧
      quietEnabled (live rest) = false ∧ s.sequencer.closePending = false ∧ t.sequencer.closePending = true ∧
      t.update.state = .armed ∧ (t.update.stage.map fun g => touchesSafety g.set) = some true ∧
      (Config.choice t.choices = true ∨ Config.choice t.choices = false) := by
  refine ⟨⟨rfl, rfl, rfl⟩, ?_, ?_, ?_, ?_, ?_, ?_, ?_, ?_, ?_, choice_cases _⟩ <;> decide +kernel

/-- A CELLS answer and one a byte too long, an answer of another address, and bytes that are a frame with a wrong check. -/
theorem witness_ForwardedOutcomeGoesUp :
    flight (forwarded false) = some ⟨.forward, some 1, 1, none, false⟩ ∧ flight (forwarded true) = some ⟨.forward, some 1, 1, none, true⟩ ∧
      goodFrame? (frameBytes 1 0x1F [5]) = some ⟨1, 0x1F, 0, [5]⟩ ∧ goodFrame? (frameBytes 1 0x20 [5]) = some ⟨1, 0x20, 0, [5]⟩ ∧
      goodFrame? (frameBytes 2 1 []) = some ⟨2, 1, 0, []⟩ ∧ (wholeFrame? [1, 1, 0, 0, 9, 9]).isSome = true ∧
      32 < (33 : Byte).toNat := by decide +kernel

/-- A broadcast of each requester; a cycle's frames with and without a kept source; the entry to DEEP_SLEEP; and an addressed read. -/
theorem witness_BroadcastsEndAndStraysDoNothing :
    let cycle (kind : Byte) (kept : Bool) : State :=
      sending .watch kind { up with power.power := .deepSleep, power.cycle := true, power.wakeKept := kept }
    flight (sending .enumerate 0x0C up) = some ⟨.enumerate, none, 0x0C, none, false⟩ ∧
      flight (sending .sweep 8 up) = some ⟨.sweep, none, 8, none, false⟩ ∧
      ([0x08, 0x0D, 0x0E].map fun k => flight (cycle k false)) = [0x08, 0x0D, 0x0E].map (fun k => some ⟨.watch, none, k, none, false⟩) ∧
      ((cycle 8 true).power.cycle = true ∧ (cycle 8 true).power.wakeKept = true ∧ (cycle 8 false).power.wakeKept = false) ∧
      flight (sending .watch 0x0D { up with power.power := .chainSleep }) = some ⟨.watch, none, 0x0D, none, false⟩ ∧
      waking { up with power.power := .wakingLit } = true ∧ up.power.cycle = false ∧ up.chain.inFlight = none ∧
      flight (reading 24 9 0x11) = some ⟨.sweep, some 24, 9, some 0x11, false⟩ := by decide +kernel

/-- An ASSIGN in flight to position `k`, the positions below it reported. -/
def assigning (k : Nat) : State :=
  { up with
    chain.state := .numbering
    chain.enumNext := k
    chain.enumKinds := List.replicate (k - 1) 1
    chain.inFlight := some
      { requester := .enumerate, frame := { address := byteOf k, kind := 0x0C, flags := 0, payload := [byteOf k] }, target := some k
        expect := some 0x14, window := 50, discard := false, context := none } }

/-- Positions 1, 23 and 24, with a good and a bad ASSIGNED answer. -/
theorem witness_EnumerationEndsAndIsJudged :
    ([1, 23, 24].map fun k => flight (assigning k)) = [1, 23, 24].map (fun k => some ⟨.enumerate, some k, 0x0C, some 0x14, false⟩) ∧
      wholeFrame? (frameBytes 24 0x14 [1]) = some (⟨24, 0x14, 0, [1]⟩, check (Frame.body ⟨24, 0x14, 0, [1]⟩)) ∧
      wholeFrame? (frameBytes 23 0x14 [1]) = some (⟨23, 0x14, 0, [1]⟩, check (Frame.body ⟨23, 0x14, 0, [1]⟩)) ∧
      wholeFrame? [1, 0x14, 0, 1, 1, 0, 0] = some (⟨1, 0x14, 0, [1]⟩, 0) ∧ check (Frame.body ⟨1, 0x14, 0, [1]⟩) ≠ 0 ∧
      32 < (33 : Byte).toNat ∧ ¬ 32 < (32 : Byte).toNat := by decide +kernel

/-- The blank lost threshold is 3: at positions 1 and 24, a second miss stays below it and a third reaches it. Each kind of read, its
length, and answers of a wrong check, address, kind and length. -/
theorem witness_MissesMakeAPositionLost :
    flight (reading 1 9 0x11) = some ⟨.sweep, some 1, 9, some 0x11, false⟩ ∧
      flight (reading 24 0x0A 0x12) = some ⟨.sweep, some 24, 0x0A, some 0x12, false⟩ ∧
      flight (reading 2 0x0B 0x13) = some ⟨.sweep, some 2, 0x0B, some 0x13, false⟩ ∧
      min 7 (look (put sweep.chain.misses 23 1) 0 23 + 1) < (live sweep).chainHeader.lostThreshold.toNat ∧
      (live sweep).chainHeader.lostThreshold.toNat ≤ min 7 (look (put sweep.chain.misses 23 2) 0 23 + 1) ∧
      look sweep.chain.lost false 23 = false ∧ look (put sweep.chain.lost 23 true) false 23 = true ∧
      (wholeFrame? [1, 0x11, 0, 0, 0, 0]).isSome = true ∧ goodFrame? [1, 0x11, 0, 0, 0, 0] = none ∧
      judged (frameBytes 2 0x11 (List.replicate 32 9)) = some (2, 0x11, 32) ∧ judged (frameBytes 1 0x11 [9]) = some (1, 0x11, 1) := by
  decide +kernel

/-- The last clause is an answer of each kind that comes after its sweep has ended. -/
theorem witness_SweepAnswersAreEvaluated :
    flight (reading 1 0x09 0x11) = some ⟨.sweep, some 1, 0x09, some 0x11, false⟩ ∧
      judged (frameBytes 1 0x11 (List.replicate 32 9)) = some (1, 0x11, 32) ∧
      flight (reading 1 0x0A 0x12) = some ⟨.sweep, some 1, 0x0A, some 0x12, false⟩ ∧
      judged (frameBytes 1 0x12 (List.replicate 8 9)) = some (1, 0x12, 8) ∧
      flight (reading 2 0x0B 0x13) = some ⟨.sweep, some 2, 0x0B, some 0x13, false⟩ ∧
      goodFrame? (frameBytes 2 0x13 [1, 2, 3, 4, 5, 6, 7]) = some ⟨2, 0x13, 0, [1, 2, 3, 4, 5, 6, 7]⟩ ∧
      (∀ k ∈ [((0x11 : Byte), 32), (0x12, 8), (0x13, 7)], judged (frameBytes 1 k.1 (List.replicate k.2 9)) = some (1, k.1, k.2) ∧
        flight (discarded (reading 1 9 k.1)) = some ⟨.sweep, some 1, 9, some k.1, true⟩) := by decide +kernel

/-- A read of a watch cycle in flight. -/
def watching (p : Nat) (kind expect : Byte) : State :=
  { up with
    power.power := .deepSleep
    power.cycle := true
    chain.inFlight := some
      { requester := .watch, frame := { address := byteOf p, kind := kind, flags := 3, payload := [] }, target := some p
        expect := some expect, window := 50, discard := false, context := none } }

/-- Channel 0 of position 1 is evaluated and channel 1 is not; a reading, a sensor fault; the blank watch persistence is 2, so that a
second fault trips and a first does not; good and bad answers of both reads at positions 1 and 24. -/
theorem witness_WatchReadsAreJudged :
    let s : State := { up with tables.live.cells := put image.cells 16 { flags := 0x80, gain := 0, offset := 0 } }
    let f : State := { s with evaluator.channels := put s.evaluator.channels 0 { Channel.empty with status := .fault } }
    (evaluated (live s) 1 = false ∧ evaluated (live s) 0 = true ∧ readingOf (live s) 0 42000 = .value 42000 false ∧
        evaluated (live s) 16 = true ∧ readingOf (live s) 16 4095 = .fault) ∧
      (channelAt f 0).status = .fault ∧ (live f).watch.persistence.toNat = 2 ∧
      (look f.power.persistence 0 0 < 2 ∧ ¬ 2 ≤ min 3 (look f.power.persistence 0 0 + 1)) ∧
      (let g : State := { f with power.persistence := put f.power.persistence 0 1 }
       look g.power.persistence 0 0 < 2 ∧ 2 ≤ min 3 (look g.power.persistence 0 0 + 1)) ∧
      flight (watching 1 0x09 0x11) = some ⟨.watch, some 1, 0x09, some 0x11, false⟩ ∧
      flight (watching 24 0x0A 0x12) = some ⟨.watch, some 24, 0x0A, some 0x12, false⟩ ∧
      judged (frameBytes 1 0x11 (List.replicate 32 9)) = some (1, 0x11, 32) ∧
      judged (frameBytes 24 0x12 (List.replicate 8 9)) = some (24, 0x12, 8) ∧ judged (frameBytes 2 0x12 []) = some (2, 0x12, 0) := by
  decide +kernel

/-- FORWARD competes alone; SWEEP is HIGH and FORWARD LOW; a LOW turn is due; hold is on. -/
theorem witness_GrantFollowsTheFourSteps :
    let s : State := { up with link.forward := [emptyFrame], sweep.reads := [⟨1, .cells⟩] }
    (raised s .forward = true ∧ masked s .forward = false ∧ classHigh (live s).chainHeader .forward = false) ∧
      (raised s .sweep = true ∧ masked s .sweep = false ∧ classHigh (live s).chainHeader .sweep = true) ∧
      raised s .capture = false ∧ raised s .watch = false ∧ s.arbiter.lowTurnDue = false ∧ s.chain.state ≠ .numbering ∧
      ({ s with arbiter.lowTurnDue := true } : State).arbiter.lowTurnDue = true ∧ s.arbiter.lastGranted = some .watch ∧
      holdOn (live s).chainHeader .watch = false ∧
      holdOn (live { s with tables.live.chainHeader.classes := 0x1C }).chainHeader .sweep = true ∧
      raised up .forward = false ∧ raised up .sweep = false ∧ (assigning 1).chain.state = .numbering := by decide +kernel

/-- The chain free and busy; a forwarded frame, a trigger, a read outside the quiet window and one inside it, a WATCH frame, and both
frames of an enumeration. The grant of a forwarded frame puts it in flight. -/
theorem witness_GrantsAreRecordedAndSent :
    let s : State := { up with link.forward := [emptyFrame] }
    let q (c : Nat) : State := { sweep with sweep.counter := c, sweep.reads := [⟨2, .sense⟩, ⟨1, .cells⟩] }
    (s.chain.inFlight = none ∧ s.chain.linkPowered = true ∧ chooseGrant s = some .forward ∧ chooseGrant up = none) ∧
      (grant .forward s).chain.inFlight ≠ none ∧ (forwarded false).chain.inFlight ≠ none ∧
      classHigh (live s).chainHeader .sweep = true ∧ classHigh (live s).chainHeader .forward = false ∧
      (inQuietWindow (live (q 40)) (q 40).sweep.counter = true ∧ inQuietWindow (live (q 47)) (q 47).sweep.counter = true ∧ inQuietWindow (live (q 39)) (q 39).sweep.counter = false ∧ inQuietWindow (live (q 48)) (q 48).sweep.counter = false) ∧
      ((q 40).sweep.reads.find? fun e => e.kind != .sense) = some ⟨1, .cells⟩ ∧ (q 39).sweep.reads.head? = some ⟨2, .sense⟩ ∧
      (({ q 39 with sweep.triggers := [⟨3, true⟩, ⟨4, false⟩] } : State).sweep.triggers.find? fun t => !t.held) = some ⟨4, false⟩ ∧
      ((q 39).sweep.triggers.find? fun t => !t.held) = none ∧
      ({ up with power.frames := [.chainWake] } : State).power.frames = .chainWake :: [] ∧
      ({ assigning 1 with chain.enumNext := 0 } : State).chain.enumNext = 0 ∧ (assigning 24).chain.enumNext ≠ 0 := by decide +kernel

/-- Readings at 0 and at the top; every code at both ends of the blank curve and of a segment. -/
theorem witness_ReadingsAreCorrected :
    (1000000 * ((0 : Int) - 0) ≤ (0 : Nat) * (1000000 + 0) + 500000 ∧ (0 : Nat) * (1000000 + 0) + 500000 < 1000000 * ((0 : Int) - 0 + 1)) ∧
      (List.range 9).all (fun i => goodBreakpoint curve i) = true ∧ (breakpoint curve 0).code.toNat = 300 ∧
      (breakpoint curve 8).code.toNat = 3800 ∧ 3800 < 4095 ∧ (breakpoint curve 7).code.toNat = 3400 ∧
      (2 * 400 * 0 ≤ 2 * ((3400 - 3400) * 200) + 400 ∧ 2 * ((3400 - 3400) * 200) + 400 < 2 * 400 * (0 + 1)) := by decide +kernel

/-- Channel 0 of position 1 is evaluated and channel 1 is not; a cell reading and, for input 16, a sensor fault. -/
theorem witness_SampleIsJudged :
    let s : State := { sweep with tables.live.cells := put image.cells 16 { flags := 0x80, gain := 0, offset := 0 } }
    evaluated (live s) (channelIndex 1 1) = false ∧ evaluated (live s) (channelIndex 1 0) = true ∧
      readingOf (live s) (channelIndex 1 0) 42000 = .value 42000 false ∧ (channelAt s 0).warn = .clear ∧
      (effective (live s) (sweepProfile s) 0).overWarn = 42000 ∧ evaluated (live s) (channelIndex 1 16) = true ∧
      readingOf (live s) (channelIndex 1 16) 4095 = .fault := by decide +kernel

/-! ### Witnesses: captures -/

/-- A capture read in flight for a context. -/
def capturing (c : Context) (s : State) : State :=
  { s with
    capture.stack := [{ c with step := .inFlight }]
    chain.inFlight := some
      { requester := .capture, frame := { address := 2, kind := 0x0B, flags := 2, payload := [] }, target := some 2
        expect := some 0x13, window := 50, discard := false, context := some c.id } }

/-- A grant with a usable PACK_SENSE position, without one and with the chain MISMATCH; good answers and others; and runs that are
ended, complete and neither, on top and below. -/
theorem witness_CaptureStepsEnd :
    let s : State := { up with capture.stack := [{ context with step := .due }] }
    let other : Context := { context with id := 4 }
    let finished : Context := { context with nextStep := 8 }
    let ended : Context := { context with ended := true }
    let apart (above below : List Context) (c : Context) : Bool := (above ++ below).all fun x => x.id != c.id
    (packPosition (live s) = some 2 ∧ s.chain.state = .numbered ∧ packPosition (live rest) = none ∧ rest.chain.state ≠ .numbered) ∧
      flight (capturing context up) = some ⟨.capture, some 2, 0x0B, some 0x13, false⟩ ∧
      ((capturing context up).chain.inFlight.bind (·.context)) = some 3 ∧
      ((capturing context up).capture.stack.find? fun x => x.id == 3) = some { context with step := .inFlight } ∧
      goodFrame? (frameBytes 2 0x13 [1, 2, 3, 4, 5, 6, 7]) = some ⟨2, 0x13, 0, [1, 2, 3, 4, 5, 6, 7]⟩ ∧
      judged (frameBytes 2 0x13 [1]) = some (2, 0x13, 1) ∧ judged (frameBytes 1 0x13 []) = some (1, 0x13, 0) ∧
      (apart [] [other] context = true ∧ apart [other] [] context = true) ∧
      (ended.ended = true ∧ ended.ticksRemaining = 0 ∧ ({ ended with ticksRemaining := 1 } : Context).leaving = false) ∧
      (finished.ended = false ∧ finished.nextStep = finished.count ∧ finished.waiting = false) ∧
      context.ended = false ∧ context.nextStep ≠ context.count := by decide +kernel

/-- Three contexts leave a place and four do not; step 7 of 8 is left to a run whose next step is 7, and none when it is 8. -/
theorem witness_CaptureRunsAndSteps :
    (programField (live rest) .trip).count = 0 ∧ (programField (live up) .trip).count ≠ 0 ∧
      ({ up with capture.stack := List.replicate 3 context } : State).capture.stack.length < 4 ∧
      4 ≤ ({ up with capture.stack := List.replicate 4 context } : State).capture.stack.length ∧
      (context.ended = false ∧ context.ticksRemaining = 0 ∧ context.nextStep < context.count) ∧ ¬ (8 < context.count) ∧
      context.step ≠ .due ∧ context.waiting = false ∧ ({ context with step := .due } : Context).step = .due ∧
      ({ context with ended := true } : Context).ended = true ∧ up.capture.stack = [] := by decide +kernel

/-- A pending TRIP, the first served, and a pending PRECHARGE, the last; a pending set whose programs have a count of 0; the runs a pop
uncovers; and an ended PRECHARGE run that leaves when PRECHARGING is left, and one that does not. -/
theorem witness_PopsServeThePendingSet :
    let four : List Program := [.trip, .opening, .close, .precharge]
    let run : State := { up with capture.stack := [context] }
    let s (s : State) (p : PendingSet) : State := { s with capture.pendingSet := p }
    let trip : PendingSet := ⟨none, none, none, some true⟩
    let pre : PendingSet := ⟨some false, none, none, none⟩
    let ended : Context := { context with ended := true }
    ([] ++ .trip :: four.tail = four ∧ [.trip, .opening, .close] ++ Program.precharge :: [] = four) ∧
      ((s up trip).capture.pendingSet.get .trip = some true ∧ (s up pre).capture.pendingSet.get .precharge = some false ∧
        (programField (live up) .trip).count ≠ 0 ∧ (programField (live up) .precharge).count ≠ 0) ∧
      ([.trip, .opening, .close].all fun q => (s up pre).capture.pendingSet.get q == none) = true ∧
      (four.all fun q => (programField (live rest) q).count == 0) = true ∧
      ((servePending four (s up trip)).1 = true ∧ (servePending four run).1 = false) ∧
      (servePending four up).2.capture.stack = [] ∧ (servePending four run).2.capture.stack = context :: [] ∧
      (context.ended = false ∧ ended.ended = true ∧ ended.step ≠ .inFlight ∧ ({ ended with step := .inFlight } : Context).step = .inFlight) ∧
      (context.program = .precharge ∧ context.step ≠ .inFlight ∧ context.ticksRemaining = 0) ∧
      (({ context with ticksRemaining := 5 } : Context).ticksRemaining ≠ 0 ∧ context.leaving = false) := by decide +kernel

/-- First steps 31 and 32; LIMITS page 4, entry 15 and 16; table 7 and 8; CELL_MAP entries 479 and 480. -/
theorem witness_CaptureAndTableReads :
    (∀ s ∈ [up, staging], Accepting s) ∧ (31 : Byte).toNat ≤ 31 ∧ 31 < (32 : Byte).toNat ∧ (4 : Byte).toNat ≤ 4 ∧
      0 * 256 + (15 : Byte).toNat < 16 ∧ ¬ 0 * 256 + (16 : Byte).toNat < 16 ∧ 7 < (8 : Byte).toNat ∧
      1 * 256 + (0xDF : Byte).toNat < Table.cellMap.size ∧ ¬ 1 * 256 + (0xE0 : Byte).toNat < Table.cellMap.size ∧
      1 < (2 : Byte).toNat ∧ ([0, 1] : List Byte).length < 3 ∧ ([0, 1, 2, 3, 4] : List Byte).length < 6 ∧
      up.update.stage.isNone = true ∧ staging.update.stage.isSome = true :=
  ⟨accepting_of (by decide +kernel), by decide +kernel⟩

/-! ### Witnesses: protection and contactors -/

/-- A HARD trip of another block with a precharge timer, one to three disagreement timers, and a silence timer that expire at 0. -/
theorem witness_TripIsTaken :
    let t (s : State) : State := takeTrip (plainTrip .limitProfile s) s
    let closing : State :=
      { shut with sequencer.state := .precharging, sequencer.drive := ⟨false, true, true⟩, sequencer.prechargeTimer := some 0 }
    let d (neg pre : Nat) : State :=
      { shut with
        sequencer.feedback := allOpen, sequencer.disagreePos := some 0, sequencer.disagreeNeg := some neg, sequencer.disagreePre := some pre }
    let silent : State := { shut with sequencer.silenceTimer := some 0 }
    (drivesFit shut.sequencer = true ∧ responseTo (live shut) .limitProfile = .hard ∧
        responseTo (live { shut with tables.live.contactor.responseMap := 0 }) .limitProfile = .soft) ∧
      (prechargeStopped closing (t closing) = true ∧ prechargeStopped (d 1 1) (t (d 1 1)) = false) ∧
      ([d 1 1, d 0 1, d 0 0].map fun s => (disagreementStopped s (t s), expiredDisagreements s)) = [(true, 1), (true, 2), (true, 3)] ∧
      (silenceStopped silent (t silent) = true ∧ disagreementStopped silent (t silent) = false ∧ silent.sequencer.state = .closed) ∧
      silenceStopped shut (t shut) = false := by decide +kernel

theorem witness_CloseChecksAndBegins :
    let q (c : ContactorState) : State := { up with sequencer.state := c }
    (∀ s ∈ [up, q .faulted, sweep, shut], Accepting s) ∧ up.protection.state ≠ .safeOpen ∧ up.power.power = .active ∧
      (q .faulted).sequencer.state = .faulted ∧ (q .closing).sequencer.state = .closing ∧ (q .weldCheck).sequencer.state = .weldCheck ∧
      ({ up with sequencer.closePending := true } : State).sequencer.closePending = true ∧ rest.chain.state ≠ .numbered ∧
      packPosition (live up) = some 2 ∧ isLost up 2 = false ∧ isLost { up with chain.lost := put up.chain.lost 1 true } 2 = true ∧
      safetyActivation { up with update.state := .armed, update.stage := some (stageOf 0x01) } = true ∧ safetyActivation up = false ∧
      up.sweep.engine = .stopped ∧ sweep.sweep.engine = .running :=
  ⟨accepting_of (by decide +kernel), by decide +kernel⟩

/-- `shut` with a fresh pack current. -/
def carrying (i : Half) : State := { shut with evaluator.pack := { shut.evaluator.pack with status := .fresh, iPack := i } }

/-- The blank break limit is 200: a current of 200 is light and one of 201 is not. -/
theorem witness_OpenByContactorState :
    (∀ s ∈ [shut, { shut with sequencer.state := .precharging }, { shut with sequencer.state := .closing },
        { up with sequencer.closePending := true }], Accepting s) ∧
      shut.sequencer.state = .closed ∧ shut.sequencer.openPending = false ∧ shut.sequencer.deferTimer = none ∧
      shut.sequencer.closePending = false ∧ currentBreakable (carrying 200) = true ∧ currentBreakable (carrying 201) = false ∧
      (live shut).contactor.deferLimit ≠ 0 ∧ (live { shut with tables.live.contactor.deferLimit := 0 }).contactor.deferLimit = 0 :=
  ⟨accepting_of (by decide +kernel), by decide +kernel⟩

/-- A close that may begin, and each of the five tests that withdraws it; a light and a heavy current; a dwell of 0 and another; and
disagreement timers in FAULTED and elsewhere. -/
theorem witness_SwitchPointsAndOpenings :
    let s : State := { up with sequencer.closePending := true }
    (s.protection.state ≠ .safeOpen ∧ s.power.power = .active ∧ s.chain.state = .numbered ∧ packPosition (live s) = some 2 ∧
        isLost s 2 = false ∧ safetyActivation s = false ∧ closeAllowed s = true) ∧
      closeAllowed { s with protection.state := .safeOpen } = false ∧ closeAllowed { s with power.power := .drain } = false ∧
      closeAllowed { s with chain.state := .mismatch } = false ∧
      closeAllowed { s with chain.lost := put s.chain.lost 1 true } = false ∧
      closeAllowed { s with update.state := .armed, update.stage := some (stageOf 0x01) } = false ∧
      (shut.sequencer.closePending = false ∧ shut.sequencer.openPending = false) ∧
      ({ shut with sequencer.openPending := true } : State).sequencer.openPending = true ∧
      (currentBreakable (carrying 200) = true ∧ currentBreakable (carrying 201) = false) ∧
      (live shut).contactor.deferLimit ≠ 0 ∧ (live { shut with tables.live.contactor.deferLimit := 0 }).contactor.deferLimit = 0 ∧
      (live shut).contactor.openDwell ≠ 0 ∧ (live { shut with tables.live.contactor.openDwell := 0 }).contactor.openDwell = 0 ∧
      ({ shut with sequencer.state := .faulted } : State).sequencer.state = .faulted ∧ shut.power.power = .active := by decide +kernel

/-- The blank ratios: 400 × preRatio is reached by 399 and not by 200; a current of 200 is light; a link of 1 has collapsed. -/
theorem witness_PackRecordsAreJudged :
    let p (state : ContactorState) (v l : Half) : State :=
      { up with
        sequencer.state := state
        evaluator.pack := { up.evaluator.pack with status := .fresh, vPack := v, vLink := l } }
    let t := (live up).contactor
    (0 < (400 : Half).toNat ∧ 400 * t.preRatio.toNat ≤ 399 * 256 ∧ ¬ 400 * t.preRatio.toNat ≤ 200 * 256) ∧
      (p .precharging 400 399).evaluator.pack.status = .fresh ∧ (p .precharging 400 399).sequencer.qualifying = 0 ∧
      1 ≤ ({ p .precharging 400 399 with sequencer.qualifying := 1 } : State).sequencer.qualifying ∧
      ((p .precharging 400 399).protection.state ≠ .safeOpen ∧ (p .precharging 400 399).power.power = .active) ∧
      ({ p .precharging 400 399 with protection.state := .safeOpen } : State).protection.state = .safeOpen ∧
      (up.sequencer.feedback.pos = false ∧ shut.sequencer.feedback.pos = true) ∧
      (({ carrying 200 with sequencer.deferTimer := some 9 } : State).sequencer.deferTimer ≠ none ∧
        currentBreakable (carrying 200) = true ∧ shut.sequencer.deferTimer = none) ∧
      (1 * 256 < 400 * t.weldRatio.toNat ∧ ¬ 399 * 256 < 400 * t.weldRatio.toNat) ∧ up.sequencer.openSequence = none ∧
      ({ up with sequencer.openSequence := some ⟨.trip, false, none⟩ } : State).sequencer.openSequence.isSome = true ∧
      (p .weldCheck 400 1).sequencer.state = .weldCheck ∧ up.sequencer.state = .opened := by decide +kernel

theorem witness_SequenceTimersExpire :
    let s : State :=
      { up with
        sequencer.prechargeTimer := some 0, sequencer.deferTimer := some 0, sequencer.dwellTimer := some 0, sequencer.weldTimer := some 0 }
    (s.sequencer.prechargeTimer = some 0 ∧ s.sequencer.deferTimer = some 0 ∧ s.sequencer.dwellTimer = some 0 ∧
        s.sequencer.weldTimer = some 0 ∧ 0 ≤ s.now ∧ up.sequencer.deferTimer = none) ∧ s.sequencer.feedback = allOpen ∧ shut.sequencer.feedback ≠ allOpen ∧
      (live s).contactor.weldRatio ≠ 0 ∧ (live { s with tables.live.contactor.weldRatio := 0 }).contactor.weldRatio = 0 ∧
      ({ s with sequencer.state := .precharging } : State).sequencer.state = .precharging ∧ s.sequencer.state ≠ .precharging := by
  decide +kernel

/-- One, two and three timers whose instants have come at 9. -/
theorem witness_FeedbacksAndGuards :
    let s (c : ContactorState) : State := { up with now := 9, sequencer.state := c }
    let d (neg pre : Nat) : Sequencer := { up.sequencer with disagreePos := some 9, disagreeNeg := some neg, disagreePre := some pre }
    let ran (timer : Option Nat) : Bool := expired (s .closed) timer
    let others (q : Sequencer) : List Bool := [q.disagreeNeg, q.disagreePre].map ran
    (s .closing).power.power = .active ∧ ((s .closing).sequencer.feedback.set .pos true).pos = true ∧
      (s .opening).sequencer.drive.neg = false ∧ (s .opening).sequencer.feedback.set .pos false = allOpen ∧
      ({ up with power.power := .drain } : State).power.power ≠ .active ∧ ran (d 10 10).disagreePos = true ∧
      others (d 10 10) = [false, false] ∧ others (d 10 9) = [false, true] ∧ others (d 9 9) = [true, true] ∧
      ran up.sequencer.disagreePos = false ∧ ran (some 10) = false ∧ (live up).contactor.silenceLimit ≠ 0 := by decide +kernel

/-- Every contactor state of the forced opening, the cause CONTACTOR_FEEDBACK and another. -/
theorem witness_HardTripsForceTheOpening :
    let s (c : ContactorState) (neg : Bool) : State := { up with sequencer.state := c, sequencer.drive.neg := neg }
    responseTo (live up) .contactorFeedback = .hard ∧ responseTo (live up) .weld = .hard ∧
      ((s .precharging true).sequencer.state = .precharging ∧ (s .opening true).sequencer.drive.neg = true ∧
        (s .opening false).sequencer.drive.neg = false ∧ (s .faulted false).sequencer.state = .faulted) ∧
      up.sequencer.state = .opened ∧ up.sequencer.closePending = false ∧
      ({ up with sequencer.closePending := true } : State).sequencer.closePending = true := by decide +kernel

/-! ### Witnesses: power -/

theorem witness_SleepDrainsAndPowersDown :
    let s : State := { up with power.power := .drain }
    (∀ t ∈ [up, s, shut, sweep], Accepting t) ∧ (up.power.power = .active ∧ openOrFaulted up = true ∧ up.sequencer.drive = allOpen ∧
        up.sweep.engine = .stopped ∧ up.capture.stack = [] ∧ up.chain.state ≠ .numbering ∧
        (up.update.state ≠ .verifying ∧ up.update.state ≠ .committing ∧ up.update.state ≠ .armed) ∧ openOrFaulted shut = false ∧
        sweep.sweep.engine ≠ .stopped ∧ up.sequencer.closePending = false ∧
        ({ up with sequencer.closePending := true } : State).sequencer.closePending = true ∧
        ({ up with update.state := .armed } : State).update.state = .armed) ∧
      (({ s with power.drainTimer := some 0 } : State).power.drainTimer = some 0 ∧ 0 ≤ s.now ∧ s.power.drainTimer = none) ∧
      drainOver s = true ∧ s.link.upstream = [] ∧ s.link.reserved = 0 ∧ s.link.answerSlot = none ∧ s.link.forward = [] ∧
      s.chain.inFlight = none ∧ s.link.exchange = none ∧ drainOver { s with link.reserved := 1 } = false ∧ drainOver up = false :=
  ⟨accepting_of (by decide +kernel), by decide +kernel⟩

/-- A source in each power state, with a transaction of a cycle in flight and without; and the count at 65534 and at its end, 65535. -/
theorem witness_WakesAndWatchCyclesBegin :
    let s : State := { up with power.power := .deepSleep, power.watchTimer := some 0, power.watchCount := 65534 }
    (portPowered { up with power.power := .deepSleep } = false ∧ portPowered { up with power.power := .wakingDark } = false ∧
        portPowered { up with power.power := .chainSleep } = false ∧ portPowered up = true ∧
        (watching 1 9 0x11).power.cycle = true ∧ (watching 1 9 0x11).chain.inFlight ≠ none ∧ up.chain.inFlight = none) ∧
      s.power.watchTimer = some 0 ∧ 0 ≤ s.now ∧ up.power.watchTimer = none ∧ s.chain.state = .numbered ∧ ({ s with chain.state := .mismatch } : State).chain.state ≠ .numbered ∧
      ({ s with power.watchCount := 65535 } : State).power.watchCount = 65535 ∧
      ({ s with power.settleTimer := some 0 } : State).power.settleTimer = some 0 ∧ up.power.settleTimer = none ∧ waking s = false ∧
      waking { up with power.power := .wakingLit } = true ∧
      ({ up with power.power := .wakingDark } : State).power.power = .wakingDark := by decide +kernel

/-! ### Witnesses: updates -/

/-- The generation bytes 0, 0, 0 and `b`. -/
def genOf (b : Byte) : Word := (((0 : Byte) ++ (0 : Byte) : Half) ++ ((0 : Byte) ++ b : Half) : Word)

/-- Generation 1 is live: 1 is refused and 2 is not. Entries 479 and 480 of CELL_MAP, tags of 15 and 16 bytes. -/
theorem witness_UpdateBeginWindowAndSeal :
    (∀ s ∈ [up, staging], Accepting s) ∧ ([1, 0, 0, 0] : List Byte).length < 5 ∧ ([] : List Byte).length < 5 ∧
      (7 < (([8, 0, 0, 0, 1] : List Byte).getD 0 0).toNat ∧ ¬ 7 < (([7, 0, 0, 0, 1] : List Byte).getD 0 0).toNat) ∧ (genOf 1).toNat ≤ (live up).generation.toNat ∧
      ¬ (genOf 2).toNat ≤ (live up).generation.toNat ∧ staging.update.state = .staging ∧ staging.update.stage.isSome = true ∧
      holds 0x0A .cellMap = true ∧ holds 0x0A .sweep = false ∧ 479 < Table.cellMap.size ∧ ¬ 480 < Table.cellMap.size ∧
      (List.replicate 15 (0 : Byte)).length < 16 ∧ 16 ≤ (List.replicate 16 (0 : Byte)).length ∧ staging.power.power = .active :=
  ⟨accepting_of (by decide +kernel), by decide +kernel⟩

/-- The cursor at the last index of the window and past it; a CELL_MAP entry has 5 bytes and three fields, so that one, two and no
entries fit an entry part and four bytes do not. -/
theorem witness_UpdateWriteWritesAtTheCursor :
    let w (c : Nat) : Window := { table := .cellMap, first := 0, last := 1, cursor := c }
    let fit (entries : List (List Byte)) : Prop := ∀ e ∈ entries, e.length = (fieldWidths .cellMap 0).sum
    (∀ s ∈ [staging], Accepting s) ∧ (staging.update.window = some (w 0) ∧ staging.update.state = .staging) ∧
      (fit [] ∧ fit [[1, 2, 3, 4, 5]] ∧ fit [[1, 2, 3, 4, 5], [1, 2, 3, 4, 5]]) ∧ (4 : Nat) % (fieldWidths .cellMap 0).sum ≠ 0 ∧
      (w 1).cursor ≤ (w 1).last ∧ ¬ (w 2).cursor ≤ (w 2).last ∧ (fieldWidths .cellMap 0).sum = 5 ∧ (fieldWidths .cellMap 1).sum = 5 ∧
      ((0 : Byte) ++ (7 : Byte) : Half).toNat < 2 ^ windowFields (w 0) ∧
      2 ^ windowFields (w 0) ≤ ((0 : Byte) ++ (8 : Byte) : Half).toNat ∧ (2 : Byte).getLsbD 1 = true ∧
      ((4 : Byte).getLsbD 1 = false ∧ 1 < (4 : Byte).toNat) ∧ staging.update.openWrite = none ∧
      ({ staging with update.openWrite := some ⟨true, 1⟩ } : State).update.openWrite = some ⟨true, 1⟩ :=
  ⟨accepting_of (by decide +kernel), by decide +kernel⟩

/-- A sound stage of FLOOR; one whose entry 15 fails; the counter at 0, 1 and 2; and a tag that the keyed one is or is not. -/
theorem witness_VerifyingEnds :
    let bad : Image := { image with floor := put image.floor 15 { FloorRecord.blank with vPersist := 0 } }
    let s (n : Nat) (tag : Tag) : State :=
      { up with update := { up.update with state := .verifying, stage := some (stageOf 0x08), tag := some tag, mismatches := n } }
    (firstBad image 0x08 = none ∧ goodEntry bad .floor 15 = false ∧ firstBad bad 0x08 = some (.floor, 15) ∧ holds 0x08 .floor = true ∧
        15 < Table.floor.size ∧ (s 1 0).update.mismatches < 2 ∧ (s 2 0).update.mismatches = 2 ∧ up.update.state ≠ .verifying) ∧
      (∀ bytes, ∃ tag, Config.keyedTag bytes = tag ∧ (s 0 tag).update.tag = some tag) ∧
      ∀ bytes, ∃ tag, Config.keyedTag bytes ≠ tag ∧ (s 0 tag).update.tag = some tag := by
  refine ⟨by decide +kernel, fun _ => ⟨_, rfl, rfl⟩, fun bytes => ⟨~~~ Config.keyedTag bytes, fun h => ?_, rfl⟩⟩
  have h := congrArg (fun x : Tag => x.getLsbD 0) h
  simp at h

theorem witness_ActivateAndCommit :
    let s : State := { up with update.state := .sealed, update.stage := some (stageOf 0x20) }
    let c : State :=
      { up with
        update.state := .committing, update.stage := some (stageOf 0x20), update.target := some .b
        update.commit := some { image with generation := 2 } }
    (∀ t ∈ [s, { shut with update := s.update }, staging], Accepting t) ∧ s.protection.state ≠ .safeOpen ∧ s.power.power = .active ∧
      s.update.state = .sealed ∧ touchesSafety 0x20 = false ∧ touchesSafety 0x01 = true ∧ openOrFaulted shut = false ∧
      up.tables.liveSlot = some .a ∧ rest.tables.liveSlot ≠ some .a ∧ c.update.state = .committing ∧ c.update.target = some .b ∧
      c.update.commit.isSome = true ∧ c.update.commitTampered = false ∧ c.sweep.engine = .stopped ∧ sweep.sweep.engine ≠ .stopped :=
  ⟨accepting_of (by decide +kernel), by decide +kernel⟩

theorem witness_AbortDiscardsTheUpdate :
    (∀ s ∈ [staging, up], Accepting s) ∧ staging.update.state = .staging ∧ (∃ t, exec .updateAbort staging = .next t) ∧
      staging.update.mismatches < 3 ∧ staging.update.tamperLatch = false ∧ (live staging).generation.toNat < (2 : Word).toNat ∧
      (0x0A : Byte) ≠ 0 ∧ staging.update.floorLock = false ∧ up.update.state = .idle :=
  ⟨accepting_of (by decide +kernel), rfl, ⟨_, rfl⟩, by decide +kernel⟩

/-- An ARMED update for slot B over a live slot A. -/
theorem generationsFit_armed (s : State) (a i : Image) (g : Stage) (hs : s.update.state = .armed) (hl : s.tables.liveSlot = some .a)
    (ha : s.tables.slotA = some a) (hb : s.tables.slotB = some i) (hc : s.update.commit = some i) (ht : s.update.target = some .b)
    (hg : s.update.stage = some g) (h1 : a.generation.toNat = s.tables.live.generation.toNat) (h2 : i.generation = g.image.generation)
    (h3 : s.tables.live.generation.toNat < g.image.generation.toNat) : generationsFit s = true := by
  simp [generationsFit, liveSlotFits, stageNewer, commitFits, armedFits, stageFits, slotOf, slotGeneration, live, *]
/-- The same, with the FLOOR table of the live image in the committed one. -/
theorem floorFits_armed (s : State) (a i : Image) (hs : s.update.state = .armed)
    (ha : s.tables.slotA = some a) (hb : s.tables.slotB = some i) (hc : s.update.commit = some i)
    (hl : s.tables.liveSlot = some .a) (ht : s.update.target = some .b) (hn : a.generation.toNat < i.generation.toNat)
    (hf : i.floor = s.tables.live.floor) (hu : updateHolds .floor s = false) : floorFits s = true := by
  simp [floorFits, loadFits, loadImage, targetFits, commitTarget, *]
/-- No update, over a live slot A. -/
theorem generationsFit_idle (s : State) (a : Image) (hs : s.update.state = .idle) (hl : s.tables.liveSlot = some .a)
    (ha : s.tables.slotA = some a) (hc : s.update.commit = none) (ht : s.update.target = none)
    (hg : s.update.stage = none) (h1 : a.generation.toNat = s.tables.live.generation.toNat) : generationsFit s = true := by
  simp [generationsFit, liveSlotFits, stageNewer, commitFits, armedFits, stageFits, slotOf, slotGeneration, live, *]

/-- `up` with its live image in slot A, the floor lock set and a commit of an image with another generation ARMED for slot B. -/
def lockedArmed : State :=
  let i : Image := { live up with generation := 2 }
  { up with
    tables.liveSlot := some .a
    tables.slotA := some (live up)
    tables.slotB := some i
    update :=
      { up.update with
        state := .armed, floorLock := true, stage := some { image := i, set := 0x80 }, target := some .b, commit := some i } }

theorem lockedArmed_fits : generationsFit lockedArmed = true ∧ floorFits lockedArmed = true :=
  ⟨generationsFit_armed lockedArmed (live up) { live up with generation := 2 } _ rfl rfl rfl rfl rfl rfl rfl rfl rfl (by decide +kernel),
    floorFits_armed lockedArmed (live up) { live up with generation := 2 } rfl rfl rfl rfl rfl rfl (by decide +kernel) rfl
      (by decide +kernel)⟩

theorem witness_FloorLockHolds :
    (∀ s ∈ [up, staging], Accepting s) ∧ (generationsFit lockedArmed = true ∧ floorFits lockedArmed = true) ∧
      up.update.floorLock = false ∧ updateHolds .floor up = false ∧ updateHolds .floor staging = true ∧
      (holds 0x08 .floor = true ∧ holds 0x02 .floor = false) ∧ up.update.mismatches ≠ 3 ∧
      up.update.tamperLatch = false ∧ (live up).generation.toNat < (2 : Word).toNat ∧ lockedArmed.update.floorLock = true :=
  ⟨accepting_of (by decide +kernel), lockedArmed_fits, by decide +kernel⟩

theorem witness_TamperLatchIsSetAndCleared :
    (∀ s ∈ [up], Accepting s) ∧ up.update.tamperLatch = false ∧ up.update.tamperReading = false ∧ up.update.state = .idle ∧ staging.update.state = .staging ∧
      ({ up with update.tamperReading := true } : State).update.tamperReading = true ∧
      ({ up with update.state := .committing } : State).update.state = .committing :=
  ⟨accepting_of (by decide +kernel), by decide +kernel⟩

theorem witness_ColdResets :
    up.update.tamperReading = false ∧ ({ up with update.tamperReading := true } : State).update.tamperReading = true := by decide +kernel

/-! ### Witnesses: invariants -/

theorem witness_OutputsStaySafe : outputsSafe shut = true ∧ step shut = .next (passTime shut) := by
  refine ⟨by decide +kernel, ?_⟩
  have h : dueEvent shut = none := by decide +kernel
  show idle shut = _
  rw [idle, h]

/-- A queue with a NOTICE of each channel holds no two of one. -/
theorem witness_QueuesStayFit :
    queuesFit (forwarded false) = true ∧ queuesFit { up with link.upstream := List.replicate 16 emptyFrame } = true ∧
      noticesFit { forwarded false with link.upstream := [⟨0, 0x62, 0, [0, 0, 1]⟩, ⟨0, 0x62, 0, [1, 0, 0]⟩] } = true := by decide +kernel

theorem witness_GenerationNeverFalls : generationsFit up = true ∧ generationsFit lockedArmed = true :=
  ⟨generationsFit_idle up image rfl rfl rfl rfl rfl rfl rfl, lockedArmed_fits.1⟩

theorem witness_CaptureAndCounterStayFit :
    let s : State := { up with capture.stack := List.replicate 4 context, capture.pendingSet.trip := some true }
    stackFits s = true ∧ bufferFits s = true ∧ mismatchFits s = true ∧
      mismatchFits { up with update.mismatches := 3, update.state := .locked } = true := by decide +kernel

theorem witness_SafeOpenIsLeftByClearingAlone :
    let s : State := { up with protection := { state := .safeOpen, record := some tripped } }
    s.protection.state = .safeOpen ∧ (∃ t, exec .powerOnReset s = .next t ∧ t.protection.state ≠ .safeOpen) := by
  refine ⟨rfl, _, rfl, ?_⟩
  show (resetEnd (coldState _)).protection.state ≠ .safeOpen
  simp [resetEnd, tamperAtReset, coldState]
  decide +kernel

/-- The last byte of CELL_MAP entry 479, and an entry of one byte. -/
theorem witness_EntryRoundTrip :
    479 < Table.cellMap.size ∧ entryWidth .cellMap 479 = 5 ∧ 24 < Table.chainMap.size ∧ entryWidth .chainMap 24 = 1 ∧
      entryWidth .contactor 0 = 22 := by decide

end Sys2Proof.Tests
end

section
/-! The pack sense record before its first SENSE answer (R75). One operation writes the record's values, `updatePack`, for the sweep and
for a capture; two move its status alone, as a sweep begins and as a position becomes LOST, and both keep NONE (R60, R69). The rest leaves
it as it is. -/

namespace Sys2Proof.Machine

/-! ### The record without an answer -/

/-- The record as a POWER-ON or HARD reset sets it (R75). -/
def unsensedPack : PackSense where
  vPack := 0
  vLink := 0
  iPack := 0
  trigger := 0
  fromCapture := false
  stamp := .absent
  status := .none

/-- No SENSE answer has been taken since the last POWER-ON or HARD reset: the record is the one the reset set. -/
def Unsensed (s : State) : Prop := s.evaluator.pack = unsensedPack

theorem Unsensed.of_pack {s t : State} (hs : Unsensed s) (h : t.evaluator.pack = s.evaluator.pack) : Unsensed t := h.trans hs

theorem Unsensed.of_evaluator {s t : State} (hs : Unsensed s) (h : t.evaluator = s.evaluator) : Unsensed t :=
  hs.of_pack (congrArg Evaluator.pack h)

/-- An event takes effect on its condition, and leaves the state as it is otherwise. -/
theorem Unsensed.ite {s t : State} {c : Prop} [Decidable c] (ht : Unsensed t) (hs : Unsensed s) : Unsensed (if c then t else s) := by
  split
  · exact ht
  · exact hs

/-! ### Channels are written without the record -/

@[simp] theorem setChannel_pack (i : Nat) (c : Channel) (s : State) : (setChannel i c s).evaluator.pack = s.evaluator.pack := rfl

@[simp] theorem evaluateChannel_pack (p c : Nat) (x : Half) (s : State) :
    (evaluateChannel p c x s).evaluator.pack = s.evaluator.pack := by
  unfold evaluateChannel
  dsimp only
  (repeat' split) <;> simp

@[simp] theorem storeWatchChannel_pack (p c : Nat) (x : Half) (s : State) :
    (storeWatchChannel p c x s).evaluator.pack = s.evaluator.pack := by
  unfold storeWatchChannel
  dsimp only
  split <;> simp

/-- An operation on channels that leaves the record leaves it over a whole answer. -/
theorem eachChannel_pack {f : Nat → Nat → Half → State → State} {p : Nat}
    (hf : ∀ c x s, (f p c x s).evaluator.pack = s.evaluator.pack) (kind : ReadKind) (payload : List Byte) (s : State) :
    (eachChannel f p kind payload s).evaluator.pack = s.evaluator.pack := by
  rw [eachChannel_eq]
  generalize (codesOf (channelsOf kind).2 payload).zipIdx (channelsOf kind).1 = codes
  induction codes generalizing s with
  | nil => rfl
  | cons code codes ih => rw [List.foldl_cons, ih, hf]

@[simp] theorem evaluateAnswer_pack (p : Nat) (kind : ReadKind) (payload : List Byte) (s : State) :
    (evaluateAnswer p kind payload s).evaluator.pack = s.evaluator.pack := by
  rw [evaluateAnswer, mirrorAnswer_evaluator, eachChannel_pack (evaluateChannel_pack p)]

@[simp] theorem watchAnswered_pack (p : Nat) (kind : ReadKind) (payload : List Byte) (s : State) :
    (watchAnswered p kind payload s).evaluator.pack = s.evaluator.pack := by
  have stored := eachChannel_pack (storeWatchChannel_pack p) kind payload s
  unfold watchAnswered
  dsimp only
  split <;> simp [stored]

@[simp] theorem watchReadEnd_pack (p : Nat) (kind : ReadKind) (answer : Option (List Byte)) (s : State) :
    (watchReadEnd p kind answer s).evaluator.pack = s.evaluator.pack := by
  unfold watchReadEnd
  dsimp only
  cases kind <;> cases answer <;> dsimp only <;> split <;> simp

/-! ### Activations and profiles -/

@[simp] theorem emptyUnevaluated_pack (old : Image) (s : State) : (emptyUnevaluated old s).evaluator.pack = s.evaluator.pack := rfl

@[simp] theorem swapImage_pack (s : State) : (swapImage s).evaluator.pack = s.evaluator.pack := by
  unfold swapImage
  dsimp only
  (repeat' split) <;> simp

@[simp] theorem applyProfile_pack (s : State) : (applyProfile s).evaluator.pack = s.evaluator.pack := by
  unfold applyProfile
  split <;> rfl

@[simp] theorem applyPending_pack (s : State) : (applyPending s).evaluator.pack = s.evaluator.pack := by simp [applyPending]

@[simp] theorem pendingThenOffer_pack (s : State) : (pendingThenOffer s).evaluator.pack = s.evaluator.pack := by
  unfold pendingThenOffer
  dsimp only
  (repeat' split) <;> simp

@[simp] theorem enterStopped_pack (s : State) : (enterStopped s).evaluator.pack = s.evaluator.pack := by simp [enterStopped]

@[simp] theorem atBoundary_pack (s : State) : (atBoundary s).evaluator.pack = s.evaluator.pack := by
  unfold atBoundary
  split <;> simp

@[simp] theorem endCommit_pack (readBack : Bool) (target : SlotId) (img : Image) (s : State) :
    (endCommit readBack target img s).evaluator.pack = s.evaluator.pack := by
  unfold endCommit
  dsimp only
  (repeat' split) <;> simp

@[simp] theorem chooseProfile_pack (p : Fin 4) (s : State) : (chooseProfile p s).evaluator.pack = s.evaluator.pack := by
  unfold chooseProfile
  split <;> rfl

/-! ### The DIRECTED reset and CLEAR-TRIP -/

@[simp] theorem directedEvaluator_pack (s : State) : (directedEvaluator s).evaluator.pack = s.evaluator.pack := rfl

@[simp] theorem directedReset_pack (s : State) : (directedReset s).evaluator.pack = s.evaluator.pack := by simp [directedReset]

@[simp] theorem grantClear_pack (s : State) : (grantClear s).evaluator.pack = s.evaluator.pack := by simp [grantClear]

/-! ### The two moves of the status keep NONE (R60, R69) -/

theorem holdRecords_unsensed {s : State} (hs : Unsensed s) : Unsensed (holdRecords s) := by
  unfold Unsensed at hs
  simp [Unsensed, holdRecords, hs, unsensedPack, heldStatus]

theorem markStale_unsensed (p : Nat) {s : State} (hs : Unsensed s) : Unsensed (markStale p s) := by
  unfold Unsensed at hs
  simp [Unsensed, markStale, hs, unsensedPack, staleStatus]

/-! ### Sweeps -/

theorem startSweep_unsensed (lost : Bool) {s : State} (hs : Unsensed s) : Unsensed (startSweep lost s) := by
  unfold startSweep
  dsimp only
  split
  · refine Unsensed.of_evaluator ?_ (passSlot_evaluator _)
    exact holdRecords_unsensed (hs.of_pack rfl)
  · exact holdRecords_unsensed (hs.of_pack rfl)

theorem beginSweep_unsensed (lost : Bool) {s : State} (hs : Unsensed s) : Unsensed (beginSweep lost s) := by
  have boundary : Unsensed (atBoundary s) := hs.of_pack (by simp)
  unfold beginSweep
  dsimp only
  split
  · exact boundary.of_pack rfl
  · exact startSweep_unsensed lost boundary

theorem endSweep_unsensed {s : State} (hs : Unsensed s) : Unsensed (endSweep s) := by
  have ended : Unsensed (completeRecord (sumCheck (abandonWork s))) := hs.of_evaluator (by simp)
  unfold endSweep
  dsimp only
  split
  · exact ended.of_pack (by simp)
  · split
    · exact ended.of_evaluator (by simp)
    · exact beginSweep_unsensed false ended

theorem startEngine_unsensed {s : State} (hs : Unsensed s) : Unsensed (startEngine s) := by
  unfold startEngine
  split
  · split
    · exact hs.of_evaluator (by simp)
    · exact (beginSweep_unsensed false hs).of_evaluator (by simp)
  · exact hs.of_pack rfl
  · exact hs
  · exact hs

theorem syncEdge_unsensed {s : State} (hs : Unsensed s) : Unsensed (syncEdge s) :=
  (beginSweep_unsensed false hs).of_evaluator (by simp [syncEdge])

theorem syncLost_unsensed {s : State} (hs : Unsensed s) : Unsensed (syncLost s) := by
  have begun := beginSweep_unsensed true hs
  unfold syncLost
  dsimp only
  split <;> exact begun.of_evaluator (by simp)

/-! ### The end of a transaction -/

theorem becomeLost_unsensed (p : Nat) (stamp : Stamp) {s : State} (hs : Unsensed s) : Unsensed (becomeLost p stamp s) := by
  have stale : Unsensed (markStale p { s with chain.lost := put s.chain.lost (p - 1) true }) := markStale_unsensed p (hs.of_pack rfl)
  exact stale.of_evaluator (by simp only [becomeLost, raise_evaluator, takeOutsideTrip_evaluator])

theorem countMiss_unsensed (p : Nat) (stamp : Stamp) {s : State} (hs : Unsensed s) : Unsensed (countMiss p stamp s) := by
  have counted : Unsensed { s with chain.misses := put s.chain.misses (p - 1) (min 7 (missCount s p + 1)) } := hs.of_pack rfl
  exact (becomeLost_unsensed p stamp counted).ite counted

theorem applyMiss_unsensed (q : Requester) (p : Nat) (e : Ending) {s : State} (hs : Unsensed s) : Unsensed (applyMiss q p e s) := by
  unfold applyMiss
  split
  · split
    · exact hs.of_pack rfl
    all_goals exact countMiss_unsensed p _ hs
  · split
    · exact hs.of_pack rfl
    all_goals exact countMiss_unsensed p _ hs
  all_goals exact hs

/-- The outcome is no SENSE answer of the sweep or of a capture: it carries no answer, or its transaction read no pack sense. -/
def HandsNoSense (t : Transaction) (e : Ending) : Prop :=
  e.payload? = none ∨ (t.requester ≠ .capture ∧ (t.requester = .sweep → readOf t.frame.kind ≠ .sense))

theorem handSweep_pack {kind : ReadKind} {e : Ending} (h : e.payload? = none ∨ kind ≠ .sense) (p : Nat) (s : State) :
    (handSweep p kind e s).evaluator.pack = s.evaluator.pack := by
  unfold handSweep
  split
  · rfl
  next payload hp =>
    have hk : kind ≠ .sense := h.resolve_left (by simp [hp])
    cases kind with
    | sense => exact absurd rfl hk
    | cells | aux => exact evaluateAnswer_pack p _ payload s

theorem handCapture_evaluator {e : Ending} (h : e.payload? = none) (p : Nat) (id : Half) (s : State) :
    (handCapture p id e s).evaluator = s.evaluator := by simp [handCapture, h]

theorem handOn_pack {t : Transaction} {e : Ending} (h : HandsNoSense t e) (p : Nat) (s : State) :
    (handOn t p e s).evaluator.pack = s.evaluator.pack := by
  unfold handOn
  split
  next => split <;> simp
  next hq =>
    split
    · rfl
    · exact handSweep_pack (h.imp_right fun noRead => noRead.2 hq) p s
  next hq =>
    have noAnswer : e.payload? = none := h.resolve_right fun noRead => noRead.1 hq
    split
    · rw [handCapture_evaluator noAnswer]
    · rfl
  next => simp
  next => simp

theorem finish_unsensed {t : Transaction} {e : Ending} (h : HandsNoSense t e) (p : Nat) {s : State} (hs : Unsensed s) :
    Unsensed (finish t p e s) := by
  have missed : Unsensed (applyMiss t.requester p e { s with chain.inFlight := none }) := applyMiss_unsensed _ p e (hs.of_pack rfl)
  exact missed.of_pack (by rw [finish, arbitrate_evaluator, handOn_pack h])

/-- The transaction that awaits an answer is the one in flight. -/
theorem inFlight_of_awaiting {s : State} {t : Transaction} {p : Nat} (h : awaiting s = some (t, p)) : s.chain.inFlight = some t := by
  unfold awaiting at h
  split at h
  · cases h
  next u hu =>
    obtain ⟨q, -, e⟩ := Option.map_eq_some_iff.1 h
    cases e
    exact hu

/-! ### Management commands -/

@[simp] theorem cmdHubReset_pack (s : State) : (cmdHubReset s).2.evaluator.pack = s.evaluator.pack := by
  unfold cmdHubReset
  split <;> simp

@[simp] theorem stopEngine_pack (s : State) : (stopEngine s).evaluator.pack = s.evaluator.pack := by
  unfold stopEngine
  split <;> simp

@[simp] theorem cmdChainGate_evaluator (p : List Byte) (s : State) : (cmdChainGate p s).2.evaluator = s.evaluator := by
  unfold cmdChainGate
  split <;> simp

@[simp] theorem cmdEnumerate_evaluator (s : State) : (cmdEnumerate s).2.evaluator = s.evaluator := by
  unfold cmdEnumerate
  (repeat' split) <;> simp

@[simp] theorem cmdSetProfile_pack (p : List Byte) (s : State) : (cmdSetProfile p s).2.evaluator.pack = s.evaluator.pack := by
  unfold cmdSetProfile
  split <;> simp

@[simp] theorem cmdReadStatus_evaluator (p : List Byte) (s : State) : (cmdReadStatus p s).2.evaluator = s.evaluator := by
  unfold cmdReadStatus
  split <;> rfl

@[simp] theorem cmdReadEvents_evaluator (p : List Byte) (s : State) : (cmdReadEvents p s).2.evaluator = s.evaluator := by
  unfold cmdReadEvents
  split <;> rfl

@[simp] theorem cmdSetEvents_evaluator (p : List Byte) (s : State) : (cmdSetEvents p s).2.evaluator = s.evaluator := by
  unfold cmdSetEvents
  split <;> rfl

@[simp] theorem cmdReadSamples_evaluator (p : List Byte) (s : State) : (cmdReadSamples p s).2.evaluator = s.evaluator := by
  unfold cmdReadSamples
  (repeat' split) <;> rfl

@[simp] theorem cmdClearTrip_pack (s : State) : (cmdClearTrip s).2.evaluator.pack = s.evaluator.pack := by
  unfold cmdClearTrip
  (repeat' split) <;> simp

@[simp] theorem cmdClose_evaluator (s : State) : (cmdClose s).2.evaluator = s.evaluator := by
  unfold cmdClose
  (repeat' split) <;> simp

@[simp] theorem cmdOpen_evaluator (s : State) : (cmdOpen s).2.evaluator = s.evaluator := by
  unfold cmdOpen
  (repeat' split) <;> simp

@[simp] theorem cmdReadCapture_evaluator (p : List Byte) (s : State) : (cmdReadCapture p s).2.evaluator = s.evaluator := by
  unfold cmdReadCapture
  (repeat' split) <;> rfl

@[simp] theorem cmdSleep_evaluator (s : State) : (cmdSleep s).2.evaluator = s.evaluator := by
  unfold cmdSleep
  (repeat' split) <;> simp

@[simp] theorem cmdUpdateBegin_evaluator (p : List Byte) (s : State) : (cmdUpdateBegin p s).2.evaluator = s.evaluator := by
  unfold cmdUpdateBegin
  dsimp only
  split <;> rfl

@[simp] theorem cmdUpdateWindow_evaluator (p : List Byte) (s : State) : (cmdUpdateWindow p s).2.evaluator = s.evaluator := by
  unfold cmdUpdateWindow
  (repeat' split) <;> rfl

@[simp] theorem cmdUpdateWrite_evaluator (p : List Byte) (s : State) : (cmdUpdateWrite p s).2.evaluator = s.evaluator := by
  unfold cmdUpdateWrite
  (repeat' split) <;> rfl

@[simp] theorem cmdUpdateSeal_evaluator (p : List Byte) (s : State) : (cmdUpdateSeal p s).2.evaluator = s.evaluator := by
  unfold cmdUpdateSeal
  (repeat' split) <;> rfl

@[simp] theorem cmdUpdateActivate_evaluator (s : State) : (cmdUpdateActivate s).2.evaluator = s.evaluator := by
  unfold cmdUpdateActivate
  (repeat' split) <;> simp

@[simp] theorem cmdUpdateAbort_evaluator (s : State) : (cmdUpdateAbort s).2.evaluator = s.evaluator := by
  unfold cmdUpdateAbort
  split <;> simp

@[simp] theorem cmdLockFloor_evaluator (s : State) : (cmdLockFloor s).2.evaluator = s.evaluator := by
  unfold cmdLockFloor
  (repeat' split) <;> rfl

@[simp] theorem cmdClearTamper_evaluator (s : State) : (cmdClearTamper s).2.evaluator = s.evaluator := by
  unfold cmdClearTamper
  (repeat' split) <;> rfl

@[simp] theorem cmdReadTable_evaluator (p : List Byte) (s : State) : (cmdReadTable p s).2.evaluator = s.evaluator := by
  unfold cmdReadTable
  (repeat' split) <;> rfl

/-- Every command but SWEEP-START, with which a sweep may begin, leaves the record as it is. -/
theorem commandOf_pack {code : Byte} (hc : code ≠ 0x06) (p : List Byte) (s : State) :
    (commandOf code p s).2.evaluator.pack = s.evaluator.pack := by
  generalize hcmd : commandOf code p = cmd
  unfold commandOf at hcmd
  split at hcmd <;> subst hcmd
  case h_6 hcode => exact absurd (BitVec.eq_of_toNat_eq hcode) hc
  all_goals simp [cmdIdentify, cmdSweepStop, cmdReadPack, cmdReadTrip, cmdUnknown]

theorem cmdSweepStart_unsensed {s : State} (hs : Unsensed s) : Unsensed (cmdSweepStart s).2 := by
  unfold cmdSweepStart
  split
  · exact hs
  split
  · exact hs
  split
  · exact hs
  split
  · exact hs
  · exact startEngine_unsensed hs

theorem commandOf_unsensed (code : Byte) (p : List Byte) {s : State} (hs : Unsensed s) : Unsensed (commandOf code p s).2 := by
  by_cases hc : code = 0x06
  · subst hc
    exact cmdSweepStart_unsensed hs
  · exact hs.of_pack (commandOf_pack hc p s)

theorem dispatch_unsensed {cmd : State → Reply × State} (hcmd : ∀ {s}, Unsensed s → Unsensed (cmd s).2) (code : Byte) {s : State}
    (hs : Unsensed s) : Unsensed (dispatch code cmd s) := by
  have ready : Unsensed (if code = 0x15 then acceptFrame s else closeWrite (acceptFrame s)) := .ite (hs.of_pack rfl) (hs.of_pack rfl)
  exact (hcmd ready).of_pack rfl

theorem manage_unsensed {cmd : State → Reply × State} (hcmd : ∀ {s}, Unsensed s → Unsensed (cmd s).2) (code : Byte) {s : State}
    (hs : Unsensed s) : Unsensed (manage code cmd s) := by
  have ended : Unsensed { s with link.exchange := none } := hs.of_pack rfl
  exact ended.ite (.ite (ended.of_pack rfl) (.ite (ended.of_pack rfl) (dispatch_unsensed hcmd code ended)))

/-- A row of the Controller Port is the MANAGE frame with its code and parameters, UNKNOWN_COMMAND apart, whose code may be any. -/
theorem exec_of_commandFrame {c : Instr} {code : Byte} {p : List Byte} (hc : commandFrame c = some (code, p))
    (known : ∀ k, c ≠ .unknownCommand k) (s : State) : exec c s = .next (manage code (commandOf code p) s) := by
  cases c with
  | unknownCommand k => exact absurd rfl (known k)
  | _ => cases hc <;> rfl

theorem exec_unsensed_of_commandFrame {c : Instr} {code : Byte} {p : List Byte} (hc : commandFrame c = some (code, p)) {s t : State}
    (hs : Unsensed s) (ht : exec c s = .next t) : Unsensed t := by
  by_cases known : ∀ k, c ≠ .unknownCommand k
  · cases (exec_of_commandFrame hc known s).symm.trans ht
    exact manage_unsensed (commandOf_unsensed code p) code hs
  · obtain ⟨k, hk⟩ := Classical.not_forall.1 known
    obtain rfl := Classical.not_not.1 hk
    cases ht
    exact manage_unsensed id k hs

/-! ### Events -/

theorem judgeFrame_unsensed (rx : List Byte) {s : State} (hs : Unsensed s) : Unsensed (judgeFrame rx s) := by
  unfold judgeFrame
  dsimp only
  split
  · exact hs
  · split
    · exact hs.of_pack rfl
    · unfold acceptedFrame
      split
      · exact hs.of_evaluator (by simp)
      · split
        · exact hs
        · exact dispatch_unsensed (commandOf_unsensed _ _) _ hs
    · exact hs

theorem exchangeEnd_unsensed (rx : List Byte) {s t : State} (hs : Unsensed s) (ht : exec (.exchangeEnd rx) s = .next t) : Unsensed t := by
  unfold exec execExchangeEnd at ht
  dsimp only at ht
  split at ht <;> cases ht
  · exact hs
  · exact hs.of_pack rfl
  · exact judgeFrame_unsensed rx (hs.of_pack rfl)

/-- Both resets load the machine with the fresh record. -/
theorem coldResets_unsensed {s t : State} (ht : exec .powerOnReset s = .next t ∨ exec .hardReset s = .next t) : Unsensed t := by
  rcases ht with ht | ht <;> cases ht
  · exact Unsensed.of_evaluator (s := coldState s) rfl (resetEnd_evaluator _)
  · exact Unsensed.of_evaluator (s := hardState s) rfl (resetEnd_evaluator _)

theorem answerReceived_unsensed (rx : List Byte) {s t : State}
    (noSense : ∀ k, s.chain.inFlight = some k → k.requester ≠ .capture ∧
      (k.requester = .sweep → k.frame.kind = 0x09 ∨ k.frame.kind = 0x0A))
    (hs : Unsensed s) (ht : exec (.answerReceived rx) s = .next t) : Unsensed t := by
  unfold exec execAnswerReceived at ht
  dsimp only at ht
  split at ht <;> cases ht
  next k p f received hk _ =>
    obtain ⟨notCapture, reads⟩ := noSense k (inFlight_of_awaiting hk)
    refine finish_unsensed (.inr ⟨notCapture, fun hq => ?_⟩) p hs
    rcases reads hq with hkind | hkind <;> rw [hkind] <;> decide
  · exact hs

theorem responseWindowClose_unsensed (begun : Bool) {s t : State} (hs : Unsensed s)
    (ht : exec (.responseWindowClose begun) s = .next t) : Unsensed t := by
  unfold exec execResponseWindowClose at ht
  dsimp only at ht
  split at ht <;> cases ht
  · exact finish_unsensed (.inl (by cases begun <;> rfl)) _ hs
  · exact hs

theorem answerLengthBad_unsensed (length : Byte) {s t : State} (hs : Unsensed s)
    (ht : exec (.answerLengthBad length) s = .next t) : Unsensed t := by
  unfold exec execAnswerLengthBad at ht
  dsimp only at ht
  split at ht <;> cases ht
  · exact (finish_unsensed (.inl rfl) _ hs).ite hs
  · exact hs

theorem broadcastSent_evaluator {s t : State} (ht : exec .broadcastSent s = .next t) : t.evaluator = s.evaluator := by
  unfold exec execBroadcastSent at ht
  dsimp only at ht
  (repeat' split at ht) <;> cases ht <;> simp

theorem verifyEnd_evaluator {s t : State} (ht : exec .verifyEnd s = .next t) : t.evaluator = s.evaluator := by
  unfold exec execVerifyEnd at ht
  dsimp only at ht
  split at ht <;> cases ht <;> simp

theorem commitEnd_pack (readBack : Bool) {s t : State} (ht : exec (.commitEnd readBack) s = .next t) :
    t.evaluator.pack = s.evaluator.pack := by
  unfold exec execCommitEnd at ht
  dsimp only at ht
  split at ht <;> cases ht <;> simp

/-- Every command but a SENSE answer of the sweep or of a capture leaves the fresh record (R69, R75). -/
theorem exec_unsensed {c : Instr} {s t : State}
    (noSense : ∀ rx k, c = .answerReceived rx → s.chain.inFlight = some k → k.requester ≠ .capture ∧
      (k.requester = .sweep → k.frame.kind = 0x09 ∨ k.frame.kind = 0x0A))
    (hs : Unsensed s) (ht : exec c s = .next t) : Unsensed t := by
  cases c with
  | unknownCommand | identify | readStatus | readEvents | setEvents | hubReset | sweepStart | sweepStop | chainGate | enumerate
  | setProfile | readSamples | readPack | readTrip | clearTrip | closeContactors | openContactors | readCapture | sleep | updateBegin
  | updateWindow | updateWrite | updateSeal | updateActivate | updateAbort | lockFloor | clearTamper | readTable =>
    exact exec_unsensed_of_commandFrame rfl hs ht
  | exchangeEnd rx => exact exchangeEnd_unsensed rx hs ht
  | powerOnReset => exact coldResets_unsensed (.inl ht)
  | hardReset => exact coldResets_unsensed (.inr ht)
  | answerReceived rx => exact answerReceived_unsensed rx (fun k => noSense rx k rfl) hs ht
  | responseWindowClose begun => exact responseWindowClose_unsensed begun hs ht
  | answerLengthBad length => exact answerLengthBad_unsensed length hs ht
  | broadcastSent => exact hs.of_evaluator (broadcastSent_evaluator ht)
  | verifyEnd => exact hs.of_evaluator (verifyEnd_evaluator ht)
  | commitEnd readBack => exact hs.of_pack (commitEnd_pack readBack ht)
  | syncIn => cases ht; exact (syncEdge_unsensed hs).ite hs
  | syncWaitExpiry => cases ht; exact (syncLost_unsensed hs).ite hs
  | sweepEnd => cases ht; exact ((endSweep_unsensed hs).of_evaluator (arbitrate_evaluator _)).ite hs
  | exchangeBegin => cases ht; exact hs.ite (.ite (hs.of_evaluator (by simp)) (hs.of_evaluator (by simp)))
  | linkWake => cases ht; exact hs.ite (hs.of_evaluator (by simp))
  | tamperIn => cases ht; exact hs.ite (hs.of_evaluator (by simp))
  | wakeIn | noticeAdmitted | strayFrame | tamperInDeasserted => cases ht; exact hs.of_evaluator (by simp)
  | slotDue | quietWindowStart | deferredSlotsDue | captureStepDue | endedContextLeaves | feedbackDebounced | prechargeTimeout
  | deferTimerExpiry | dwellTimerExpiry | weldTimerExpiry | disagreementTimerExpiry | silenceTimerExpiry | drainComplete
  | drainTimerExpiry | watchTimerExpiry | chainSettleEnd | oscillatorStarted =>
    cases ht
    exact .ite (hs.of_evaluator (by simp)) hs

/-! ### READ-PACK -/

/-- The record's bytes with the origin bit written out (R209, 10.2). -/
theorem packBytes_eq (r : PackSense) :
    packBytes r =
      halfBytes r.vPack ++ halfBytes r.vLink ++ halfBytes r.iPack ++
        [r.trigger, if r.fromCapture then 1 else 0, r.status.code] ++ r.stamp.bytes := rfl

theorem exec_readPack_of_accepting {s : State} (h : Accepting s) :
    exec .readPack s = .next (replied 0x0C (.done (packBytes s.evaluator.pack) false) (closed s)) :=
  congrArg Host.Outcome.next (manage_eq_replied h (by decide) cmdReadPack)

/-- Settles O15: READ-PACK by its dispatch on the closed state, the resets by the state they load, and the rest by what each command
leaves of a record without an answer. -/
theorem readPackReplies : Obligations.ReadPackReplies :=
  ⟨fun _ h => by rw [exec_readPack_of_accepting h, packBytes_eq],
    fun _ _ ht => coldResets_unsensed ht,
    fun _ _ _ noSense hs ht => exec_unsensed noSense hs ht⟩

end Sys2Proof.Machine
end

section
/-! UPDATE-ABORT (R180), by the update state on which the command acts. -/

namespace Sys2Proof.Machine

/-- A check passes, and so do those behind it. -/
theorem ite_some_eq_none_iff {c : Prop} [Decidable c] {r : Reason} {rest : Option Reason} :
    (if c then some r else rest) = none ↔ ¬ c ∧ rest = none := by
  split <;> simp [*]

/-- With a set and a generation given, UPDATE-BEGIN meets none of its checks (R164). -/
theorem beginRefusal_eq_none_iff (set : Byte) (generation : Word) (s : State) :
    beginRefusal (some set) (some generation) s = none ↔
      s.update.mismatches ≠ 3 ∧ s.update.tamperLatch = false ∧ (live s).generation.toNat < generation.toNat ∧
        (holds set .floor = true → s.update.floorLock = false) ∧ s.update.state = .idle ∧ set ≠ 0 := by
  simp only [beginRefusal, ite_some_eq_none_iff]
  simp

/-- What is left of an update that is discarded with ABORTED (R180). -/
theorem abortedUpdate_eq (s : State) :
    setResult .aborted (dropUpdate (closed s)) =
      { closed s with
        update :=
          { s.update with
            state := .idle, stage := none, window := none, openWrite := none, tag := none, target := none, commit := none
            commitTampered := false, lastResult := .aborted, rejected := none } } := rfl

theorem exec_updateAbort_of_accepting {s : State} (h : Accepting s) :
    exec .updateAbort s = .next (replied 0x18 (cmdUpdateAbort (closed s)).1 (cmdUpdateAbort (closed s)).2) :=
  congrArg Host.Outcome.next (manage_eq_replied h (by decide) cmdUpdateAbort)

theorem exec_updateAbort_of_staged {s : State} (h : Accepting s)
    (hs : s.update.state = .staging ∨ s.update.state = .verifying ∨ s.update.state = .sealed) :
    exec .updateAbort s = .next (replied 0x18 .ok (setResult .aborted (dropUpdate (closed s)))) := by
  rw [exec_updateAbort_of_accepting h]
  rcases hs with hs | hs | hs <;> simp [cmdUpdateAbort, hs]

/-- Settles O50: an aborted update is IDLE and keeps its mismatch counter, tamper latch, floor lock and live image, which is all that
UPDATE-BEGIN asks about. -/
theorem abortDiscardsTheUpdate : Obligations.AbortDiscardsTheUpdate := by
  intro s h
  refine ⟨fun hi => ?_, fun hs => ?_, fun hc => ?_, fun hl => ?_, fun t set generation hs ht hm hlatch hg hset hf => ?_⟩
  · simp [exec_updateAbort_of_accepting h, cmdUpdateAbort, hi]
  · rw [exec_updateAbort_of_staged h hs, abortedUpdate_eq]
  · rw [exec_updateAbort_of_accepting h]
    rcases hc with hc | hc <;> simp [cmdUpdateAbort, hc]
  · simp [exec_updateAbort_of_accepting h, cmdUpdateAbort, hl]
  · cases (exec_updateAbort_of_staged h hs).symm.trans ht
    exact (beginRefusal_eq_none_iff _ _ _).2 ⟨Nat.ne_of_lt hm, hlatch, hg, fun h => hf.resolve_left (by simp [h]), rfl, hset⟩

end Sys2Proof.Machine
end

section
/-! The floor lock (R183). `floorFits` reads the Table Store and the Update Engine alone, and there the slots, the live image, the commit
with its target, whether the update is ARMED, whether its table set holds FLOOR, and the lock. A command keeps it because it leaves all of
this, or discards the update, or begins one, or loads the slots; the end of a commit and the swap of an ARMED image also rest on the order
of the generations. -/

namespace Sys2Proof.Machine

/-! ### What `floorFits` says -/

theorem loadFits_of_armed {s : State} (h : s.update.state = .armed) :
    loadFits s = true ↔ s.update.commit = some (loadImage s.tables).1 := by
  unfold loadFits
  cases s.update.commit <;> simp [h, eq_comm (b := (loadImage s.tables).1)]

theorem loadFits_of_not_armed {s : State} (h : s.update.state ≠ .armed) :
    loadFits s = true ↔ loadImage s.tables = (live s, s.tables.liveSlot) := by
  unfold loadFits
  cases hs : s.update.state <;> simp_all [Prod.ext_iff, live]

theorem targetFits_iff (s : State) :
    targetFits s = true ↔ ∀ id, s.update.target = some id → id = commitTarget s.tables.liveSlot := by
  unfold targetFits
  cases s.update.target <;> simp

/-- The FLOOR table of a commit is the live one, unless the table set holds FLOOR (R177). -/
def CommitKeepsFloor (s : State) : Prop :=
  ∀ i, s.update.commit = some i → updateHolds .floor s = true ∨ i.floor = (live s).floor

theorem floorFits_iff (s : State) :
    floorFits s = true ↔
      loadFits s = true ∧ targetFits s = true ∧ (s.update.floorLock = true → updateHolds .floor s = false) ∧ CommitKeepsFloor s := by
  unfold floorFits CommitKeepsFloor live
  cases s.update.commit <;> cases s.update.floorLock <;> simp [and_assoc]

/-! ### What `generationsFit` says -/

/-- In IDLE there is no stage (R163). -/
theorem stage_of_idle {s : State} (h : generationsFit s = true) (hs : s.update.state = .idle) : s.update.stage = none := by
  simp only [generationsFit, Bool.and_eq_true] at h
  simpa [stageFits, hs] using h.2

/-- A commit is newer than the live image (R164, R177). -/
theorem commit_newer {s : State} {img : Image} (h : generationsFit s = true) (hc : s.update.commit = some img) :
    (live s).generation.toNat < img.generation.toNat := by
  simp only [generationsFit, Bool.and_eq_true] at h
  obtain ⟨⟨⟨⟨-, hnewer⟩, hcommit⟩, -⟩, -⟩ := h
  cases hg : s.update.stage with
  | none => simp [commitFits, hc, hg] at hcommit
  | some g =>
    simp only [commitFits, hc, hg, Bool.and_eq_true, beq_iff_eq] at hcommit
    simpa [stageNewer, hg, hcommit.1] using hnewer

/-- The live slot holds an image of the live generation (R160, R161). -/
theorem slotOf_live {s : State} {id : SlotId} (h : generationsFit s = true) (hl : s.tables.liveSlot = some id) :
    ∃ img, slotOf s id = some img ∧ img.generation.toNat = (live s).generation.toNat := by
  simp only [generationsFit, Bool.and_eq_true] at h
  obtain ⟨⟨⟨⟨hlive, -⟩, -⟩, -⟩, -⟩ := h
  cases hi : slotOf s id <;> simp_all [liveSlotFits, slotGeneration]

/-- In ARMED the commit stands in the target slot (R177). -/
theorem slotOf_armed {s : State} (h : generationsFit s = true) (hs : s.update.state = .armed) :
    ∃ id, s.update.target = some id ∧ slotOf s id = s.update.commit := by
  simp only [generationsFit, Bool.and_eq_true] at h
  obtain ⟨⟨-, harmed⟩, -⟩ := h
  cases ht : s.update.target <;> cases hc : s.update.commit <;> simp_all [armedFits]

/-! ### Keeping the lock, and FLOOR under it -/

/-- From `s` to `t` a set floor lock stays set, `floorFits` is kept, and with it and the lock the FLOOR table of the live image (R183). -/
structure FloorKept (s t : State) : Prop where
  lock : s.update.floorLock = true → t.update.floorLock = true
  fits : floorFits s = true → floorFits t = true
  floor : floorFits s = true → s.update.floorLock = true → (live t).floor = (live s).floor

theorem FloorKept.refl (s : State) : FloorKept s s := ⟨id, id, fun _ _ => rfl⟩

theorem FloorKept.trans {s t u : State} (h : FloorKept s t) (k : FloorKept t u) : FloorKept s u where
  lock hl := k.lock (h.lock hl)
  fits hf := k.fits (h.fits hf)
  floor hf hl := (k.floor (h.fits hf) (h.lock hl)).trans (h.floor hf hl)

/-- All that `floorFits` reads is as before. -/
structure SameFloorFacts (s t : State) : Prop where
  tables : t.tables = s.tables
  target : t.update.target = s.update.target
  commit : t.update.commit = s.update.commit
  lock : t.update.floorLock = s.update.floorLock
  holds : updateHolds .floor t = updateHolds .floor s
  armed : t.update.state = .armed ↔ s.update.state = .armed

theorem loadFits_congr {s t : State} (h : SameFloorFacts s t) : loadFits t = loadFits s := by
  rw [Bool.eq_iff_iff]
  by_cases ha : s.update.state = .armed
  · rw [loadFits_of_armed ha, loadFits_of_armed (h.armed.2 ha), h.tables, h.commit]
  · rw [loadFits_of_not_armed ha, loadFits_of_not_armed (mt h.armed.1 ha), live, live, h.tables]

theorem floorFits_congr {s t : State} (h : SameFloorFacts s t) : floorFits t = floorFits s := by
  rw [Bool.eq_iff_iff, floorFits_iff, floorFits_iff, loadFits_congr h, targetFits_iff, targetFits_iff, CommitKeepsFloor,
    CommitKeepsFloor, live, live, h.tables, h.target, h.commit, h.lock, h.holds]

theorem FloorKept.of_same {s t : State} (h : SameFloorFacts s t) : FloorKept s t where
  lock hl := h.lock.trans hl
  fits hf := (floorFits_congr h).trans hf
  floor _ _ := by rw [live, live, h.tables]

/-- Neither the Table Store nor the Update Engine is touched. -/
theorem FloorKept.of_untouched {s t : State} (ht : t.tables = s.tables) (hu : t.update = s.update) : FloorKept s t :=
  .of_same
    { tables := ht
      target := by rw [hu]
      commit := by rw [hu]
      lock := by rw [hu]
      holds := by rw [updateHolds, updateHolds, hu]
      armed := by rw [hu] }

/-- No update is in progress, or none that has reached its commit, and the loads give the live image. -/
theorem floorFits_of_no_commit {t : State} (hload : loadFits t = true) (htarget : t.update.target = none) (hcommit : t.update.commit = none)
    (hfree : t.update.floorLock = true → updateHolds .floor t = false) : floorFits t = true := by
  refine (floorFits_iff t).2 ⟨hload, (targetFits_iff t).2 fun id h => ?_, hfree, fun i h => ?_⟩
  · cases htarget.symm.trans h
  · cases hcommit.symm.trans h

/-- An update that is not ARMED is discarded: the slots and the live image stay. -/
theorem FloorKept.of_discarded {s t : State} (hs : s.update.state ≠ .armed) (ht : t.tables = s.tables) (htarget : t.update.target = none)
    (hcommit : t.update.commit = none) (hstage : t.update.stage = none) (hstate : t.update.state ≠ .armed)
    (hlock : t.update.floorLock = s.update.floorLock) : FloorKept s t where
  lock hl := hlock.trans hl
  floor _ _ := by rw [live, live, ht]
  fits hf := by
    have hload := ((floorFits_iff s).1 hf).1
    refine floorFits_of_no_commit ?_ htarget hcommit fun _ => by rw [updateHolds, hstage]
    rw [loadFits_of_not_armed hs] at hload
    rwa [loadFits_of_not_armed hstate, live, ht]

theorem FloorKept.ite {s t u : State} {c : Prop} [Decidable c] (ht : FloorKept s t) (hu : FloorKept s u) :
    FloorKept s (if c then t else u) := by
  split
  · exact ht
  · exact hu

theorem dropUpdate_floorKept {s : State} (h : s.update.state ≠ .armed) : FloorKept s (dropUpdate s) :=
  .of_discarded h rfl rfl rfl rfl (by simp [dropUpdate, discardStage]) rfl

theorem setResult_floorKept (r : UpdateResult) (s : State) : FloorKept s (setResult r s) := .of_same ⟨rfl, rfl, rfl, rfl, rfl, .rfl⟩

theorem reportUpdate_floorKept (r : UpdateResult) (s : State) : FloorKept s (reportUpdate r s) :=
  (setResult_floorKept r s).trans (.of_untouched (by simp [reportUpdate]) (by simp [reportUpdate]))

/-! ### Tamper (R181) -/

theorem tamperUpdate_floorKept (s : State) : FloorKept s (tamperUpdate s) := by
  have dropped (h : s.update.state ≠ .armed) : FloorKept s (reportUpdate .abortedTamper (dropUpdate s)) :=
    (dropUpdate_floorKept h).trans (reportUpdate_floorKept _ _)
  unfold tamperUpdate
  split
  · exact .refl s
  · exact .refl s
  · exact .refl s
  next h => exact dropped (by simp [h])
  next h => exact dropped (by simp [h])
  next h => exact dropped (by simp [h])
  · exact .of_same ⟨rfl, rfl, rfl, rfl, rfl, .rfl⟩

theorem tamperAsserted_floorKept (s : State) : FloorKept s (tamperAsserted s) := by
  have latched : FloorKept s { s with update.tamperReading := true, update.tamperLatch := true } :=
    .of_same ⟨rfl, rfl, rfl, rfl, rfl, .rfl⟩
  refine latched.trans (.trans (.of_untouched ?_ ?_) (tamperUpdate_floorKept _)) <;> simp

theorem tamperAtReset_floorKept (s : State) : FloorKept s (tamperAtReset s) := (tamperAsserted_floorKept s).ite (.refl s)

/-! ### POWER-ON and HARD resets (R162, R185) -/

/-- Both resets load the slots as they stand. -/
theorem FloorKept.of_loaded {s t : State} (hstate : t.update.state ≠ .armed)
    (htables : t.tables = loadTables s.tables) (htarget : t.update.target = none) (hcommit : t.update.commit = none)
    (hstage : t.update.stage = none) (hlock : t.update.floorLock = s.update.floorLock) : FloorKept s t where
  lock hl := hlock.trans hl
  fits _ := by
    refine floorFits_of_no_commit ?_ htarget hcommit fun _ => by rw [updateHolds, hstage]
    rw [loadFits_of_not_armed hstate, live, htables]
    rfl
  floor hf hl := by
    obtain ⟨hload, -, hfree, hcommits⟩ := (floorFits_iff s).1 hf
    have loaded : live t = (loadImage s.tables).1 := by rw [live, htables]; rfl
    by_cases ha : s.update.state = .armed
    · rw [loaded]
      exact (hcommits _ ((loadFits_of_armed ha).1 hload)).resolve_left (by simp [hfree hl])
    · rw [loaded, (loadFits_of_not_armed ha).1 hload]

theorem resetEnd_floorKept (s : State) : FloorKept s (resetEnd s) :=
  .trans (.of_untouched (arbitrate_tables s) (arbitrate_update s)) (tamperAtReset_floorKept (arbitrate s))

theorem coldState_floorKept (s : State) : FloorKept s (coldState s) :=
  .of_loaded (by simp [coldState, State.unstarted]) rfl rfl rfl rfl rfl

theorem hardState_floorKept (s : State) : FloorKept s (hardState s) :=
  .of_loaded (by unfold hardState; dsimp only; split <;> simp) rfl rfl rfl rfl rfl

/-! ### The commands of the update protocol -/

/-- UPDATE-BEGIN leaves the state as it is, or makes a stage for a set that passed its checks. -/
theorem cmdUpdateBegin_cases (p : List Byte) (s : State) :
    (cmdUpdateBegin p s).2 = s ∨
      ∃ b g, beginRefusal (some b) (some g) s = none ∧
        (cmdUpdateBegin p s).2 =
          { s with update.state := .staging, update.stage := some { image := { live s with generation := g }, set := b } } := by
  unfold cmdUpdateBegin
  dsimp only
  split
  · exact .inl rfl
  next b g hpass hset hgeneration =>
    rw [hset, hgeneration] at hpass
    exact .inr ⟨b, g, hpass, rfl⟩
  · exact .inl rfl

theorem updateHolds_of_stage_none {s : State} (h : s.update.stage = none) (t : Table) : updateHolds t s = false := by
  simp [updateHolds, h]

theorem cmdUpdateBegin_floorKept {s : State} (hg : generationsFit s = true) (p : List Byte) : FloorKept s (cmdUpdateBegin p s).2 := by
  rcases cmdUpdateBegin_cases p s with h | ⟨b, g, hpass, h⟩
  · rw [h]
    exact .refl s
  rw [h]
  obtain ⟨-, -, -, unlocked, idle, -⟩ := (beginRefusal_eq_none_iff b g s).1 hpass
  refine ⟨id, fun hf => ?_, fun _ _ => rfl⟩
  obtain ⟨hload, htarget, -, hcommits⟩ := (floorFits_iff s).1 hf
  rw [loadFits_of_not_armed (by simp [idle])] at hload
  refine (floorFits_iff _).2 ⟨(loadFits_of_not_armed (by simp)).2 hload, htarget, fun hl => ?_, fun i hi => .inr ?_⟩
  · exact Bool.eq_false_iff.2 fun hh => Bool.false_ne_true ((unlocked hh).symm.trans hl)
  · exact (hcommits i hi).resolve_left (by simp [updateHolds_of_stage_none (stage_of_idle hg idle)])

theorem cmdUpdateWindow_floorKept (p : List Byte) (s : State) : FloorKept s (cmdUpdateWindow p s).2 := by
  unfold cmdUpdateWindow
  (repeat' split) <;> exact .of_same ⟨rfl, rfl, rfl, rfl, rfl, .rfl⟩

/-- An UPDATE-WRITE changes entries of the stage and not its table set. -/
theorem cmdUpdateWrite_floorKept (p : List Byte) (s : State) : FloorKept s (cmdUpdateWrite p s).2 := by
  have refused (r : Reason) : FloorKept s (refuseWrite r s).2 := .of_same ⟨rfl, rfl, rfl, rfl, rfl, .rfl⟩
  have written {g : Stage} (hg : s.update.stage = some g) (w : Window) (o : OpenWrite) (entries : List (List Byte)) :
      FloorKept s (writeStage g w o entries s).2 :=
    .of_same ⟨rfl, rfl, rfl, rfl, by simp [updateHolds, hg, writeStage], .rfl⟩
  unfold cmdUpdateWrite
  split
  · exact refused _
  split
  next g _ hg =>
    split
    · exact refused _
    split
    · exact refused _
    split
    · split
      · exact written hg _ _ _
      · exact refused _
    · exact refused _
  · exact refused _

theorem cmdUpdateSeal_floorKept (p : List Byte) (s : State) : FloorKept s (cmdUpdateSeal p s).2 := by
  unfold cmdUpdateSeal
  split
  · exact .refl s
  split
  · exact .refl s
  split
  · exact .refl s
  next hs =>
    split
    · exact .refl s
    · exact .of_same ⟨rfl, rfl, rfl, rfl, rfl, by simp [Decidable.not_not.1 hs]⟩

theorem cmdUpdateAbort_floorKept (s : State) : FloorKept s (cmdUpdateAbort s).2 := by
  have dropped (h : s.update.state ≠ .armed) : FloorKept s (setResult .aborted (dropUpdate s)) :=
    (dropUpdate_floorKept h).trans (setResult_floorKept _ _)
  unfold cmdUpdateAbort
  split
  · exact .refl s
  next h => exact dropped (by simp [h])
  next h => exact dropped (by simp [h])
  next h => exact dropped (by simp [h])
  all_goals exact .refl s

/-- LOCK-FLOOR sets the lock while no update holds FLOOR, so that a commit in progress has the live FLOOR table (R183). -/
theorem cmdLockFloor_floorKept (s : State) : FloorKept s (cmdLockFloor s).2 := by
  unfold cmdLockFloor
  split
  · exact .refl s
  split
  · exact .refl s
  next hfree =>
    refine ⟨fun _ => rfl, fun hf => ?_, fun _ _ => rfl⟩
    obtain ⟨hload, htarget, -, hcommits⟩ := (floorFits_iff s).1 hf
    exact (floorFits_iff _).2 ⟨hload, htarget, fun _ => Bool.eq_false_iff.2 hfree, hcommits⟩

theorem cmdClearTamper_floorKept (s : State) : FloorKept s (cmdClearTamper s).2 := by
  unfold cmdClearTamper
  (repeat' split) <;> exact .of_same ⟨rfl, rfl, rfl, rfl, rfl, .rfl⟩

/-! ### The end of VERIFYING (R172 to R174) -/

theorem rejectStructure_floorKept {s : State} (h : s.update.state = .verifying) (t : Table) (i : Nat) :
    FloorKept s (rejectStructure t i s) := by
  have back : FloorKept s
      { s with
        update.state := .staging
        update.tag := none
        update.lastResult := .rejectedStructure
        update.rejected := some (t, i) } := .of_same ⟨rfl, rfl, rfl, rfl, rfl, by simp [h]⟩
  exact back.trans (.of_untouched (by simp [rejectStructure]) (by simp [rejectStructure]))

theorem sealStage_floorKept {s : State} (h : s.update.state = .verifying) : FloorKept s (sealStage s) :=
  .trans (t := { s with update.state := .sealed, update.mismatches := 0, update.tag := none })
    (.of_same ⟨rfl, rfl, rfl, rfl, rfl, by simp [h]⟩) (reportUpdate_floorKept .sealed _)

theorem rejectTag_floorKept {s : State} (h : s.update.state = .verifying) : FloorKept s (rejectTag s) := by
  have counted : FloorKept s { s with update.mismatches := min 3 (s.update.mismatches + 1), update.tag := none } :=
    .of_same ⟨rfl, rfl, rfl, rfl, rfl, .rfl⟩
  unfold rejectTag
  dsimp only
  refine counted.trans (.trans (.ite ?_ ?_) (reportUpdate_floorKept _ _))
  · exact .of_discarded (by simp [h]) rfl rfl rfl rfl (by simp [discardStage]) rfl
  · exact .of_same ⟨rfl, rfl, rfl, rfl, rfl, by simp [h]⟩

theorem verifyStage_floorKept {s : State} (h : s.update.state = .verifying) (g : Stage) (tag : Tag) :
    FloorKept s (verifyStage g tag s) := by
  unfold verifyStage
  split
  · exact rejectStructure_floorKept h _ _
  · exact .ite (sealStage_floorKept h) (rejectTag_floorKept h)

/-! ### The FLOOR table of a composed image (R177) -/

theorem withTable_floor {t : Table} (h : t ≠ .floor) (img src : Image) : (withTable img src t).floor = img.floor := by
  cases t with
  | floor => exact absurd rfl h
  | _ => rfl

/-- An image composed without FLOOR has the FLOOR table of the live one (R177). -/
theorem composeImage_floor {g : Stage} (h : holds g.set .floor = false) (img : Image) : (composeImage img g).floor = img.floor := by
  have kept (ts : List Table) (hts : .floor ∉ ts) (i : Image) : (ts.foldl (fun i t => withTable i g.image t) i).floor = i.floor := by
    induction ts generalizing i with
    | nil => rfl
    | cons t ts ih =>
      obtain ⟨ht, hts⟩ := not_or.1 (mt List.mem_cons.2 hts)
      rw [List.foldl_cons, ih hts, withTable_floor (Ne.symm ht)]
  exact kept _ (by simp [mem_tablesOf, h]) img

/-! ### What a load makes live (R162) -/

/-- Erasing the slot that is not live leaves what a load makes live (R176). -/
theorem loadImage_erase {s : State} (h : (loadImage s.tables).2 = s.tables.liveSlot) :
    loadImage (setSlot (commitTarget s.tables.liveSlot) none s).tables = loadImage s.tables := by
  rw [← h]
  cases ha : s.tables.slotA <;> cases hb : s.tables.slotB
  case some.some a b => by_cases hab : a.generation.toNat < b.generation.toNat <;> simp [loadImage, commitTarget, setSlot, ha, hb, hab]
  all_goals simp [loadImage, commitTarget, setSlot, ha, hb]

theorem loadImage_eq_slotA {t : TableStore} {a : Image} (ha : t.slotA = some a)
    (h : ∀ b, t.slotB = some b → b.generation.toNat ≤ a.generation.toNat) : loadImage t = (a, some .a) := by
  cases hb : t.slotB with
  | none => simp [loadImage, ha, hb]
  | some b => simp [loadImage, ha, hb, h b hb]

theorem loadImage_eq_slotB {t : TableStore} {b : Image} (hb : t.slotB = some b)
    (h : ∀ a, t.slotA = some a → a.generation.toNat < b.generation.toNat) : loadImage t = (b, some .b) := by
  cases ha : t.slotA with
  | none => simp [loadImage, ha, hb]
  | some a => simp [loadImage, ha, hb, h a ha]

/-- No slot is newer than the image that a load makes live (R162). -/
theorem loadImage_newest {t : TableStore} {x : Image} (h : t.slotA = some x ∨ t.slotB = some x) :
    x.generation.toNat ≤ (loadImage t).1.generation.toNat := by
  cases ha : t.slotA <;> cases hb : t.slotB <;> simp only [ha, hb, reduceCtorEq, Option.some.injEq, or_false, false_or] at h
  case none.some => simp [loadImage, ha, hb, h]
  case some.none => simp [loadImage, ha, hb, h]
  case some.some a b =>
    by_cases hab : a.generation.toNat < b.generation.toNat
    · rw [loadImage_eq_slotB hb (by simpa [ha] using hab)]
      rcases h with rfl | rfl
      · exact Nat.le_of_lt hab
      · exact Nat.le_refl _
    · rw [loadImage_eq_slotA ha (by simpa [hb] using hab)]
      rcases h with rfl | rfl
      · exact Nat.le_refl _
      · exact Nat.not_lt.1 hab

/-- A load makes live an image newer than the one it made live before, whichever slot it is written to (R162). -/
theorem loadImage_setSlot_newer {s : State} {img : Image}
    (hnew : (loadImage s.tables).1.generation.toNat < img.generation.toNat) (id : SlotId) :
    loadImage (setSlot id (some img) s).tables = (img, some id) := by
  cases id with
  | a => exact loadImage_eq_slotA rfl fun b hb => Nat.le_of_lt (Nat.lt_of_le_of_lt (loadImage_newest (t := s.tables) (.inr hb)) hnew)
  | b => exact loadImage_eq_slotB rfl fun a ha => Nat.lt_of_le_of_lt (loadImage_newest (t := s.tables) (.inl ha)) hnew

/-! ### The commit and the swap (R176, R177, R179) -/

@[simp] theorem setSlot_live (id : SlotId) (img : Option Image) (s : State) : (setSlot id img s).tables.live = s.tables.live := by
  cases id <;> rfl

@[simp] theorem setSlot_liveSlot (id : SlotId) (img : Option Image) (s : State) :
    (setSlot id img s).tables.liveSlot = s.tables.liveSlot := by cases id <;> rfl

@[simp] theorem beginCommit_update (g : Stage) (s : State) :
    (beginCommit g s).update =
      { s.update with
        state := .committing, target := some (commitTarget s.tables.liveSlot), commit := some (composeImage (live s) g)
        commitTampered := false } := by simp [beginCommit]

@[simp] theorem beginCommit_tables (g : Stage) (s : State) :
    (beginCommit g s).tables = (setSlot (commitTarget s.tables.liveSlot) none s).tables := by
  rw [beginCommit]
  cases commitTarget s.tables.liveSlot <;> rfl

theorem beginCommit_floorKept {s : State} {g : Stage} (hs : s.update.state = .sealed) (hg : s.update.stage = some g) :
    FloorKept s (beginCommit g s) := by
  have hlive : live (beginCommit g s) = live s := by simp [live]
  have hholds : updateHolds .floor (beginCommit g s) = holds g.set .floor := by simp [updateHolds, hg]
  refine ⟨fun hl => by simpa using hl, fun hf => ?_, fun _ _ => by rw [hlive]⟩
  obtain ⟨hload, -, hfree, -⟩ := (floorFits_iff s).1 hf
  rw [loadFits_of_not_armed (by simp [hs])] at hload
  refine (floorFits_iff _).2 ⟨?_, (targetFits_iff _).2 fun id h => ?_, fun hl => ?_, fun i h => ?_⟩
  · rw [loadFits_of_not_armed (by simp), beginCommit_tables, loadImage_erase (by rw [hload]), hload, hlive, setSlot_liveSlot]
  · simpa [eq_comm] using h
  · rw [hholds]
    simpa [updateHolds, hg] using hfree (by simpa using hl)
  · obtain rfl : composeImage (live s) g = i := by simpa using h
    rw [hholds, hlive]
    cases hh : holds g.set .floor
    · exact .inr (composeImage_floor hh _)
    · exact .inl rfl

theorem cmdUpdateActivate_floorKept (s : State) : FloorKept s (cmdUpdateActivate s).2 := by
  unfold cmdUpdateActivate
  split
  · exact .refl s
  split
  · exact .refl s
  split
  · exact .refl s
  split
  · exact .refl s
  split
  next g hs hg =>
    split
    · exact .refl s
    · exact beginCommit_floorKept hs hg
  · exact .refl s

/-- In ARMED a load makes the target slot live (R162, R177). -/
def ArmedLoads (s : State) : Prop := s.update.state = .armed → (loadImage s.tables).2 = s.update.target

/-- `swapImage` does nothing, or makes the commit live and ends the update (R179). -/
theorem swapImage_cases (s : State) :
    ((swapImage s).tables = s.tables ∧ (swapImage s).update = s.update) ∨
      ∃ img, s.update.state = .armed ∧ s.update.commit = some img ∧
        (swapImage s).tables = { s.tables with live := img, liveSlot := s.update.target } ∧
        (swapImage s).update =
          { s.update with
            state := .idle, stage := none, window := none, openWrite := none, tag := none, target := none, commit := none
            commitTampered := false, lastResult := .activated, rejected := none } := by
  unfold swapImage
  split
  next g img hs hg hc =>
    refine .inr ⟨img, hs, hc, ?_⟩
    dsimp only
    (repeat' split) <;> simp [discardStage, setResult]
  · exact .inl ⟨rfl, rfl⟩

theorem swapImage_floorKept {s : State} (h : ArmedLoads s) : FloorKept s (swapImage s) := by
  rcases swapImage_cases s with ⟨ht, hu⟩ | ⟨img, hs, hc, ht, hu⟩
  · exact .of_untouched ht hu
  have hlive : live (swapImage s) = img := by rw [live, ht]
  have hnot : (swapImage s).update.state ≠ .armed := by simp [hu]
  refine ⟨fun hl => by rw [hu]; exact hl, fun hf => ?_, fun hf hl => ?_⟩ <;>
    obtain ⟨hload, -, hfree, hcommits⟩ := (floorFits_iff s).1 hf
  · refine floorFits_of_no_commit ?_ (by rw [hu]) (by rw [hu]) fun _ => updateHolds_of_stage_none (by rw [hu]) _
    have loaded : loadImage s.tables = (img, s.update.target) :=
      Prod.ext (Option.some.inj (((loadFits_of_armed hs).1 hload).symm.trans hc)) (h hs)
    rw [loadFits_of_not_armed hnot, hlive, ht]
    exact loaded
  · rw [hlive]
    exact (hcommits img hc).resolve_left (by simp [hfree hl])

/-- A load in ARMED chooses the target slot, which holds the committed image, the one that a load makes live: of two equal slots it
takes slot A, and slot B is a target while slot A is live, whose generation the commit exceeds. -/
theorem armedLoads_of_fits {s : State} (hg : generationsFit s = true) (hf : floorFits s = true) : ArmedLoads s := by
  intro hs
  obtain ⟨hload, htarget, -, -⟩ := (floorFits_iff s).1 hf
  obtain ⟨id, hid, hslot⟩ := slotOf_armed hg hs
  have hcommit := (loadFits_of_armed hs).1 hload
  rw [hcommit] at hslot
  rw [hid]
  cases id with
  | a => exact congrArg Prod.snd (loadImage_eq_slotA hslot fun b hb => loadImage_newest (.inr hb))
  | b =>
    refine congrArg Prod.snd (loadImage_eq_slotB hslot fun a ha => ?_)
    have hlive : s.tables.liveSlot = some .a := by
      have aimed := (targetFits_iff s).1 htarget .b hid
      cases h : s.tables.liveSlot with
      | none => simp [h, commitTarget] at aimed
      | some live => cases live <;> simp [h, commitTarget] at aimed ⊢
    obtain ⟨old, hold, hgeneration⟩ := slotOf_live hg hlive
    cases hold.symm.trans ha
    exact hgeneration ▸ commit_newer hg hcommit

/-- The commit is written whole and marked: the update is ARMED (R177). -/
def armUpdate (target : SlotId) (img : Image) (s : State) : State := setSlot target (some img) { s with update.state := .armed }

@[simp] theorem armUpdate_update (target : SlotId) (img : Image) (s : State) :
    (armUpdate target img s).update = { s.update with state := .armed } := by simp [armUpdate]

@[simp] theorem armUpdate_tables (target : SlotId) (img : Image) (s : State) :
    (armUpdate target img s).tables = (setSlot target (some img) s).tables := by
  cases target <;> rfl

theorem endCommit_eq (readBack : Bool) (target : SlotId) (img : Image) (s : State) :
    endCommit readBack target img s =
      if s.update.commitTampered then reportUpdate .abortedTamper (dropUpdate s)
      else if readBack then
        if s.sweep.engine = .stopped then swapImage (armUpdate target img s) else armUpdate target img s
      else reportUpdate .commitFailed { s with update.state := .sealed, update.target := none, update.commit := none } := by
  simp [endCommit, armUpdate]

/-- Once ARMED the committed image is the one that a load makes live. -/
theorem loadImage_armUpdate {s : State} {target : SlotId} {img : Image} (hg : generationsFit s = true) (hf : floorFits s = true)
    (hs : s.update.state = .committing) (hc : s.update.commit = some img) :
    loadImage (armUpdate target img s).tables = (img, some target) := by
  obtain ⟨hload, -, -, -⟩ := (floorFits_iff s).1 hf
  rw [loadFits_of_not_armed (by simp [hs])] at hload
  rw [armUpdate_tables]
  exact loadImage_setSlot_newer (by rw [hload]; exact commit_newer hg hc) target

theorem armUpdate_floorKept {s : State} {target : SlotId} {img : Image} (hg : generationsFit s = true) (hf : floorFits s = true)
    (hs : s.update.state = .committing) (hc : s.update.commit = some img) :
    FloorKept s (armUpdate target img s) := by
  have hlive : live (armUpdate target img s) = live s := by simp [live]
  have hholds : updateHolds .floor (armUpdate target img s) = updateHolds .floor s := by simp [updateHolds]
  obtain ⟨-, htarget, hfree, hcommits⟩ := (floorFits_iff s).1 hf
  refine ⟨fun hl => by simpa using hl, fun _ => (floorFits_iff _).2 ⟨?_, ?_, fun hl => ?_, fun i hi => ?_⟩, fun _ _ => by rw [hlive]⟩
  · rw [loadFits_of_armed (by simp), loadImage_armUpdate hg hf hs hc]
    simpa using hc
  · rw [targetFits_iff] at htarget ⊢
    simpa using htarget
  · exact hholds.trans (hfree (by simpa using hl))
  · rw [hholds, hlive]
    exact hcommits i (by simpa using hi)

theorem endCommit_floorKept {s : State} {target : SlotId} {img : Image} (hg : generationsFit s = true) (hf : floorFits s = true)
    (hs : s.update.state = .committing) (ht : s.update.target = some target) (hc : s.update.commit = some img) (readBack : Bool) :
    FloorKept s (endCommit readBack target img s) := by
  have armed := armUpdate_floorKept (target := target) hg hf hs hc
  have loads : ArmedLoads (armUpdate target img s) := fun _ => by
    rw [loadImage_armUpdate hg hf hs hc]
    simp [ht]
  have hnot : s.update.state ≠ .armed := by simp [hs]
  have failed : FloorKept s { s with update.state := .sealed, update.target := none, update.commit := none } := by
    refine ⟨id, fun _ => ?_, fun _ _ => rfl⟩
    obtain ⟨hload, -, hfree, -⟩ := (floorFits_iff s).1 hf
    rw [loadFits_of_not_armed hnot] at hload
    exact floorFits_of_no_commit ((loadFits_of_not_armed (by simp)).2 hload) rfl rfl hfree
  rw [endCommit_eq]
  exact .ite ((dropUpdate_floorKept hnot).trans (reportUpdate_floorKept _ _))
    (.ite (.ite (armed.trans (swapImage_floorKept loads)) armed) (failed.trans (reportUpdate_floorKept _ _)))

/-! ### One command -/

/-- The two differ by the open UPDATE-WRITE at most, as far as the Table Store and the Update Engine go. -/
structure SameButWrite (s t : State) : Prop where
  tables : t.tables = s.tables
  update : ∃ w, t.update = { s.update with openWrite := w }

theorem SameButWrite.of_untouched {s t : State} (ht : t.tables = s.tables) (hu : t.update = s.update) : SameButWrite s t :=
  ⟨ht, s.update.openWrite, hu⟩

theorem SameButWrite.floorKept {s t : State} (h : SameButWrite s t) : FloorKept s t := by
  obtain ⟨ht, w, hu⟩ := h
  exact .of_same ⟨ht, by rw [hu], by rw [hu], by rw [hu], by rw [updateHolds, updateHolds, hu], by rw [hu]⟩

theorem SameButWrite.generationsFit {s t : State} (h : SameButWrite s t) (hg : generationsFit s = true) : generationsFit t = true := by
  obtain ⟨ht, w, hu⟩ := h
  cases s
  cases t
  cases ht
  cases hu
  exact hg

/-- One step: the lock stays set, and from a fitting state `floorFits` and, under the lock, FLOOR are kept (R183). -/
structure FloorStep (s t : State) : Prop where
  lock : s.update.floorLock = true → t.update.floorLock = true
  kept : generationsFit s = true → floorFits s = true → FloorKept s t

theorem FloorKept.step {s t : State} (h : FloorKept s t) : FloorStep s t := ⟨h.lock, fun _ _ => h⟩

theorem FloorStep.of_untouched {s t : State} (ht : t.tables = s.tables) (hu : t.update = s.update) : FloorStep s t :=
  (FloorKept.of_untouched ht hu).step

theorem FloorStep.trans_kept {s t u : State} (h : FloorStep s t) (k : FloorKept t u) : FloorStep s u :=
  ⟨fun hl => k.lock (h.lock hl), fun hg hf => (h.kept hg hf).trans k⟩

theorem FloorStep.of_same {s t u : State} (h : SameButWrite s t) (k : FloorStep t u) : FloorStep s u :=
  ⟨fun hl => k.lock (h.floorKept.lock hl),
    fun hg hf => h.floorKept.trans (k.kept (h.generationsFit hg) (h.floorKept.fits hf))⟩

theorem FloorStep.ite {s t u : State} {c : Prop} [Decidable c] (ht : FloorStep s t) (hu : FloorStep s u) :
    FloorStep s (if c then t else u) := by
  split
  · exact ht
  · exact hu

theorem swapImage_floorStep (s : State) : FloorStep s (swapImage s) where
  lock hl := by rcases swapImage_cases s with ⟨-, hu⟩ | ⟨-, -, -, -, hu⟩ <;> rw [hu] <;> exact hl
  kept hg hf := swapImage_floorKept (armedLoads_of_fits hg hf)

theorem cmdUpdateBegin_floorStep (p : List Byte) (s : State) : FloorStep s (cmdUpdateBegin p s).2 where
  lock hl := by rcases cmdUpdateBegin_cases p s with h | ⟨b, g, -, h⟩ <;> rw [h] <;> exact hl
  kept hg _ := cmdUpdateBegin_floorKept hg p

theorem endCommit_lock (readBack : Bool) (target : SlotId) (img : Image) (s : State) (hl : s.update.floorLock = true) :
    (endCommit readBack target img s).update.floorLock = true := by
  have armed : (armUpdate target img s).update.floorLock = true := by simpa using hl
  rw [endCommit_eq]
  (repeat' split)
  · exact (reportUpdate_floorKept _ _).lock hl
  · exact (swapImage_floorStep _).lock armed
  · exact armed
  · exact (reportUpdate_floorKept _ _).lock hl

/-! ### The boundaries of the Sweep Engine -/

theorem applyPending_floorStep (s : State) : FloorStep s (applyPending s) :=
  (swapImage_floorStep s).trans_kept (.of_untouched (by simp [applyPending]) (by simp [applyPending]))

theorem switchPoint_same (s : State) : SameButWrite s (switchPoint s) := .of_untouched (by simp) (by simp)

theorem pendingThenOffer_floorStep (s : State) : FloorStep s (pendingThenOffer s) := by
  have offered (u : State) : FloorStep u (switchPoint (applyPending u)) :=
    (applyPending_floorStep u).trans_kept (switchPoint_same _).floorKept
  have chosen : SameButWrite s (takeChoice s).2 := .of_untouched (by simp) (by simp)
  unfold pendingThenOffer
  dsimp only
  exact .ite (.of_same chosen (.ite (.of_same (switchPoint_same _) (applyPending_floorStep _)) (offered _))) (offered s)

theorem enterStopped_floorStep (s : State) : FloorStep s (enterStopped s) :=
  .of_same (t := { s with sweep.engine := .stopped }) (.of_untouched rfl rfl) (pendingThenOffer_floorStep _)

theorem atBoundary_floorStep (s : State) : FloorStep s (atBoundary s) :=
  .ite (pendingThenOffer_floorStep s) (applyPending_floorStep s)

theorem beginSweep_floorStep (lost : Bool) (s : State) : FloorStep s (beginSweep lost s) :=
  (atBoundary_floorStep s).trans_kept (.ite (.of_untouched rfl rfl) (.of_untouched (by simp) (by simp)))

theorem endSweep_floorStep (s : State) : FloorStep s (endSweep s) := by
  have ended : SameButWrite s (completeRecord (sumCheck (abandonWork s))) := .of_untouched (by simp) (by simp)
  refine .of_same ended (.ite (enterStopped_floorStep _) (.ite ?_ (beginSweep_floorStep false _)))
  exact .of_untouched (by simp) (by simp)

theorem arbitrate_floorKept (s : State) : FloorKept s (arbitrate s) := .of_untouched (by simp) (by simp)

theorem startEngine_floorStep (s : State) : FloorStep s (startEngine s) := by
  unfold startEngine
  split
  · exact .ite (.of_untouched (by simp) (by simp)) ((beginSweep_floorStep false s).trans_kept (arbitrate_floorKept _))
  · exact .of_untouched rfl rfl
  · exact (FloorKept.refl s).step
  · exact (FloorKept.refl s).step

theorem stopEngine_floorStep (s : State) : FloorStep s (stopEngine s) := by
  unfold stopEngine
  split
  · exact .of_untouched rfl rfl
  · exact (enterStopped_floorStep s).trans_kept (arbitrate_floorKept _)
  · exact (FloorKept.refl s).step
  · exact (FloorKept.refl s).step

theorem syncEdge_floorStep (s : State) : FloorStep s (syncEdge s) :=
  (beginSweep_floorStep false s).trans_kept (.of_untouched (by simp [syncEdge]) (by simp [syncEdge]))

theorem syncLost_floorStep (s : State) : FloorStep s (syncLost s) := by
  refine (beginSweep_floorStep true s).trans_kept (.trans (.ite ?_ (.refl _)) (arbitrate_floorKept _))
  exact .of_untouched (by simp) (by simp)

/-! ### The DIRECTED reset (R186, R204) -/

theorem directedUpdate_floorKept (s : State) : FloorKept s (directedUpdate s) := by
  unfold directedUpdate
  split
  next h => exact dropUpdate_floorKept (by simp [h])
  next h => exact dropUpdate_floorKept (by simp [h])
  next h => exact dropUpdate_floorKept (by simp [h])
  next h => exact dropUpdate_floorKept (by simp [h])
  all_goals exact .refl s

theorem directedReset_floorStep (s : State) : FloorStep s (directedReset s) := by
  refine ((swapImage_floorStep s).trans_kept (directedUpdate_floorKept _)).trans_kept
    (.trans (.of_untouched ?_ ?_) (tamperAtReset_floorKept _)) <;> simp

/-! ### Management commands -/

theorem cmdHubReset_floorStep (s : State) : FloorStep s (cmdHubReset s).2 := by
  unfold cmdHubReset
  split
  · exact directedReset_floorStep s
  · exact (FloorKept.refl s).step

theorem cmdSweepStart_floorStep (s : State) : FloorStep s (cmdSweepStart s).2 := by
  unfold cmdSweepStart
  (repeat' split)
  case isFalse => exact startEngine_floorStep s
  all_goals exact (FloorKept.refl s).step

/-- Beside the commands of the update protocol, HUB-RESET, SWEEP-START and SWEEP-STOP may swap an ARMED image; the others touch neither
the Table Store nor the Update Engine. -/
theorem commandOf_floorStep (code : Byte) (p : List Byte) (s : State) : FloorStep s (commandOf code p s).2 := by
  generalize hcmd : commandOf code p = cmd
  unfold commandOf at hcmd
  split at hcmd <;> subst hcmd
  case h_5 => exact cmdHubReset_floorStep s
  case h_6 => exact cmdSweepStart_floorStep s
  case h_7 => exact stopEngine_floorStep s
  case h_19 => exact cmdUpdateBegin_floorStep p s
  case h_20 => exact (cmdUpdateWindow_floorKept p s).step
  case h_21 => exact (cmdUpdateWrite_floorKept p s).step
  case h_22 => exact (cmdUpdateSeal_floorKept p s).step
  case h_23 => exact (cmdUpdateActivate_floorKept s).step
  case h_24 => exact (cmdUpdateAbort_floorKept s).step
  case h_25 => exact (cmdLockFloor_floorKept s).step
  case h_26 => exact (cmdClearTamper_floorKept s).step
  all_goals
    simp only [cmdIdentify, cmdReadStatus, cmdReadEvents, cmdSetEvents, cmdChainGate, cmdEnumerate, cmdSetProfile, cmdReadSamples,
      cmdReadPack, cmdReadTrip, cmdClearTrip, cmdClose, cmdOpen, cmdReadCapture, cmdSleep, cmdReadTable, cmdUnknown]
    (repeat' split) <;> exact .of_untouched (by simp) (by simp)

theorem dispatch_floorStep {cmd : State → Reply × State} (hcmd : ∀ s, FloorStep s (cmd s).2) (code : Byte) (s : State) :
    FloorStep s (dispatch code cmd s) := by
  have ready : SameButWrite s (if code = 0x15 then acceptFrame s else closeWrite (acceptFrame s)) := by
    split
    · exact .of_untouched (by simp) (by simp)
    · exact ⟨by simp, none, by simp [closeWrite]⟩
  exact (FloorStep.of_same ready (hcmd _)).trans_kept (.of_untouched (enqueueReserved_tables _ _) (enqueueReserved_update _ _))

theorem manage_floorStep {cmd : State → Reply × State} (hcmd : ∀ s, FloorStep s (cmd s).2) (code : Byte) (s : State) :
    FloorStep s (manage code cmd s) := by
  have ended : SameButWrite s { s with link.exchange := none } := .of_untouched rfl rfl
  have held (r : HoldOff) : FloorStep { s with link.exchange := none } (holdOff r 0 3 { s with link.exchange := none }) :=
    .of_untouched (by simp) (by simp)
  exact .of_same ended
    (.ite (FloorKept.refl _).step (.ite (held .waking) (.ite (held .noRoom) (dispatch_floorStep hcmd code _))))

theorem exec_floorStep_of_commandFrame {c : Instr} {code : Byte} {p : List Byte} (hc : commandFrame c = some (code, p)) {s t : State}
    (ht : exec c s = .next t) : FloorStep s t := by
  by_cases known : ∀ k, c ≠ .unknownCommand k
  · cases (exec_of_commandFrame hc known s).symm.trans ht
    exact manage_floorStep (commandOf_floorStep code p) code s
  · obtain ⟨k, hk⟩ := Classical.not_forall.1 known
    obtain rfl := Classical.not_not.1 hk
    cases ht
    exact manage_floorStep (fun s => (FloorKept.refl s).step) k s

/-! ### Events -/

theorem judgeFrame_floorStep (rx : List Byte) (s : State) : FloorStep s (judgeFrame rx s) := by
  unfold judgeFrame
  dsimp only
  split
  · exact (FloorKept.refl s).step
  split
  · exact .of_untouched (by simp) (by simp)
  · unfold acceptedFrame
    split
    · exact .of_untouched (by simp) (by simp)
    split
    · exact (FloorKept.refl s).step
    · exact dispatch_floorStep (commandOf_floorStep _ _) _ s
  · exact (FloorKept.refl s).step

theorem exchangeEnd_floorStep (rx : List Byte) {s t : State} (ht : exec (.exchangeEnd rx) s = .next t) : FloorStep s t := by
  unfold exec execExchangeEnd at ht
  dsimp only at ht
  split at ht <;> cases ht
  · exact (FloorKept.refl _).step
  · exact .of_untouched rfl rfl
  · exact .of_same (t := { s with link.exchange := none }) (.of_untouched rfl rfl) (judgeFrame_floorStep rx _)

theorem verifyEnd_floorStep {s t : State} (ht : exec .verifyEnd s = .next t) : FloorStep s t := by
  unfold exec execVerifyEnd at ht
  dsimp only at ht
  split at ht <;> cases ht
  next hs _ _ => exact (verifyStage_floorKept hs _ _).step
  · exact (FloorKept.refl _).step

theorem commitEnd_floorStep (readBack : Bool) {s t : State} (ht : exec (.commitEnd readBack) s = .next t) : FloorStep s t := by
  unfold exec execCommitEnd at ht
  dsimp only at ht
  split at ht <;> cases ht
  next hs htarget hcommit =>
    exact ⟨endCommit_lock readBack _ _ s, fun hg hf => endCommit_floorKept hg hf hs htarget hcommit readBack⟩
  · exact (FloorKept.refl _).step

/-- The end of a transaction touches neither the Table Store nor the Update Engine. -/
theorem chainEnd_floorStep {c : Instr} {s t : State}
    (hc : c = .broadcastSent ∨ (∃ rx, c = .answerReceived rx) ∨ (∃ b, c = .responseWindowClose b) ∨ ∃ n, c = .answerLengthBad n)
    (ht : exec c s = .next t) : FloorStep s t := by
  rcases hc with rfl | ⟨rx, rfl⟩ | ⟨b, rfl⟩ | ⟨n, rfl⟩ <;>
    simp only [exec, execBroadcastSent, execAnswerReceived, execResponseWindowClose, execAnswerLengthBad] at ht <;>
    (repeat' split at ht) <;> cases ht <;> exact .of_untouched (by simp) (by simp)

theorem exec_floorStep {c : Instr} {s t : State} (ht : exec c s = .next t) : FloorStep s t := by
  cases c with
  | unknownCommand | identify | readStatus | readEvents | setEvents | hubReset | sweepStart | sweepStop | chainGate | enumerate
  | setProfile | readSamples | readPack | readTrip | clearTrip | closeContactors | openContactors | readCapture | sleep | updateBegin
  | updateWindow | updateWrite | updateSeal | updateActivate | updateAbort | lockFloor | clearTamper | readTable =>
    exact exec_floorStep_of_commandFrame rfl ht
  | exchangeEnd rx => exact exchangeEnd_floorStep rx ht
  | powerOnReset => cases ht; exact ((coldState_floorKept s).trans (resetEnd_floorKept _)).step
  | hardReset => cases ht; exact ((hardState_floorKept s).trans (resetEnd_floorKept _)).step
  | verifyEnd => exact verifyEnd_floorStep ht
  | commitEnd readBack => exact commitEnd_floorStep readBack ht
  | tamperIn => cases ht; exact (FloorKept.ite (.refl s) (tamperAsserted_floorKept s)).step
  | tamperInDeasserted =>
    cases ht
    have read : FloorKept s { s with update.tamperReading := false } := .of_same ⟨rfl, rfl, rfl, rfl, rfl, .rfl⟩
    exact read.step
  | syncIn => cases ht; exact .ite (syncEdge_floorStep s) (FloorKept.refl s).step
  | syncWaitExpiry => cases ht; exact .ite (syncLost_floorStep s) (FloorKept.refl s).step
  | sweepEnd => cases ht; exact .ite ((endSweep_floorStep s).trans_kept (arbitrate_floorKept _)) (FloorKept.refl s).step
  | broadcastSent | answerReceived | responseWindowClose | answerLengthBad => exact chainEnd_floorStep (by simp) ht
  | exchangeBegin =>
    cases ht
    exact .ite (FloorKept.refl s).step (.ite (.of_untouched (by simp) (by simp)) (.of_untouched (by simp) (by simp)))
  | linkWake => cases ht; exact .ite (FloorKept.refl s).step (.of_untouched (by simp) (by simp))
  | wakeIn | noticeAdmitted => cases ht; exact .of_untouched (by simp) (by simp)
  | strayFrame => cases ht; exact (FloorKept.refl s).step
  | slotDue | quietWindowStart | deferredSlotsDue | captureStepDue | endedContextLeaves | feedbackDebounced | prechargeTimeout
  | deferTimerExpiry | dwellTimerExpiry | weldTimerExpiry | disagreementTimerExpiry | silenceTimerExpiry | drainComplete
  | drainTimerExpiry | watchTimerExpiry | chainSettleEnd | oscillatorStarted =>
    cases ht
    exact .ite (.of_untouched (by simp) (by simp)) (FloorKept.refl s).step

/-- A step is one command, on the state with the rest of the queue or when its event is due, or the passing of time. -/
theorem step_floorStep {s t : State} (ht : step s = .next t) : FloorStep s t := by
  unfold step at ht
  split at ht
  · unfold idle at ht
    split at ht
    · exact exec_floorStep ht
    · cases ht
      exact .of_untouched (by simp) (by simp)
  next rest _ => exact .of_same (t := { s with pending := rest }) (.of_untouched rfl rfl) (exec_floorStep ht)

/-! ### LOCK-FLOOR, UPDATE-BEGIN and the thresholds -/

theorem exec_lockFloor_of_accepting {s : State} (h : Accepting s) :
    exec .lockFloor s = .next (replied 0x19 (cmdLockFloor (closed s)).1 (cmdLockFloor (closed s)).2) :=
  congrArg Host.Outcome.next (manage_eq_replied h (by decide) cmdLockFloor)

theorem lockFloor_replies {s : State} (h : Accepting s) :
    (s.update.floorLock = true → exec .lockFloor s = .next (replied 0x19 .ok (closed s))) ∧
    (s.update.floorLock = false → updateHolds .floor s = true →
      exec .lockFloor s = .next (replied 0x19 (.refused .busy []) (closed s))) ∧
    (s.update.floorLock = false → updateHolds .floor s = false →
      exec .lockFloor s = .next (replied 0x19 .ok { closed s with update.floorLock := true })) := by
  have hholds : updateHolds .floor (closed s) = updateHolds .floor s := rfl
  rw [exec_lockFloor_of_accepting h]
  refine ⟨fun hl => ?_, fun hl hu => ?_, fun hl hu => ?_⟩
  · simp [cmdLockFloor, hl]
  · simp [cmdLockFloor, hl, hholds, hu]
  · simp [cmdLockFloor, hl, hholds, hu]

/-- The floor lock stands in bit 1 of the last byte of section UPDATE (10.3). -/
theorem updateSection_lock (s : State) : ((sectionBytes s .update).getLastD 0).getLsbD 1 = s.update.floorLock := by
  have last : (sectionBytes s .update).getLastD 0 = latchByte s := List.getLastD_concat ..
  rw [last, latchByte]
  cases s.update.tamperLatch <;> cases s.update.floorLock <;> rfl

/-- Under every profile the effective thresholds of a channel lie inside the floor's (R52). -/
theorem effective_inside_floor (img : Image) (p : Fin 4) (i : Nat) :
    (effective img p i).overTrip ≤ (effective img p i).floorOver ∧ (effective img p i).floorUnder ≤ (effective img p i).underTrip ∧
      (effective img p i).overWarn ≤ (effective img p i).overTrip ∧ (effective img p i).underTrip ≤ (effective img p i).underWarn := by
  unfold effective
  dsimp only
  split
  · exact ⟨Int.min_le_right .., Int.le_max_right .., Int.min_le_right .., Int.le_max_right ..⟩
  · exact ⟨Int.min_le_right .., Int.le_max_right .., Int.min_le_right .., Int.le_max_right ..⟩

/-- The watch thresholds of a channel lie inside the floor's (R147). -/
theorem watchThresholds_inside_floor (img : Image) (p : Fin 4) (i : Nat) :
    (watchThresholds img i).1 ≤ (effective img p i).floorOver ∧ (effective img p i).floorUnder ≤ (watchThresholds img i).2 := by
  unfold watchThresholds effective
  dsimp only
  split
  · exact ⟨Int.min_le_right .., Int.le_max_right ..⟩
  · exact ⟨Int.min_le_right .., Int.le_max_right ..⟩

/-- Settles O51: LOCK-FLOOR by its cases, the lock and FLOOR by what every command keeps of `floorFits`, the thresholds by the minimum and
maximum that form them. -/
theorem floorLockHolds : Obligations.FloorLockHolds := by
  refine ⟨fun _ h => lockFloor_replies h, fun _ _ _ ht => (exec_floorStep ht).lock, fun s t hg hf ht => ?_,
    fun set generation s hl hset hm hlatch hnew => ?_, fun set generation s hset => ?_, rfl, updateSection_lock, fun img p i => ?_⟩
  · have kept := (step_floorStep ht).kept hg hf
    exact ⟨kept.fits hf, kept.floor hf⟩
  · simp [beginRefusal, hm, hlatch, Nat.not_le.2 hnew, hset, hl]
  · simp only [beginRefusal, Option.any_some, hset, Bool.false_and]
    rfl
  · obtain ⟨overTrip, underTrip, overWarn, underWarn⟩ := effective_inside_floor img p i
    exact ⟨overTrip, underTrip, overWarn, underWarn, watchThresholds_inside_floor img p i⟩

end Sys2Proof.Machine
end

section
/-! IDENTIFY (R196) and READ-TRIP (R86): each reply is read off the closed state, in the layout of 10.3. -/

namespace Sys2Proof.Machine

/-! ### IDENTIFY -/

theorem siliconRevision_toNat : Config.siliconRevision.toNat = Config.siliconRevisionIndex.val + 1 := by
  have bound := Config.siliconRevisionIndex.isLt
  rw [Config.siliconRevision, BitVec.toNat_ofNat]
  exact Nat.mod_eq_of_lt (by omega)

theorem siliconRevision_range : 1 ≤ Config.siliconRevision.toNat ∧ Config.siliconRevision.toNat ≤ 255 := by
  rw [siliconRevision_toNat]
  exact ⟨Nat.succ_pos _, Config.siliconRevisionIndex.isLt⟩

/-- The items of IDENTIFY, the part code's two bytes written out. -/
theorem cmdIdentify_eq (s : State) :
    cmdIdentify s =
      (.done ([0x5E, 0x17, 0x0C, 0x30, Config.siliconRevision] ++ wordBytes (live s).generation) false, s) := rfl

theorem exec_identify_of_accepting {s : State} (h : Accepting s) :
    exec .identify s = .next (replied 0x01 (cmdIdentify (closed s)).1 (cmdIdentify (closed s)).2) :=
  congrArg Host.Outcome.next (manage_eq_replied h (by decide) cmdIdentify)

/-! ### READ-TRIP -/

/-- The bytes of a trip record, its flags from bit 0 (a record stands) to bit 6 written out (10.3). -/
theorem tripBytes_eq (r : TripRecord) :
    tripBytes r =
      [1 ||| bitAt r.first.position.isSome 1 ||| bitAt r.first.channel.isSome 2 ||| bitAt r.first.value.isSome 3 |||
          bitAt (r.firstResponse == .hard) 4 ||| bitAt (r.level == .hard) 5 ||| bitAt r.resetSince 6,
        r.first.cause.code, byteOf (r.first.position.getD 0), byteOf (r.first.channel.getD 255)] ++
        halfBytes (BitVec.ofInt 16 (r.first.value.getD 0)) ++ r.first.stamp.bytes ++ wordBytes r.first.generation ++
        [byteOf r.first.profile.val, r.power.code, byteOf r.laterCount, causeCode r.latestCause] := rfl

theorem cmdReadTrip_of_empty {s : State} (hr : s.protection.record = none) :
    cmdReadTrip s = (.done (s.protection.state.code :: List.replicate 19 0) false, s) := by
  rw [cmdReadTrip, hr]

theorem cmdReadTrip_of_record {s : State} {r : TripRecord} (hr : s.protection.record = some r) :
    cmdReadTrip s = (.done (s.protection.state.code :: tripBytes r) false, s) := by
  rw [cmdReadTrip, hr]

theorem exec_readTrip_of_accepting {s : State} (h : Accepting s) :
    exec .readTrip s = .next (replied 0x0D (cmdReadTrip (closed s)).1 (cmdReadTrip (closed s)).2) :=
  congrArg Host.Outcome.next (manage_eq_replied h (by decide) cmdReadTrip)

/-- Settles O6: both commands leave the closed state they are taken on, so each reply is the one its command's equation gives there;
READ-TRIP by whether a record stands. -/
theorem identifyAndReadTripReply : Obligations.IdentifyAndReadTripReply := by
  refine ⟨⟨siliconRevision_range.1, siliconRevision_range.2, fun s h => ?_⟩, fun s h => ⟨fun hr => ?_, fun r hr => ?_⟩⟩
  · rw [exec_identify_of_accepting h, cmdIdentify_eq]
    rfl
  · rw [exec_readTrip_of_accepting h, cmdReadTrip_of_empty (s := closed s) hr, closed_protection]
  · rw [exec_readTrip_of_accepting h, cmdReadTrip_of_record (s := closed s) hr, tripBytes_eq, closed_protection]
    rfl

end Sys2Proof.Machine
end

section
/-! The end of an exchange, said once (R188, R189, R195): whatever row brings it about, the frame is dropped, held off, forwarded, or its
command is dispatched; and a step, said once (log 1). -/

namespace Sys2Proof.Machine

theorem ite_left_or_right {α : Type} (c : Prop) [Decidable c] (a b : α) : (if c then a else b) = a ∨ (if c then a else b) = b := by
  split
  · exact .inl rfl
  · exact .inr rfl

/-- The row carries the command with this code and these parameters: as a row of its own, or as the MANAGE frame of EXCHANGE_END. -/
def Carries (c : Instr) (code : Byte) (p : List Byte) : Prop :=
  (commandFrame c = some (code, p) ∧ ∀ k, c ≠ .unknownCommand k) ∨
    ∃ rx f, c = .exchangeEnd rx ∧ goodFrame? rx = some f ∧ f.kind = 0x03 ∧ f.payload = code :: p

/-- What the end of an exchange does to the state `s` in which the exchange is over. -/
inductive PortEnd (c : Instr) (s : State) : State → Prop where
  | dropped : PortEnd c s s
  | held (r : HoldOff) (address kind : Byte) : PortEnd c s (holdOff r address kind s)
  | forwarded (f : Frame) (queue : s.link.forward.length < 4) (room : freeCount s ≠ 0) : PortEnd c s (forwardFrame f s)
  | command (code : Byte) (p : List Byte) (carries : Carries c code p) (room : freeCount s ≠ 0) :
      PortEnd c s (dispatch code (commandOf code p) s)
  | unknown (code : Byte) (room : freeCount s ≠ 0) : PortEnd c s (dispatch code cmdUnknown s)

theorem manage_cases (code : Byte) (cmd : State → Reply × State) (s : State) :
    manage code cmd s = { s with link.exchange := none } ∨
      (∃ r, manage code cmd s = holdOff r 0 3 { s with link.exchange := none }) ∨
      (freeCount s ≠ 0 ∧ manage code cmd s = dispatch code cmd { s with link.exchange := none }) := by
  unfold manage
  dsimp only
  split
  · exact .inl rfl
  split
  · exact .inr (.inl ⟨_, rfl⟩)
  split
  · exact .inr (.inl ⟨_, rfl⟩)
  next room => exact .inr (.inr ⟨room, rfl⟩)

/-- A frame that is accepted meets none of the tests of R189. -/
theorem holdReason_eq_none {f : Frame} {s : State} (h : holdReason (some f) s = none) :
    wellDirected f = true ∧ (isChainKind f.kind = true → s.link.forward.length < 4) ∧ freeCount s ≠ 0 := by
  unfold holdReason at h
  dsimp only at h
  split at h
  · cases h
  split at h
  · cases h
  split at h
  · cases h
  split at h
  · cases h
  split at h
  · cases h
  next directed _ _ queue =>
    split at h
    · cases h
    next room => exact ⟨by simpa using directed, fun chain => by simpa [chain] using queue, room⟩

theorem judgeFrame_portEnd (rx : List Byte) (s : State) : PortEnd (.exchangeEnd rx) s (judgeFrame rx s) := by
  unfold judgeFrame
  dsimp only
  split
  · exact .dropped
  split
  · exact .held _ _ _
  next f accepted hf =>
    rw [hf] at accepted
    obtain ⟨directed, queue, room⟩ := holdReason_eq_none accepted
    unfold acceptedFrame
    split
    next chain => exact .forwarded f (queue chain) room
    next chain =>
      split
      · exact .dropped
      next code p payload =>
        refine .command code p (.inr ⟨rx, f, rfl, hf, ?_, payload⟩) room
        simp only [wellDirected, chain, Bool.false_eq_true, if_false, Bool.and_eq_true, beq_iff_eq] at directed
        exact directed.1.1
  · exact .dropped

/-- A row of the Controller Port, or EXCHANGE_END, does nothing without an exchange, and ends it otherwise. -/
theorem exec_portEnd {c : Instr} {s t : State} (hc : (commandFrame c).isSome = true ∨ ∃ rx, c = .exchangeEnd rx)
    (ht : exec c s = .next t) : t = s ∨ PortEnd c { s with link.exchange := none } t := by
  have managed {code : Byte} {cmd : State → Reply × State}
      (dispatched : freeCount s ≠ 0 → PortEnd c { s with link.exchange := none } (dispatch code cmd { s with link.exchange := none })) :
      PortEnd c { s with link.exchange := none } (manage code cmd s) := by
    rcases manage_cases code cmd s with e | ⟨r, e⟩ | ⟨room, e⟩ <;> rw [e]
    · exact .dropped
    · exact .held _ _ _
    · exact dispatched room
  rcases hc with hc | ⟨rx, rfl⟩
  · obtain ⟨⟨code, p⟩, hc⟩ := Option.isSome_iff_exists.1 hc
    right
    by_cases known : ∀ k, c ≠ .unknownCommand k
    · cases (exec_of_commandFrame hc known s).symm.trans ht
      exact managed fun room => .command code p (.inl ⟨hc, known⟩) room
    · obtain ⟨k, hk⟩ := Classical.not_forall.1 known
      obtain rfl := Classical.not_not.1 hk
      cases ht
      exact managed fun room => .unknown k room
  · unfold exec execExchangeEnd at ht
    dsimp only at ht
    split at ht <;> cases ht
    · exact .inl rfl
    · exact .inr .dropped
    · exact .inr (judgeFrame_portEnd rx _)

/-- The command a dispatched frame names acts on the accepted state, and its reply takes the reservation. -/
theorem dispatch_eq (code : Byte) (cmd : State → Reply × State) (s : State) :
    dispatch code cmd s =
      enqueueReserved (replyFrame code (cmd (if code = 0x15 then acceptFrame s else closeWrite (acceptFrame s))).1)
        (cmd (if code = 0x15 then acceptFrame s else closeWrite (acceptFrame s))).2 := rfl

/-- A step is one command, on the state with the rest of the queue or when its event is due, or the passing of time. -/
theorem step_cases {s t : State} (ht : step s = .next t) :
    (∃ c, exec c s = .next t) ∨ (∃ c rest, exec c { s with pending := rest } = .next t) ∨ t = passTime s := by
  unfold step at ht
  split at ht
  · unfold idle at ht
    split at ht
    · exact .inl ⟨_, ht⟩
    · cases ht
      exact .inr (.inr rfl)
  · exact .inr (.inl ⟨_, _, ht⟩)

end Sys2Proof.Machine
end

section
/-! The end of a transaction for any relation between states that its parts keep: the relation holds where protection, contactors,
captures and update are as before, over a trip, over the judging of a pack sense record, over a capture step and over a grant. -/

namespace Sys2Proof.Machine

/-- The blocks that trips and capture steps act on are as before. -/
structure SameGuards (s t : State) : Prop where
  protection : t.protection = s.protection
  sequencer : t.sequencer = s.sequencer
  capture : t.capture = s.capture
  update : t.update = s.update

/-- What a relation must be closed under to hold over the end of every transaction. -/
structure TransactionRule (R : State → State → Prop) : Prop where
  trans : ∀ {s t u}, R s t → R t u → R s u
  same : ∀ {s t}, SameGuards s t → R s t
  trip : ∀ t s, R s (takeOutsideTrip t s)
  judged : ∀ s, R s (judgeRecord s)
  recorded : ∀ id answer s, R s (recordStep id answer s)
  stepEnded : ∀ id s, R s (finishStep id s)
  granted : ∀ s, R s (arbitrate s)

theorem SameGuards.refl (s : State) : SameGuards s s := ⟨rfl, rfl, rfl, rfl⟩

/-- The sample of a channel: record and events, then the trip when one is raised. -/
theorem evaluateChannel_cases (p c : Nat) (x : Half) (s : State) :
    ∃ u, SameGuards s u ∧ (evaluateChannel p c x s = u ∨ ∃ t, evaluateChannel p c x s = raise .limitTrip (takeOutsideTrip t u)) := by
  have noted (c : Prop) [Decidable c] (before : Status) (reading : Reading) (i : Nat) (ch : Channel) :
      SameGuards s (setChannel i ch (if c then raise .limitWarn (raiseNewFault before reading s) else raiseNewFault before reading s)) := by
    split <;> constructor <;> simp
  unfold evaluateChannel
  dsimp only
  split
  · exact ⟨s, .refl s, .inl rfl⟩
  · exact ⟨_, noted _ _ _ _ _, (ite_left_or_right _ _ _).symm.imp_right fun e => ⟨_, e⟩⟩

/-- The judging of a watched channel: its counter, then the trip when one is raised. -/
theorem judgeWatchChannel_cases (p c : Nat) (acc : Bool × State) :
    ∃ u, SameGuards acc.2 u ∧
      ((judgeWatchChannel p c acc).2 = u ∨ ∃ t, (judgeWatchChannel p c acc).2 = raise .limitTrip (takeOutsideTrip t u)) := by
  have counted (v : Vector Nat 480) : SameGuards acc.2 { acc.2 with power.persistence := v } := ⟨rfl, rfl, rfl, rfl⟩
  unfold judgeWatchChannel
  dsimp only
  split
  · exact ⟨acc.2, .refl _, .inl rfl⟩
  · rw [apply_ite Prod.snd]
    exact ⟨_, counted _, (ite_left_or_right _ _ _).symm.imp_right fun e => ⟨_, e⟩⟩

/-- The list of events of a watch answer's judging, with the source taken at its end. -/
theorem watchAnswered_eq (p : Nat) (kind : ReadKind) (payload : List Byte) (s : State) :
    watchAnswered p kind payload s =
      if (judgeWatch p kind (eachChannel storeWatchChannel p kind payload s)).1 then
        takeWake .watchLimit (judgeWatch p kind (eachChannel storeWatchChannel p kind payload s)).2
      else (judgeWatch p kind (eachChannel storeWatchChannel p kind payload s)).2 := rfl

theorem TransactionRule.ite {R : State → State → Prop} {s t u : State} {c : Prop} [Decidable c] (_ : TransactionRule R) (ht : R s t)
    (hu : R s u) : R s (if c then t else u) := by
  split
  · exact ht
  · exact hu

section

variable {R : State → State → Prop} (rule : TransactionRule R)
include rule

theorem TransactionRule.refl (s : State) : R s s := rule.same ⟨rfl, rfl, rfl, rfl⟩

theorem TransactionRule.raisedTrip (e : Event) (t : Trip) {s u : State} (h : SameGuards s u) : R s (raise e (takeOutsideTrip t u)) :=
  rule.trans (rule.same h) (rule.trans (rule.trip t u) (rule.same ⟨rfl, rfl, rfl, rfl⟩))

theorem TransactionRule.eachEvaluate (p : Nat) (kind : ReadKind) (payload : List Byte) (s : State) :
    R s (eachChannel evaluateChannel p kind payload s) := by
  rw [eachChannel_eq]
  generalize (codesOf (channelsOf kind).2 payload).zipIdx (channelsOf kind).1 = codes
  induction codes generalizing s with
  | nil => exact rule.refl s
  | cons code codes ih =>
    refine rule.trans (t := evaluateChannel p code.2 code.1 s) ?_ (ih _)
    obtain ⟨u, hu, e | ⟨t, e⟩⟩ := evaluateChannel_cases p code.2 code.1 s <;> rw [e]
    · exact rule.same hu
    · exact rule.raisedTrip _ t hu

theorem TransactionRule.judgeWatch (p : Nat) (kind : ReadKind) (s : State) : R s (judgeWatch p kind s).2 := by
  rw [judgeWatch_eq]
  generalize List.range' (channelsOf kind).1 (channelsOf kind).2 = channels
  suffices ∀ acc : Bool × State, R acc.2 (channels.foldl (fun acc c => judgeWatchChannel p c acc) acc).2 from this (false, s)
  induction channels with
  | nil => exact fun acc => rule.refl acc.2
  | cons c channels ih =>
    intro acc
    refine rule.trans ?_ (ih _)
    obtain ⟨u, hu, e | ⟨t, e⟩⟩ := judgeWatchChannel_cases p c acc <;> rw [e]
    · exact rule.same hu
    · exact rule.raisedTrip _ t hu

theorem TransactionRule.watchAnswered (p : Nat) (kind : ReadKind) (payload : List Byte) (s : State) :
    R s (watchAnswered p kind payload s) := by
  have stored : R s (eachChannel storeWatchChannel p kind payload s) := rule.same (by constructor <;> simp)
  have taken (u : State) : R u (takeWake .watchLimit u) := rule.same (by constructor <;> simp)
  have judged := rule.trans stored (rule.judgeWatch p kind _)
  rw [watchAnswered_eq]
  exact rule.ite (rule.trans judged (taken _)) judged

theorem TransactionRule.watchReadEnd (p : Nat) (kind : ReadKind) (answer : Option (List Byte)) (s : State) :
    R s (watchReadEnd p kind answer s) := by
  have ended (u : State) : R u (if u.power.cycle && u.power.wakeKept then enterWaking u else u) :=
    rule.ite (rule.same (by constructor <;> simp)) (rule.refl u)
  have noted (b : Bool) : R s { s with power.cellsAnswered := b } := rule.same ⟨rfl, rfl, rfl, rfl⟩
  have counted (b : Bool) (u : State) : R u (judgeNoAnswer p b u) := rule.same (by constructor <;> simp)
  unfold Machine.watchReadEnd
  dsimp only
  refine rule.trans ?_ (ended _)
  cases answer <;> cases kind <;> dsimp only
  · exact noted _
  · exact counted _ _
  · exact rule.refl s
  · exact rule.trans (noted _) (rule.watchAnswered _ _ _ _)
  · exact rule.trans (rule.watchAnswered _ _ _ _) (counted _ _)
  · exact rule.watchAnswered _ _ _ _

theorem TransactionRule.countMiss (p : Nat) (stamp : Stamp) (s : State) : R s (countMiss p stamp s) :=
  rule.ite (rule.raisedTrip _ _ (by constructor <;> simp)) (rule.same ⟨rfl, rfl, rfl, rfl⟩)

theorem TransactionRule.applyMiss (q : Requester) (p : Nat) (e : Ending) (s : State) : R s (applyMiss q p e s) := by
  have cleared : R s (clearMisses p s) := rule.same (by constructor <;> simp)
  unfold Machine.applyMiss
  split
  · split
    · exact cleared
    all_goals exact rule.countMiss _ _ _
  · split
    · exact cleared
    all_goals exact rule.countMiss _ _ _
  all_goals exact rule.refl s

theorem TransactionRule.evaluateSense (p : Nat) (payload : List Byte) (s : State) : R s (evaluateSense p payload s) := by
  have mirrored (m : List Byte) (u : State) : R u (offerMirror m u) := rule.same (by constructor <;> simp)
  have written (stamp : Stamp) (lost : Bool) (v : Option Half) :
      R s (if matchesSweep payload (updatePack false stamp lost payload s) then
        { updatePack false stamp lost payload s with evaluator.matchedVPack := v } else updatePack false stamp lost payload s) :=
    rule.ite (rule.same ⟨rfl, rfl, rfl, rfl⟩) (rule.same ⟨rfl, rfl, rfl, rfl⟩)
  unfold Machine.evaluateSense
  dsimp only
  exact rule.trans (rule.trans (written _ _ _) (rule.judged _)) (rule.ite (mirrored _ _) (rule.refl _))

theorem TransactionRule.handSweep (p : Nat) (kind : ReadKind) (e : Ending) (s : State) : R s (handSweep p kind e s) := by
  have mirrored (k : ReadKind) (u : State) : R u (mirrorAnswer p k u) := rule.same (by constructor <;> simp)
  have evaluated (k : ReadKind) (payload : List Byte) : R s (evaluateAnswer p k payload s) :=
    rule.trans (rule.eachEvaluate p k payload s) (mirrored k _)
  unfold Machine.handSweep
  split
  · exact rule.refl s
  split
  · exact rule.evaluateSense _ _ _
  · exact evaluated _ _
  · exact evaluated _ _

theorem TransactionRule.handCapture (p : Nat) (id : Half) (e : Ending) (s : State) : R s (handCapture p id e s) := by
  have sensed (stamp : Stamp) (lost : Bool) (payload : List Byte) (u : State) : R u (judgeRecord (updatePack true stamp lost payload u)) :=
    rule.trans (t := updatePack true stamp lost payload u) (rule.same ⟨rfl, rfl, rfl, rfl⟩) (rule.judged _)
  unfold Machine.handCapture
  dsimp only
  split
  · exact rule.trans (rule.recorded _ _ _) (rule.stepEnded _ _)
  · exact rule.trans (rule.trans (rule.recorded _ _ _) (sensed _ _ _ _)) (rule.stepEnded _ _)

theorem TransactionRule.handOn (t : Transaction) (p : Nat) (e : Ending) (s : State) : R s (handOn t p e s) := by
  unfold Machine.handOn
  split
  · exact rule.ite (rule.refl s) (rule.same (by constructor <;> simp))
  · exact rule.ite (rule.refl s) (rule.handSweep _ _ _ _)
  · split
    · exact rule.handCapture _ _ _ _
    · exact rule.refl s
  · exact rule.watchReadEnd _ _ _ _
  · exact rule.same (by constructor <;> simp)

theorem TransactionRule.finish (t : Transaction) (p : Nat) (e : Ending) (s : State) : R s (finish t p e s) := by
  have free : R s { s with chain.inFlight := none } := rule.same ⟨rfl, rfl, rfl, rfl⟩
  exact rule.trans (rule.trans (rule.trans free (rule.applyMiss _ _ _ _)) (rule.handOn t p e _)) (rule.granted _)

/-- The rows that end a transaction do nothing, or end the one in flight. -/
theorem TransactionRule.exec {c : Instr} {s t : State}
    (hc : (∃ rx, c = .answerReceived rx) ∨ (∃ b, c = .responseWindowClose b) ∨ ∃ n, c = .answerLengthBad n)
    (ht : exec c s = .next t) : R s t := by
  rcases hc with ⟨rx, rfl⟩ | ⟨b, rfl⟩ | ⟨n, rfl⟩
  · simp only [Machine.exec, execAnswerReceived] at ht
    split at ht <;> cases ht
    · exact rule.finish _ _ _ s
    · exact rule.refl s
  · simp only [Machine.exec, execResponseWindowClose] at ht
    split at ht <;> cases ht
    · exact rule.finish _ _ _ s
    · exact rule.refl s
  · simp only [Machine.exec, execAnswerLengthBad] at ht
    split at ht <;> cases ht
    · exact rule.ite (rule.finish _ _ _ s) (rule.refl s)
    · exact rule.refl s

end

end Sys2Proof.Machine
end

section
/-! The outputs (O54). A MANAGE frame is judged by the end of its exchange, which does not ask for the power state: with an exchange still
carried in DEEP_SLEEP, SLEEP leaves DEEP_SLEEP for the drain phase and the watch cycle runs on. -/

namespace Sys2Proof.Machine

/-- The MANAGE frame of SLEEP with its check, as it is received (10.1, 10.3). -/
def sleepFrameBytes : List Byte := [0x00, 0x03, 0x00, 0x01, 0x12, 0x8B, 0x92]

/-- DEEP_SLEEP with a watch cycle in progress, in which an exchange that carries the SLEEP command comes to its end. -/
def sleepInWatchCycle : State :=
  { State.reset with
    pending := [.exchangeEnd sleepFrameBytes]
    power.power := .deepSleep
    power.cycle := true
    link.exchange := some (.carrying emptyFrame) }

theorem outputsSafe_sleepInWatchCycle : outputsSafe sleepInWatchCycle = true := by decide

/-- The bytes received are the SLEEP command's. -/
theorem goodFrame?_sleepFrameBytes : goodFrame? sleepFrameBytes = some (manageFrame [0x12]) := by decide +kernel

/-- SLEEP is dispatched: the part enters the drain phase. -/
theorem step_sleepInWatchCycle :
    step sleepInWatchCycle =
      .next (dispatch 0x12 cmdSleep { sleepInWatchCycle with pending := [], link.exchange := none }) := by
  have judged (s : State) (h : holdReason (some (manageFrame [0x12])) s = none) :
      judgeFrame sleepFrameBytes s = dispatch 0x12 cmdSleep s := by
    simp only [judgeFrame, goodFrame?_sleepFrameBytes, h]
    rfl
  exact congrArg Host.Outcome.next (judged { sleepInWatchCycle with pending := [], link.exchange := none } (by decide))

/-- After the step the watch cycle runs outside DEEP_SLEEP. -/
theorem outputsSafe_after_sleepInWatchCycle :
    outputsSafe (dispatch 0x12 cmdSleep { sleepInWatchCycle with pending := [], link.exchange := none }) = false := by decide

/-- Refutes O54: SLEEP in DEEP_SLEEP with a watch cycle in progress and an exchange carried leaves the cycle running in the drain
phase. -/
theorem not_outputsStaySafe : ¬ Obligations.OutputsStaySafe := fun h =>
  absurd (h sleepInWatchCycle _ outputsSafe_sleepInWatchCycle step_sleepInWatchCycle) (by
    rw [outputsSafe_after_sleepInWatchCycle]; exact Bool.false_ne_true)

end Sys2Proof.Machine
end

section
/-! SAFE_OPEN (O58, R78, R91). Trips set the protection state, and from SAFE_OPEN they leave it there; a granted CLEAR-TRIP and the two cold
resets set NORMAL; nothing else touches it. -/

namespace Sys2Proof.Machine

/-- SAFE_OPEN is not left. -/
def StaysSafeOpen (s t : State) : Prop := s.protection.state = .safeOpen → t.protection.state = .safeOpen

theorem StaysSafeOpen.trans {s t u : State} (h : StaysSafeOpen s t) (k : StaysSafeOpen t u) : StaysSafeOpen s u := fun hs => k (h hs)

theorem StaysSafeOpen.of_protection {s t : State} (h : t.protection = s.protection) : StaysSafeOpen s t := fun hs => by rw [h, hs]

theorem StaysSafeOpen.refl (s : State) : StaysSafeOpen s s := id

theorem StaysSafeOpen.ite {s t u : State} {c : Prop} [Decidable c] (ht : StaysSafeOpen s t) (hu : StaysSafeOpen s u) :
    StaysSafeOpen s (if c then t else u) := by
  split
  · exact ht
  · exact hu

/-! ### Trips -/

/-- A trip in SAFE_OPEN leaves SAFE_OPEN (R78). -/
theorem takeTrip_staysSafeOpen (t : Trip) (s : State) : StaysSafeOpen s (takeTrip t s) := by
  intro hs
  have after (r : Response) : protectionAfter s.protection.state r = .safeOpen := by rw [hs]; cases r <;> rfl
  unfold takeTrip
  dsimp only
  split
  · rw [openOrder_protection]; exact after _
  · exact after _

/-- A trip that the Sequencer raises, with its event. -/
theorem tripPlain_staysSafeOpen (cause : TripCause) (e : Event) (s : State) :
    StaysSafeOpen s (raise e (takeTrip (plainTrip cause s) s)) := takeTrip_staysSafeOpen _ s

theorem tripFeedbacks_staysSafeOpen (n : Nat) (s : State) : StaysSafeOpen s (Nat.repeat tripFeedback n s) := by
  induction n with
  | zero => exact .refl s
  | succ n ih => exact ih.trans (tripPlain_staysSafeOpen _ _ _)

theorem takeOutsideTrip_staysSafeOpen (t : Trip) (s : State) : StaysSafeOpen s (takeOutsideTrip t s) := by
  exact (takeTrip_staysSafeOpen t s).trans
    (.ite (tripPlain_staysSafeOpen _ _ _) (.ite (tripFeedbacks_staysSafeOpen _ _) (.ite (tripPlain_staysSafeOpen _ _ _) (.refl _))))

/-- Trips apart, the end of a transaction leaves the protection state. -/
theorem staysSafeOpen_rule : TransactionRule StaysSafeOpen where
  trans := .trans
  same h := .of_protection h.protection
  trip := takeOutsideTrip_staysSafeOpen
  judged s := .of_protection (judgeRecord_protection s)
  recorded id answer s := .of_protection (recordStep_protection id answer s)
  stepEnded id s := .of_protection (finishStep_protection id s)
  granted s := .of_protection (arbitrate_protection s)

/-! ### Commands -/

theorem cmdClearTrip_protection (s : State) : (cmdClearTrip s).2 = s ∨ (cmdClearTrip s).2.protection.state = .normal := by
  unfold cmdClearTrip
  split
  · exact .inl rfl
  split
  · exact .inr (by simp [grantClear])
  · exact .inl rfl

/-- Every command but CLEAR-TRIP leaves the protection state. -/
theorem commandOf_protection {code : Byte} (hc : code ≠ 0x0E) (p : List Byte) (s : State) :
    (commandOf code p s).2.protection = s.protection := by
  generalize hcmd : commandOf code p = cmd
  unfold commandOf at hcmd
  split at hcmd <;> subst hcmd
  case h_14 hcode => exact absurd (BitVec.eq_of_toNat_eq hcode) hc
  all_goals
    simp only [cmdIdentify, cmdReadStatus, cmdReadEvents, cmdSetEvents, cmdHubReset, cmdSweepStart, cmdSweepStop, cmdChainGate,
      cmdEnumerate, cmdSetProfile, cmdReadSamples, cmdReadPack, cmdReadTrip, cmdClose, cmdOpen, cmdReadCapture, cmdSleep,
      cmdUpdateBegin, cmdUpdateWindow, cmdUpdateWrite, cmdUpdateSeal, cmdUpdateActivate, cmdUpdateAbort, cmdLockFloor, cmdClearTamper,
      cmdReadTable, cmdUnknown, refuseWrite, writeStage] <;>
    (repeat' split) <;> simp

theorem dispatch_protection (code : Byte) (cmd : State → Reply × State) (s : State) :
    (dispatch code cmd s).protection = (cmd (if code = 0x15 then acceptFrame s else closeWrite (acceptFrame s))).2.protection := by
  rw [dispatch_eq, enqueueReserved_protection]

theorem accepted_protection (code : Byte) (s : State) :
    (if code = 0x15 then acceptFrame s else closeWrite (acceptFrame s)).protection = s.protection := by split <;> rfl

/-- A row with the code of CLEAR-TRIP is CLEAR-TRIP or an exchange that carried it. -/
theorem clearTrip_of_carries {c : Instr} {p : List Byte} (h : Carries c 0x0E p) :
    c = .clearTrip ∨ ∃ rx f rest, c = .exchangeEnd rx ∧ goodFrame? rx = some f ∧ f.kind = 0x03 ∧ f.payload = 0x0E :: rest := by
  rcases h with ⟨hc, known⟩ | ⟨rx, f, hc, hf, hkind, hpayload⟩
  · cases c with
    | unknownCommand k => exact absurd rfl (known k)
    | clearTrip => exact .inl rfl
    | _ => simp [commandFrame] at hc
  · exact .inr ⟨rx, f, p, hc, hf, hkind, hpayload⟩

/-- The end of an exchange leaves SAFE_OPEN by a granted CLEAR-TRIP alone. -/
theorem portEnd_staysSafeOpen {c : Instr} {s t : State} (h : PortEnd c s t) :
    StaysSafeOpen s t ∨
      (t.protection.state = .normal ∧
        (c = .clearTrip ∨ ∃ rx f rest, c = .exchangeEnd rx ∧ goodFrame? rx = some f ∧ f.kind = 0x03 ∧ f.payload = 0x0E :: rest)) := by
  cases h with
  | dropped => exact .inl (.refl s)
  | held => exact .inl (.of_protection rfl)
  | forwarded => exact .inl (.of_protection (by simp))
  | unknown => exact .inl (.of_protection (by rw [dispatch_protection]; exact accepted_protection _ s))
  | command code p carries =>
    by_cases hcode : code = 0x0E
    · subst hcode
      have ended : (dispatch 0x0E (commandOf 0x0E p) s).protection = (cmdClearTrip (closeWrite (acceptFrame s))).2.protection := rfl
      rcases cmdClearTrip_protection (closeWrite (acceptFrame s)) with e | e
      · exact .inl (.of_protection (ended.trans (.trans (congrArg State.protection e) (accepted_protection 0x0E s))))
      · exact .inr ⟨(congrArg ProtectionUnit.state ended).trans e, clearTrip_of_carries carries⟩
    · exact .inl (.of_protection (by rw [dispatch_protection, commandOf_protection hcode, accepted_protection]))

/-! ### Every command -/

theorem coldState_protection (s : State) : (resetEnd (coldState s)).protection.state = .normal := by
  rw [resetEnd_protection]; rfl

theorem hardState_protection (s : State) : (resetEnd (hardState s)).protection.state = .normal := by
  rw [resetEnd_protection]; rfl

/-- The row is neither a row of the Controller Port nor the end of an exchange nor a cold reset. -/
def OutsideEvent (c : Instr) : Prop :=
  commandFrame c = none ∧ (∀ rx, c ≠ .exchangeEnd rx) ∧ c ≠ .powerOnReset ∧ c ≠ .hardReset

theorem weldTimedOut_staysSafeOpen (s : State) : StaysSafeOpen s (weldTimedOut s) := by
  have welded : StaysSafeOpen s (writeOpen .welded (enterFaulted s)) := .of_protection (by simp)
  exact .ite (.of_protection (by simp)) (welded.trans (tripPlain_staysSafeOpen _ _ _))

theorem event_staysSafeOpen {c : Instr} {s t : State} (hc : OutsideEvent c) (ht : exec c s = .next t) : StaysSafeOpen s t := by
  obtain ⟨port, ended, power, hard⟩ := hc
  have arbitrated (u : State) : StaysSafeOpen u (arbitrate u) := .of_protection (arbitrate_protection u)
  cases c with
  | exchangeEnd rx => exact absurd rfl (ended rx)
  | powerOnReset => exact absurd rfl power
  | hardReset => exact absurd rfl hard
  | answerReceived | responseWindowClose | answerLengthBad => exact staysSafeOpen_rule.exec (by simp) ht
  | prechargeTimeout =>
    cases ht
    have broken : StaysSafeOpen s (breakOffClose .timedOut .timeout s) := .of_protection (by simp)
    exact .ite ((broken.trans (tripPlain_staysSafeOpen _ _ _)).trans (arbitrated _)) (.refl s)
  | weldTimerExpiry => cases ht; exact .ite ((weldTimedOut_staysSafeOpen s).trans (arbitrated _)) (.refl s)
  | disagreementTimerExpiry =>
    cases ht
    have stopped (c : Contactor) : StaysSafeOpen s (stopDisagree c s) := .of_protection (by simp)
    exact .ite (((stopped _).trans (tripFeedbacks_staysSafeOpen _ _)).trans (arbitrated _)) (.refl s)
  | silenceTimerExpiry =>
    cases ht
    have stopped : StaysSafeOpen s { s with sequencer.silenceTimer := none } := .of_protection rfl
    exact .ite ((stopped.trans (tripPlain_staysSafeOpen _ _ _)).trans (arbitrated _)) (.refl s)
  | broadcastSent | verifyEnd | commitEnd =>
    simp only [exec, execBroadcastSent, execVerifyEnd, execCommitEnd] at ht
    (repeat' split at ht) <;> cases ht <;> exact .of_protection (by simp)
  | exchangeBegin => cases ht; exact .ite (.refl s) (.ite (.of_protection (by simp)) (.of_protection (by simp)))
  | linkWake | tamperIn => cases ht; exact .ite (.refl s) (.of_protection (by simp))
  | wakeIn | noticeAdmitted | strayFrame | tamperInDeasserted => cases ht; exact .of_protection (by simp)
  | syncIn | syncWaitExpiry | sweepEnd | slotDue | quietWindowStart | deferredSlotsDue | captureStepDue | endedContextLeaves
  | feedbackDebounced | deferTimerExpiry | dwellTimerExpiry | drainComplete | drainTimerExpiry | watchTimerExpiry | chainSettleEnd
  | oscillatorStarted =>
    cases ht
    exact .ite (.of_protection (by simp)) (.refl s)
  | _ => simp [commandFrame] at port

/-- Settles O58: by the end of an exchange for the rows of the Controller Port, by the state both cold resets load, and by what every
other row leaves of SAFE_OPEN. -/
theorem safeOpenIsLeftByClearingAlone : Obligations.SafeOpenIsLeftByClearingAlone := by
  intro c s t hs ht left
  have notKept : ¬ StaysSafeOpen s t := fun kept => left (kept hs)
  by_cases hport : (commandFrame c).isSome = true ∨ ∃ rx, c = .exchangeEnd rx
  · rcases exec_portEnd hport ht with rfl | ended
    · exact absurd hs left
    · rcases portEnd_staysSafeOpen ended with kept | ⟨normal, cleared⟩
      · exact absurd kept notKept
      · exact ⟨normal, .inr (.inr cleared)⟩
  · obtain ⟨port, ended⟩ := not_or.1 hport
    by_cases power : c = .powerOnReset
    · subst power; cases ht; exact ⟨coldState_protection s, .inl rfl⟩
    by_cases hard : c = .hardReset
    · subst hard; cases ht; exact ⟨hardState_protection s, .inr (.inl rfl)⟩
    · have outside : OutsideEvent c := ⟨by simpa using port, fun rx h => ended ⟨rx, h⟩, power, hard⟩
      exact absurd (event_staysSafeOpen outside ht) notKept

end Sys2Proof.Machine
end

section
/-! What the commands with many refusals leave: the state as it was, or the effect that follows when every check passes. -/

namespace Sys2Proof.Machine

theorem cmdHubReset_state (s : State) : (cmdHubReset s).2 = s ∨ (cmdHubReset s).2 = directedReset s := by
  unfold cmdHubReset
  split
  · exact .inr rfl
  · exact .inl rfl

theorem cmdSweepStart_state (s : State) : (cmdSweepStart s).2 = s ∨ (cmdSweepStart s).2 = startEngine s := by
  unfold cmdSweepStart
  iterate 4
    split
    · exact .inl rfl
  exact .inr rfl

theorem cmdChainGate_state (p : List Byte) (s : State) :
    (cmdChainGate p s).2 = s ∨
      ∃ b : Byte, (cmdChainGate p s).2 = arbitrate { s with arbiter.maskForward := b.getLsbD 0, arbiter.maskSweep := b.getLsbD 1 } := by
  unfold cmdChainGate
  split
  · exact .inl rfl
  · exact .inr ⟨_, rfl⟩

theorem cmdEnumerate_state (s : State) : (cmdEnumerate s).2 = s ∨ (cmdEnumerate s).2 = beginEnumeration s := by
  unfold cmdEnumerate
  iterate 6
    split
    · exact .inl rfl
  exact .inr rfl

theorem cmdClose_state (s : State) :
    (cmdClose s).2 = s ∨ (cmdClose s).2 = serveRequest { s with sequencer.closePending := true } := by
  unfold cmdClose
  split
  · exact .inl rfl
  split
  · exact .inl rfl
  split
  case h_7 =>
    iterate 4
      split
      · exact .inl rfl
    exact .inr rfl
  all_goals exact .inl rfl

theorem cmdOpen_state (s : State) :
    (cmdOpen s).2 = s ∨ (cmdOpen s).2 = writeClose .cancelled none { s with sequencer.closePending := false } ∨
      (cmdOpen s).2 = arbitrate (breakOffClose .interrupted .interrupt s) ∨
      (cmdOpen s).2 = serveRequest { s with sequencer.openPending := true } := by
  unfold cmdOpen
  split
  · split
    · exact .inr (.inl rfl)
    · exact .inl rfl
  · exact .inr (.inr (.inl rfl))
  · exact .inr (.inr (.inl rfl))
  · split
    · exact .inl rfl
    · exact .inr (.inr (.inr rfl))
  all_goals exact .inl rfl

theorem cmdSleep_state (s : State) : (cmdSleep s).2 = s ∨ (cmdSleep s).2 = enterDrain s := by
  unfold cmdSleep
  split
  · exact .inl rfl
  split
  · exact .inl rfl
  · exact .inr rfl

theorem cmdUpdateActivate_state (s : State) :
    (cmdUpdateActivate s).2 = s ∨
      ∃ g, s.update.state = .sealed ∧ s.update.stage = some g ∧ (cmdUpdateActivate s).2 = beginCommit g s := by
  unfold cmdUpdateActivate
  iterate 4
    split
    · exact .inl rfl
  split
  next g sealed staged =>
    split
    · exact .inl rfl
    · exact .inr ⟨g, sealed, staged, rfl⟩
  · exact .inl rfl

end Sys2Proof.Machine
end

section
/-! The Update Engine and the Table Store over one step, for any relation that their own operations keep: everything else leaves both
blocks as they are, and a sweep boundary makes the pending swap alone. -/

namespace Sys2Proof.Machine

/-- What a relation must be closed under to hold over every step: the operations that touch the Update Engine or the Table Store. -/
structure UpdateRule (R : State → State → Prop) : Prop where
  trans : ∀ {s t u}, R s t → R t u → R s u
  same : ∀ {s t : State}, t.tables = s.tables → t.update = s.update → R s t
  swapped : ∀ s, R s (swapImage s)
  writeClosed : ∀ s, R s (closeWrite s)
  latched : ∀ reading latch (s : State), R s { s with update.tamperReading := reading, update.tamperLatch := latch }
  tampered : ∀ s, R s (tamperUpdate s)
  dropped : ∀ s, R s (directedUpdate s)
  begun : ∀ p s, R s (cmdUpdateBegin p s).2
  windowed : ∀ p s, R s (cmdUpdateWindow p s).2
  written : ∀ p s, R s (cmdUpdateWrite p s).2
  sealing : ∀ p s, R s (cmdUpdateSeal p s).2
  activated : ∀ s, R s (cmdUpdateActivate s).2
  aborted : ∀ s, R s (cmdUpdateAbort s).2
  floorLocked : ∀ s, R s (cmdLockFloor s).2
  verified : ∀ g tag s, s.update.state = .verifying → s.update.stage = some g → R s (verifyStage g tag s)
  committed : ∀ readBack target img s, s.update.state = .committing → s.update.target = some target → s.update.commit = some img →
    R s (endCommit readBack target img s)
  coldLoaded : ∀ s, R s (coldState s)
  hardLoaded : ∀ s, R s (hardState s)

section

variable {R : State → State → Prop} (rule : UpdateRule R)
include rule

theorem UpdateRule.refl (s : State) : R s s := rule.same rfl rfl

omit rule in
theorem UpdateRule.ite {s t u : State} {c : Prop} [Decidable c] (_ : UpdateRule R) (ht : R s t) (hu : R s u) : R s (if c then t else u) := by
  split
  · exact ht
  · exact hu

theorem UpdateRule.thenSame {s t u : State} (h : R s t) (tables : u.tables = t.tables) (update : u.update = t.update) : R s u :=
  rule.trans h (rule.same tables update)

/-! ### Boundaries -/

theorem UpdateRule.applyPending (s : State) : R s (applyPending s) :=
  rule.thenSame (rule.swapped s) (by simp [Machine.applyPending]) (by simp [Machine.applyPending])

theorem UpdateRule.pendingThenOffer (s : State) : R s (pendingThenOffer s) := by
  have offered (u : State) : R u (switchPoint (Machine.applyPending u)) :=
    rule.thenSame (rule.applyPending u) (by simp) (by simp)
  have chosen : R s (takeChoice s).2 := rule.same rfl rfl
  have first (u : State) : R u (Machine.applyPending (switchPoint u)) := rule.trans (rule.same (by simp) (by simp)) (rule.applyPending _)
  unfold Machine.pendingThenOffer
  exact rule.ite (rule.trans chosen (rule.ite (first _) (offered _))) (offered s)

theorem UpdateRule.enterStopped (s : State) : R s (enterStopped s) :=
  rule.trans (t := { s with sweep.engine := .stopped }) (rule.same rfl rfl) (rule.pendingThenOffer _)

theorem UpdateRule.beginSweep (syncLost : Bool) (s : State) : R s (beginSweep syncLost s) :=
  rule.trans (t := atBoundary s) (rule.ite (rule.pendingThenOffer s) (rule.applyPending s))
    (rule.ite (rule.same rfl rfl) (rule.same (by simp) (by simp)))

theorem UpdateRule.endSweep (s : State) : R s (endSweep s) := by
  have completed : R s (completeRecord (sumCheck (abandonWork s))) := rule.same (by simp) (by simp)
  unfold Machine.endSweep
  exact rule.trans completed
    (rule.ite (rule.enterStopped _) (rule.ite (rule.same (by simp) (by simp)) (rule.beginSweep _ _)))

theorem UpdateRule.thenArbitrate {s t : State} (h : R s t) : R s (arbitrate t) :=
  rule.thenSame h (arbitrate_tables t) (arbitrate_update t)

theorem UpdateRule.syncEdge (s : State) : R s (syncEdge s) :=
  rule.thenSame (rule.beginSweep false s) (by simp [Machine.syncEdge]) (by simp [Machine.syncEdge])

theorem UpdateRule.syncLost (s : State) : R s (syncLost s) :=
  rule.thenArbitrate (rule.trans (rule.beginSweep true s) (rule.ite (rule.same rfl rfl) (rule.refl _)))

theorem UpdateRule.startEngine (s : State) : R s (startEngine s) := by
  unfold Machine.startEngine
  split
  · exact rule.ite (rule.same (by simp) (by simp)) (rule.thenArbitrate (rule.beginSweep false s))
  · exact rule.same rfl rfl
  all_goals exact rule.refl s

theorem UpdateRule.stopEngine (s : State) : R s (stopEngine s) := by
  unfold Machine.stopEngine
  split
  · exact rule.same rfl rfl
  · exact rule.thenArbitrate (rule.enterStopped s)
  all_goals exact rule.refl s

/-! ### Tamper and resets -/

theorem UpdateRule.tamperAsserted (s : State) : R s (tamperAsserted s) :=
  rule.trans (rule.trans (rule.latched true true s) (rule.same (by simp) (by simp))) (rule.tampered _)

theorem UpdateRule.tamperAtReset (s : State) : R s (tamperAtReset s) := rule.ite (rule.tamperAsserted s) (rule.refl s)

theorem UpdateRule.resetEnd (s : State) : R s (resetEnd s) := rule.trans (rule.same (by simp) (by simp)) (rule.tamperAtReset _)

theorem UpdateRule.directedReset (s : State) : R s (directedReset s) := by
  have cleared : R s (directedUpdate (swapImage s)) := rule.trans (rule.swapped s) (rule.dropped _)
  unfold Machine.directedReset
  exact rule.trans (rule.trans cleared (rule.same (by simp) (by simp))) (rule.tamperAtReset _)

/-! ### Commands -/

theorem UpdateRule.clearTamper (s : State) : R s (cmdClearTamper s).2 := by
  unfold cmdClearTamper
  iterate 4
    split
    · exact rule.refl s
  exact rule.latched s.update.tamperReading false s

theorem UpdateRule.commandOf (code : Byte) (p : List Byte) (s : State) : R s (commandOf code p s).2 := by
  generalize hcmd : Machine.commandOf code p = cmd
  unfold Machine.commandOf at hcmd
  split at hcmd <;> subst hcmd
  case h_5 =>
    rcases cmdHubReset_state s with e | e <;> rw [e]
    · exact rule.refl s
    · exact rule.directedReset s
  case h_6 =>
    rcases cmdSweepStart_state s with e | e <;> rw [e]
    · exact rule.refl s
    · exact rule.startEngine s
  case h_7 => exact rule.stopEngine s
  case h_19 => exact rule.begun p s
  case h_20 => exact rule.windowed p s
  case h_21 => exact rule.written p s
  case h_22 => exact rule.sealing p s
  case h_23 => exact rule.activated s
  case h_24 => exact rule.aborted s
  case h_25 => exact rule.floorLocked s
  case h_26 => exact rule.clearTamper s
  all_goals
    simp only [cmdIdentify, cmdReadStatus, cmdReadEvents, cmdSetEvents, cmdChainGate, cmdEnumerate, cmdSetProfile, cmdReadSamples,
      cmdReadPack, cmdReadTrip, cmdClearTrip, cmdClose, cmdOpen, cmdReadCapture, cmdSleep, cmdReadTable, cmdUnknown]
    (repeat' split)
    all_goals exact rule.same (by simp) (by simp)

theorem UpdateRule.dispatch {cmd : State → Reply × State} (h : ∀ u, R u (cmd u).2) (code : Byte) (s : State) : R s (dispatch code cmd s) := by
  have accepted : R s (acceptFrame s) := rule.same rfl rfl
  rw [dispatch_eq]
  exact rule.thenSame (rule.trans (rule.ite accepted (rule.trans accepted (rule.writeClosed _))) (h _)) (enqueueReserved_tables _ _)
    (enqueueReserved_update _ _)

theorem UpdateRule.portEnd {c : Instr} {s t : State} (h : PortEnd c s t) : R s t := by
  cases h with
  | dropped => exact rule.refl s
  | held => exact rule.same rfl rfl
  | forwarded => exact rule.same (by simp) (by simp)
  | unknown code => exact rule.dispatch (fun u => rule.refl u) code s
  | command code p => exact rule.dispatch (rule.commandOf code p) code s

/-! ### Events -/

theorem UpdateRule.verifyEnd {s t : State} (ht : exec .verifyEnd s = .next t) : R s t := by
  simp only [Machine.exec, execVerifyEnd] at ht
  split at ht <;> cases ht
  next verifying staged _ => exact rule.verified _ _ s verifying staged
  · exact rule.refl s

theorem UpdateRule.commitEnd {readBack : Bool} {s t : State} (ht : exec (.commitEnd readBack) s = .next t) : R s t := by
  simp only [Machine.exec, execCommitEnd] at ht
  split at ht <;> cases ht
  next committing target commit => exact rule.committed _ _ _ s committing target commit
  · exact rule.refl s

theorem UpdateRule.event {c : Instr} {s t : State} (port : commandFrame c = none) (ended : ∀ rx, c ≠ .exchangeEnd rx)
    (ht : Machine.exec c s = .next t) : R s t := by
  cases c with
  | exchangeEnd rx => exact absurd rfl (ended rx)
  | powerOnReset => cases ht; exact rule.trans (rule.coldLoaded s) (rule.resetEnd _)
  | hardReset => cases ht; exact rule.trans (rule.hardLoaded s) (rule.resetEnd _)
  | verifyEnd => exact rule.verifyEnd ht
  | commitEnd => exact rule.commitEnd ht
  | tamperIn => cases ht; exact rule.ite (rule.refl s) (rule.tamperAsserted s)
  | tamperInDeasserted => cases ht; exact rule.latched false s.update.tamperLatch s
  | syncIn => cases ht; exact rule.ite (rule.syncEdge s) (rule.refl s)
  | syncWaitExpiry => cases ht; exact rule.ite (rule.syncLost s) (rule.refl s)
  | sweepEnd => cases ht; exact rule.ite (rule.thenArbitrate (rule.endSweep s)) (rule.refl s)
  | broadcastSent | answerReceived | responseWindowClose | answerLengthBad =>
    simp only [Machine.exec, execBroadcastSent, execAnswerReceived, execResponseWindowClose, execAnswerLengthBad] at ht
    (repeat' split at ht) <;> cases ht <;> first | exact rule.refl s | exact rule.same (by simp) (by simp)
  | exchangeBegin => cases ht; exact rule.ite (rule.refl s) (rule.ite (rule.same (by simp) (by simp)) (rule.same (by simp) (by simp)))
  | linkWake => cases ht; exact rule.ite (rule.refl s) (rule.same (by simp) (by simp))
  | wakeIn | noticeAdmitted | strayFrame => cases ht; exact rule.same (by simp) (by simp)
  | slotDue | quietWindowStart | deferredSlotsDue | captureStepDue | endedContextLeaves
  | feedbackDebounced | prechargeTimeout | deferTimerExpiry | dwellTimerExpiry | weldTimerExpiry | disagreementTimerExpiry
  | silenceTimerExpiry | drainComplete | drainTimerExpiry | watchTimerExpiry | chainSettleEnd | oscillatorStarted =>
    cases ht
    exact rule.ite (rule.same (by simp) (by simp)) (rule.refl s)
  | _ => simp [commandFrame] at port

theorem UpdateRule.exec {c : Instr} {s t : State} (ht : Machine.exec c s = .next t) : R s t := by
  by_cases hport : (commandFrame c).isSome = true ∨ ∃ rx, c = .exchangeEnd rx
  · rcases exec_portEnd hport ht with rfl | ended
    · exact rule.refl _
    · exact rule.trans (t := { s with link.exchange := none }) (rule.same rfl rfl) (rule.portEnd ended)
  · obtain ⟨port, ended⟩ := not_or.1 hport
    exact rule.event (by simpa using port) (fun rx h => ended ⟨rx, h⟩) ht

theorem UpdateRule.step {s t : State} (ht : Machine.step s = .next t) : R s t := by
  rcases step_cases ht with ⟨c, hc⟩ | ⟨c, rest, hc⟩ | rfl
  · exact rule.exec hc
  · exact rule.trans (t := { s with pending := rest }) (rule.same rfl rfl) (rule.exec hc)
  · exact rule.same (by simp) (by simp)

end

end Sys2Proof.Machine
end

section
/-! The live generation (O56, R160 to R164, R176, R177, R185). A load and a swap alone change the live image: a load takes the newest slot,
among which the live slot stands, and a swap takes the commit, which is newer than the live image. -/

namespace Sys2Proof.Machine

/-- What keeps the generation from falling is kept, and the generation has not fallen. -/
def GenerationKept (s t : State) : Prop :=
  generationsFit s = true → (live s).generation.toNat ≤ (live t).generation.toNat ∧ generationsFit t = true

theorem GenerationKept.trans {s t u : State} (h : GenerationKept s t) (k : GenerationKept t u) : GenerationKept s u := fun hs =>
  have ⟨before, fits⟩ := h hs
  have ⟨later, kept⟩ := k fits
  ⟨Nat.le_trans before later, kept⟩

theorem generationsFit_iff (s : State) :
    generationsFit s = true ↔
      liveSlotFits s = true ∧ stageNewer s = true ∧ commitFits s = true ∧ armedFits s = true ∧ stageFits s = true := by
  simp [generationsFit, and_assoc]

/-- With no update in progress the live slot is all that is asked about. -/
theorem generationsFit_of_no_stage {t : State} (hlive : liveSlotFits t = true) (hstate : t.update.state = .idle ∨ t.update.state = .locked)
    (hstage : t.update.stage = none) (htarget : t.update.target = none) (hcommit : t.update.commit = none) : generationsFit t = true := by
  rw [generationsFit_iff]
  refine ⟨hlive, ?_, ?_, ?_, ?_⟩
  · simp [stageNewer, hstage]
  · simp [commitFits, hstage, htarget, hcommit]
  · rcases hstate with h | h <;> simp [armedFits, h]
  · rcases hstate with h | h <;> simp [stageFits, h, hstage]

/-- An update is discarded: the live image and the slots stay. -/
theorem GenerationKept.of_discarded {s t : State} (htables : t.tables = s.tables)
    (hstate : t.update.state = .idle ∨ t.update.state = .locked) (hstage : t.update.stage = none) (htarget : t.update.target = none)
    (hcommit : t.update.commit = none) : GenerationKept s t := fun hs => by
  have hlive : liveSlotFits t = liveSlotFits s := by simp only [liveSlotFits, slotGeneration, slotOf, live, htables]
  obtain ⟨hfits, -⟩ := (generationsFit_iff s).1 hs
  exact ⟨Nat.le_of_eq (by rw [live, live, htables]),
    generationsFit_of_no_stage (hlive.trans hfits) hstate hstage htarget hcommit⟩

/-- The generation that a stage carries. -/
def stageGeneration (s : State) : Option Word := s.update.stage.map fun g => g.image.generation

/-- All that the invariant reads is as before but the update state, which has a stage as before and is not newly ARMED. -/
structure SameGenerations (s t : State) : Prop where
  tables : t.tables = s.tables
  stage : stageGeneration t = stageGeneration s
  target : t.update.target = s.update.target
  commit : t.update.commit = s.update.commit
  armed : t.update.state = .armed → s.update.state = .armed
  staged : stageFits s = true → stageFits t = true

theorem stageNewer_iff (s : State) :
    stageNewer s = true ↔ ∀ g, stageGeneration s = some g → (live s).generation.toNat < g.toNat := by
  unfold stageNewer stageGeneration
  cases s.update.stage <;> simp

theorem commitFits_iff (s : State) :
    commitFits s = true ↔
      (∀ i, s.update.commit = some i → some i.generation = stageGeneration s) ∧
        (∀ id, s.update.target = some id → s.tables.liveSlot ≠ some id) ∧ s.update.target.isSome = s.update.commit.isSome := by
  unfold commitFits stageGeneration
  cases s.update.stage <;> cases s.update.commit <;> cases s.update.target <;> simp

theorem armedFits_iff (s : State) :
    armedFits s = true ↔
      (s.update.state = .armed → ∃ id i, s.update.target = some id ∧ s.update.commit = some i ∧ slotOf s id = some i) := by
  unfold armedFits
  by_cases h : s.update.state = .armed <;> cases s.update.target <;> cases s.update.commit <;> simp [h]

theorem GenerationKept.of_same {s t : State} (h : SameGenerations s t) : GenerationKept s t := fun hs => by
  obtain ⟨hlive, hstage, hcommit, harmed, hstaged⟩ := (generationsFit_iff s).1 hs
  have slots (id : SlotId) : slotOf t id = slotOf s id := by cases id <;> simp only [slotOf, h.tables]
  refine ⟨Nat.le_of_eq (by rw [live, live, h.tables]), (generationsFit_iff t).2 ⟨?_, ?_, ?_, ?_, h.staged hstaged⟩⟩
  · simpa only [liveSlotFits, slotGeneration, slots, live, h.tables] using hlive
  · rw [stageNewer_iff] at hstage ⊢
    rwa [h.stage, live, h.tables]
  · rw [commitFits_iff] at hcommit ⊢
    rwa [h.stage, h.commit, h.target, h.tables]
  · rw [armedFits_iff] at harmed ⊢
    intro ht
    simp only [slots, h.target, h.commit]
    exact harmed (h.armed ht)

theorem GenerationKept.refl (s : State) : GenerationKept s s := .of_same ⟨rfl, rfl, rfl, rfl, id, id⟩

theorem GenerationKept.of_untouched {s t : State} (ht : t.tables = s.tables) (hu : t.update = s.update) : GenerationKept s t :=
  .of_same ⟨ht, by rw [stageGeneration, stageGeneration, hu], by rw [hu], by rw [hu], by rw [hu]; exact id,
    by rw [stageFits, stageFits, hu]; exact id⟩

theorem GenerationKept.ite {s t u : State} {c : Prop} [Decidable c] (ht : GenerationKept s t) (hu : GenerationKept s u) :
    GenerationKept s (if c then t else u) := by
  split
  · exact ht
  · exact hu

/-- The update states that have a stage (R163). -/
def hasStage : UpdateState → Bool
  | .staging | .verifying | .sealed | .committing | .armed => true
  | .idle | .locked => false

theorem stageFits_eq (s : State) : stageFits s = (s.update.stage.isSome == hasStage s.update.state) := by
  unfold stageFits hasStage
  cases s.update.state <;> rfl

/-! ### Protocol -/

theorem reportUpdate_generationKept (r : UpdateResult) (s : State) : GenerationKept s (reportUpdate r s) :=
  .of_same ⟨rfl, rfl, rfl, rfl, id, id⟩

theorem dropUpdate_generationKept (s : State) : GenerationKept s (dropUpdate s) := .of_discarded rfl (.inl rfl) rfl rfl rfl

/-- The update moves between two states with a stage, neither of them newly ARMED. -/
theorem GenerationKept.of_moved {s t : State} (htables : t.tables = s.tables) (hstage : stageGeneration t = stageGeneration s)
    (htarget : t.update.target = s.update.target) (hcommit : t.update.commit = s.update.commit)
    (hstate : hasStage s.update.state = true ∧ hasStage t.update.state = true ∧ t.update.state ≠ .armed) : GenerationKept s t := by
  obtain ⟨before, now, notArmed⟩ := hstate
  have some : t.update.stage.isSome = s.update.stage.isSome := by simpa [stageGeneration] using congrArg Option.isSome hstage
  refine .of_same ⟨htables, hstage, htarget, hcommit, fun h => absurd h notArmed, fun h => ?_⟩
  rw [stageFits_eq] at h ⊢
  rw [before] at h
  rwa [some, now]

theorem tamperUpdate_generationKept (s : State) : GenerationKept s (tamperUpdate s) := by
  have discarded : GenerationKept s (reportUpdate .abortedTamper (dropUpdate s)) :=
    (dropUpdate_generationKept s).trans (reportUpdate_generationKept _ _)
  unfold tamperUpdate
  split
  · exact .refl s
  · exact .refl s
  · exact .refl s
  · exact discarded
  · exact discarded
  · exact discarded
  · exact .of_same ⟨rfl, rfl, rfl, rfl, id, id⟩

/-- UPDATE-BEGIN makes a stage newer than the live image (R164). -/
theorem cmdUpdateBegin_generationKept (p : List Byte) (s : State) : GenerationKept s (cmdUpdateBegin p s).2 := by
  rcases cmdUpdateBegin_cases p s with e | ⟨b, g, passed, e⟩ <;> rw [e]
  · exact .refl s
  intro hs
  obtain ⟨-, -, newer, -, idle, -⟩ := (beginRefusal_eq_none_iff b g s).1 passed
  obtain ⟨hlive, -, hcommit, -, -⟩ := (generationsFit_iff s).1 hs
  have unstaged : stageGeneration s = none := by simp [stageGeneration, stage_of_idle hs idle]
  refine ⟨Nat.le_refl _, (generationsFit_iff _).2 ⟨hlive, ?_, ?_, ?_, rfl⟩⟩
  · rw [stageNewer_iff]
    rintro _ ⟨⟩
    exact newer
  · rw [commitFits_iff] at hcommit ⊢
    exact ⟨fun i hi => absurd (hcommit.1 i hi) (by simp [unstaged]), hcommit.2⟩
  · rw [armedFits_iff]
    rintro ⟨⟩

theorem setEntry_generation (img : Image) (t : Table) (i : Nat) (values : List Nat) : (setEntry img t i values).generation = img.generation := by
  unfold setEntry
  cases t <;> dsimp only <;> (try split) <;> rfl

theorem writeEntries_generation (o : OpenWrite) (w : Window) (es : List (List Byte)) (img : Image) (cursor written ignored : Nat) :
    (writeEntries o w es img cursor written ignored).1.generation = img.generation := by
  induction es generalizing img cursor written ignored with
  | nil => rfl
  | cons e es ih =>
    unfold writeEntries
    split
    · rw [ih, writeEntry, setEntry_generation]
    · exact ih _ _ _ _

theorem cmdUpdateWindow_generationKept (p : List Byte) (s : State) : GenerationKept s (cmdUpdateWindow p s).2 := by
  unfold cmdUpdateWindow
  (repeat' split)
  all_goals exact .of_same ⟨rfl, rfl, rfl, rfl, id, id⟩

/-- Entries written to a stage leave its generation (R167). -/
theorem cmdUpdateWrite_generationKept (p : List Byte) (s : State) : GenerationKept s (cmdUpdateWrite p s).2 := by
  have refused (r : Reason) : GenerationKept s (refuseWrite r s).2 := .of_same ⟨rfl, rfl, rfl, rfl, id, id⟩
  have written {g : Stage} (hs : s.update.state = .staging) (hg : s.update.stage = some g) (w : Window) (o : OpenWrite)
      (entries : List (List Byte)) : GenerationKept s (writeStage g w o entries s).2 := by
    refine .of_moved rfl ?_ rfl rfl ⟨by rw [hs]; rfl, ?_, ?_⟩
    · simp [writeStage, stageGeneration, hg, writeEntries_generation]
    · show hasStage s.update.state = true
      rw [hs]; rfl
    · show s.update.state ≠ .armed
      simp [hs]
  unfold cmdUpdateWrite
  split
  · exact refused _
  split
  next g hs hg =>
    split
    · exact refused _
    split
    · exact refused _
    split
    · split
      · exact written hs hg _ _ _
      · exact refused _
    · exact refused _
  · exact refused _

theorem cmdUpdateSeal_generationKept (p : List Byte) (s : State) : GenerationKept s (cmdUpdateSeal p s).2 := by
  unfold cmdUpdateSeal
  split
  · exact .refl s
  split
  · exact .refl s
  split
  · exact .refl s
  next staging =>
    split
    · exact .refl s
    · exact .of_moved rfl rfl rfl rfl ⟨by simp [Classical.not_not.1 staging, hasStage], rfl, by simp⟩

theorem cmdUpdateAbort_generationKept (s : State) : GenerationKept s (cmdUpdateAbort s).2 := by
  have aborted : GenerationKept s (setResult .aborted (dropUpdate s)) := .of_discarded rfl (.inl rfl) rfl rfl rfl
  unfold cmdUpdateAbort
  split
  · exact .refl s
  · exact aborted
  · exact aborted
  · exact aborted
  all_goals exact .refl s

theorem cmdLockFloor_generationKept (s : State) : GenerationKept s (cmdLockFloor s).2 := by
  unfold cmdLockFloor
  (repeat' split)
  all_goals exact .of_same ⟨rfl, rfl, rfl, rfl, id, id⟩

theorem verifyStage_generationKept (g : Stage) (tag : Tag) {s : State} (hs : s.update.state = .verifying) :
    GenerationKept s (verifyStage g tag s) := by
  have before : hasStage s.update.state = true := by rw [hs]; rfl
  have rejected (t : Table) (i : Nat) : GenerationKept s (rejectStructure t i s) :=
    .of_moved rfl rfl rfl rfl ⟨before, by simp [rejectStructure, hasStage], by simp [rejectStructure]⟩
  have accepted : GenerationKept s (sealStage s) :=
    .of_moved rfl rfl rfl rfl ⟨before, by simp [sealStage, reportUpdate, setResult, hasStage], by simp [sealStage, reportUpdate, setResult]⟩
  have mismatched : GenerationKept s (rejectTag s) := by
    unfold rejectTag
    dsimp only
    refine .trans (.ite ?_ ?_) (reportUpdate_generationKept .rejectedTag _)
    · exact .of_discarded rfl (.inr rfl) rfl rfl rfl
    · exact .of_moved rfl rfl rfl rfl ⟨before, rfl, by simp⟩
  unfold verifyStage
  split
  · exact rejected _ _
  · exact .ite accepted mismatched

/-! ### Commit, swap and load -/

theorem slotOf_setSlot (id other : SlotId) (img : Option Image) (s : State) :
    slotOf (setSlot id img s) other = if other = id then img else slotOf s other := by
  cases id <;> cases other <;> rfl

/-- A slot that is not the live one is written or erased. -/
theorem liveSlotFits_setSlot {s : State} {id : SlotId} (img : Option Image) (h : liveSlotFits s = true)
    (other : s.tables.liveSlot ≠ some id) : liveSlotFits (setSlot id img s) = true := by
  unfold liveSlotFits slotGeneration live at *
  rw [setSlot_liveSlot, setSlot_live]
  cases hl : s.tables.liveSlot with
  | none => simpa [hl] using h
  | some l =>
    have : l ≠ id := fun e => other (by rw [hl, e])
    simpa [hl, slotOf_setSlot, this] using h

theorem commitTarget_ne (l : Option SlotId) : l ≠ some (commitTarget l) := by
  rcases l with _ | _ | _ <;> simp [commitTarget]

/-- A commit begins in the slot that is not live, with the staged generation (R176, R177). -/
theorem beginCommit_generationKept {g : Stage} {s : State} (hg : s.update.stage = some g) :
    GenerationKept s (beginCommit g s) := fun fits => by
  obtain ⟨hlive, hstage, -, -, -⟩ := (generationsFit_iff s).1 fits
  have same : live (beginCommit g s) = live s := by simp [live]
  have staged : stageGeneration (beginCommit g s) = some g.image.generation := by simp [stageGeneration, hg]
  refine ⟨Nat.le_of_eq (by rw [same]), (generationsFit_iff _).2 ⟨?_, ?_, ?_, ?_, ?_⟩⟩
  · exact liveSlotFits_setSlot (s := { s with
        update.state := .committing, update.target := some (commitTarget s.tables.liveSlot)
        update.commit := some (composeImage (live s) g), update.commitTampered := false }) none hlive (commitTarget_ne _)
  · rw [stageNewer_iff] at hstage ⊢
    rw [same, staged]
    rintro _ ⟨⟩
    exact hstage _ (by simp [stageGeneration, hg])
  · rw [commitFits_iff, staged]
    refine ⟨fun i hi => ?_, fun id hid => ?_, by simp⟩
    · obtain rfl : composeImage (live s) g = i := by simpa using hi
      rfl
    · obtain rfl : commitTarget s.tables.liveSlot = id := by simpa using hid
      simpa using commitTarget_ne s.tables.liveSlot
  · rw [armedFits_iff]
    simp
  · simp [stageFits_eq, hg, hasStage]

theorem cmdUpdateActivate_generationKept (s : State) : GenerationKept s (cmdUpdateActivate s).2 := by
  rcases cmdUpdateActivate_state s with e | ⟨g, -, hg, e⟩ <;> rw [e]
  · exact .refl s
  · exact beginCommit_generationKept hg

/-- The swap makes the commit live, which is newer, with the slot it stands in (R179). -/
theorem swapImage_generationKept (s : State) : GenerationKept s (swapImage s) := by
  rcases swapImage_cases s with ⟨ht, hu⟩ | ⟨img, armed, hc, ht, hu⟩
  · exact .of_untouched ht hu
  intro hs
  have now : live (swapImage s) = img := by rw [live, ht]
  refine ⟨by rw [now]; exact Nat.le_of_lt (commit_newer hs hc), ?_⟩
  refine generationsFit_of_no_stage ?_ (.inl (by rw [hu])) (by rw [hu]) (by rw [hu]) (by rw [hu])
  obtain ⟨id, target, slot⟩ := slotOf_armed hs armed
  have slots : slotOf (swapImage s) id = slotOf s id := by cases id <;> simp only [slotOf, ht]
  simp [liveSlotFits, slotGeneration, ht, target, slots, slot, hc, now]

theorem armUpdate_generationKept {target : SlotId} {img : Image} {s : State} (hs : s.update.state = .committing)
    (ht : s.update.target = some target) (hc : s.update.commit = some img) : GenerationKept s (armUpdate target img s) := fun fits => by
  obtain ⟨hlive, hstage, hcommit, -, hstaged⟩ := (generationsFit_iff s).1 fits
  have same : live (armUpdate target img s) = live s := by simp [live]
  have staged : stageGeneration (armUpdate target img s) = stageGeneration s := by simp [stageGeneration]
  refine ⟨Nat.le_of_eq (by rw [same]), (generationsFit_iff _).2 ⟨?_, ?_, ?_, ?_, ?_⟩⟩
  · exact liveSlotFits_setSlot (s := { s with update.state := .armed }) _ hlive (((commitFits_iff s).1 hcommit).2.1 target ht)
  · rw [stageNewer_iff] at hstage ⊢
    rwa [same, staged]
  · rw [commitFits_iff] at hcommit ⊢
    simpa [staged] using hcommit
  · rw [armedFits_iff]
    exact fun _ => ⟨target, img, by simpa using ht, by simpa using hc, by simp [armUpdate, slotOf_setSlot]⟩
  · rw [stageFits_eq] at hstaged ⊢
    simpa [hs, hasStage] using hstaged

/-- A commit that did not read back is SEALED again (R178). -/
theorem commitFailed_generationKept {s : State} (hs : s.update.state = .committing) :
    GenerationKept s { s with update.state := .sealed, update.target := none, update.commit := none } := fun fits => by
  obtain ⟨hlive, hstage, -, -, hstaged⟩ := (generationsFit_iff s).1 fits
  refine ⟨Nat.le_refl _, (generationsFit_iff _).2 ⟨hlive, hstage, ?_, ?_, ?_⟩⟩
  · rw [commitFits_iff]
    simp
  · rw [armedFits_iff]
    simp
  · rw [stageFits_eq] at hstaged ⊢
    simpa [hs, hasStage] using hstaged

theorem endCommit_generationKept (readBack : Bool) {target : SlotId} {img : Image} {s : State} (hs : s.update.state = .committing)
    (ht : s.update.target = some target) (hc : s.update.commit = some img) : GenerationKept s (endCommit readBack target img s) := by
  have armed := armUpdate_generationKept hs ht hc
  rw [endCommit_eq]
  exact .ite ((dropUpdate_generationKept s).trans (reportUpdate_generationKept _ _))
    (.ite (.ite (armed.trans (swapImage_generationKept _)) armed)
      ((commitFailed_generationKept hs).trans (reportUpdate_generationKept _ _)))

/-- A load makes live an image whose slot is the live one, or the blank image of generation 0 (R162). -/
theorem liveSlotFits_of_loaded {s t : State} (ht : t.tables = loadTables s.tables) : liveSlotFits t = true := by
  simp only [liveSlotFits, slotGeneration, slotOf, live, ht, loadTables, loadImage]
  cases s.tables.slotA <;> cases s.tables.slotB <;> dsimp only
  case some.some a b => by_cases h : a.generation.toNat < b.generation.toNat <;> simp [h]
  all_goals simp [Image.blank]

/-- Both resets load the newest slot, among which the live one stands (R162, R185). -/
theorem GenerationKept.of_loaded {s t : State} (htables : t.tables = loadTables s.tables)
    (hstate : t.update.state = .idle ∨ t.update.state = .locked) (hstage : t.update.stage = none) (htarget : t.update.target = none)
    (hcommit : t.update.commit = none) : GenerationKept s t := fun hs => by
  refine ⟨?_, generationsFit_of_no_stage (liveSlotFits_of_loaded htables) hstate hstage htarget hcommit⟩
  have loaded : live t = (loadImage s.tables).1 := by rw [live, htables]; rfl
  rw [loaded]
  cases hl : s.tables.liveSlot with
  | none =>
    have zero : (live s).generation = 0 := by
      simpa [liveSlotFits, hl] using ((generationsFit_iff s).1 hs).1
    simp [zero]
  | some id =>
    obtain ⟨img, slot, same⟩ := slotOf_live hs hl
    rw [← same]
    cases id with
    | a => exact loadImage_newest (.inl slot)
    | b => exact loadImage_newest (.inr slot)

theorem directedUpdate_generationKept (s : State) : GenerationKept s (directedUpdate s) := by
  unfold directedUpdate
  split
  · exact dropUpdate_generationKept s
  · exact dropUpdate_generationKept s
  · exact dropUpdate_generationKept s
  · exact dropUpdate_generationKept s
  all_goals exact .refl s

theorem generationKept_rule : UpdateRule GenerationKept where
  trans := .trans
  same := .of_untouched
  swapped := swapImage_generationKept
  writeClosed s := .of_same ⟨rfl, rfl, rfl, rfl, id, id⟩
  latched _ _ s := .of_same ⟨rfl, rfl, rfl, rfl, id, id⟩
  tampered := tamperUpdate_generationKept
  dropped := directedUpdate_generationKept
  begun := cmdUpdateBegin_generationKept
  windowed := cmdUpdateWindow_generationKept
  written := cmdUpdateWrite_generationKept
  sealing := cmdUpdateSeal_generationKept
  activated := cmdUpdateActivate_generationKept
  aborted := cmdUpdateAbort_generationKept
  floorLocked := cmdLockFloor_generationKept
  verified g tag _ hs _ := verifyStage_generationKept g tag hs
  committed readBack _ _ _ hs ht hc := endCommit_generationKept readBack hs ht hc
  coldLoaded _ := .of_loaded rfl (.inl rfl) rfl rfl rfl
  hardLoaded s := .of_loaded rfl (by unfold hardState; dsimp only; split <;> simp) rfl rfl rfl

/-- Settles O56: the invariant and the order of the live generations are kept by every operation of the Update Engine and the Table Store. -/
theorem generationNeverFalls : Obligations.GenerationNeverFalls := fun _ _ fits ht => generationKept_rule.step ht fits

end Sys2Proof.Machine
end

section
/-! The Capture Unit's bounds (R131, R135). A push is made with fewer than four contexts on the stack, a pop serves the pending set, and
nothing else changes the depth of the stack; the buffer grows by `writeCapture` alone. -/

namespace Sys2Proof.Machine

/-! ### What the bounds say -/

/-- No program is in the pending set. -/
def NonePending (s : State) : Prop := ∀ g, s.capture.pendingSet.get g = none

theorem pendingByte_eq_zero (p : PendingSet) : p.byte = 0 ↔ ∀ g, p.get g = none := by
  have bits (a b c d : Bool) : bitAt a 0 ||| bitAt b 1 ||| bitAt c 2 ||| bitAt d 3 = 0 ↔ a = false ∧ b = false ∧ c = false ∧ d = false := by
    cases a <;> cases b <;> cases c <;> cases d <;> decide
  simp only [PendingSet.byte, bits, Option.isSome_eq_false_iff, Option.isNone_iff_eq_none]
  refine ⟨fun ⟨precharge, close, opening, trip⟩ g => ?_, fun h => ⟨h .precharge, h .close, h .opening, h .trip⟩⟩
  cases g <;> assumption

theorem stackFits_iff (s : State) :
    stackFits s = true ↔ s.capture.stack.length ≤ 4 ∧ (NonePending s ∨ s.capture.stack.length = 4) := by
  simp only [stackFits, NonePending, Bool.and_eq_true, Bool.or_eq_true, decide_eq_true_eq, beq_iff_eq, ← pendingByte_eq_zero]

/-- The buffer holds at most 64 records. -/
def BufferHolds (s : State) : Prop := s.capture.buffer.length ≤ 64

/-- Stack, pending set and buffer are within their bounds. -/
def CaptureFits (s : State) : Prop := stackFits s = true ∧ BufferHolds s

theorem captureFits_iff (s : State) :
    CaptureFits s ↔ s.capture.stack.length ≤ 4 ∧ (NonePending s ∨ s.capture.stack.length = 4) ∧ BufferHolds s := by
  rw [CaptureFits, stackFits_iff, and_assoc]

/-- A context has just left the stack: the pending set may wait to be served. -/
def CapturePopped (s : State) : Prop := s.capture.stack.length ≤ 3 ∧ (NonePending s ∨ s.capture.stack.length = 3) ∧ BufferHolds s

/-- The bounds are kept. -/
def CaptureKept (s t : State) : Prop := CaptureFits s → CaptureFits t

theorem CaptureFits.of_capture {s t : State} (hs : CaptureFits s) (h : t.capture = s.capture) : CaptureFits t := by
  unfold CaptureFits stackFits BufferHolds at *
  rwa [h]

theorem CaptureKept.of_capture {s t : State} (h : t.capture = s.capture) : CaptureKept s t := fun hs => hs.of_capture h

theorem CaptureKept.refl (s : State) : CaptureKept s s := id

theorem CaptureKept.trans {s t u : State} (h : CaptureKept s t) (k : CaptureKept t u) : CaptureKept s u := k ∘ h

theorem CaptureKept.ite {s t u : State} {c : Prop} [Decidable c] (ht : CaptureKept s t) (hu : CaptureKept s u) :
    CaptureKept s (if c then t else u) := by
  split
  · exact ht
  · exact hu

/-- Depth, pending set and bounded buffer stay. -/
theorem CaptureKept.of_depth {s t : State} (hstack : t.capture.stack.length = s.capture.stack.length)
    (hpending : NonePending s → NonePending t) (hbuffer : BufferHolds s → BufferHolds t) : CaptureKept s t := by
  rw [CaptureKept, captureFits_iff, captureFits_iff, hstack]
  exact fun ⟨depth, waits, held⟩ => ⟨depth, waits.imp_left hpending, hbuffer held⟩

/-! ### Records and steps -/

@[simp] theorem writeCapture_stack (r : CaptureRecord) (s : State) : (writeCapture r s).capture.stack = s.capture.stack := rfl

@[simp] theorem writeCapture_pendingSet (r : CaptureRecord) (s : State) :
    (writeCapture r s).capture.pendingSet = s.capture.pendingSet := rfl

/-- Past 64 the oldest record leaves (R135). -/
theorem writeCapture_bufferHolds (r : CaptureRecord) {s : State} (h : BufferHolds s) : BufferHolds (writeCapture r s) := by
  unfold BufferHolds at *
  simp only [writeCapture]
  split <;> simp_all

/-- A step that falls due leaves a record at most, and depth and pending set as they are (R126, R129). -/
theorem stepFallsDue_depth (s : State) :
    (stepFallsDue s).capture.stack.length = s.capture.stack.length ∧ (stepFallsDue s).capture.pendingSet = s.capture.pendingSet ∧
      (BufferHolds s → BufferHolds (stepFallsDue s)) := by
  unfold stepFallsDue
  split
  · exact ⟨rfl, rfl, id⟩
  next c rest hstack =>
    have given (p : Prop) [Decidable p] (r : CaptureRecord) :
        (if p then writeCapture r s else s).capture.pendingSet = s.capture.pendingSet ∧
          (BufferHolds s → BufferHolds (if p then writeCapture r s else s)) := by
      split
      · exact ⟨rfl, writeCapture_bufferHolds r⟩
      · exact ⟨rfl, id⟩
    exact ⟨by simp [hstack], (given _ _).1, (given _ _).2⟩

theorem stepFallsDue_captureKept (s : State) : CaptureKept s (stepFallsDue s) := by
  obtain ⟨depth, pending, buffer⟩ := stepFallsDue_depth s
  exact .of_depth depth (fun h => by rwa [NonePending, pending]) buffer

/-- A push makes the stack one deeper and leaves the pending set (R122, R135). -/
theorem pushContext_depth (p : Program) (underLoad late : Bool) (s : State) :
    (pushContext p underLoad late s).capture.stack.length = s.capture.stack.length + 1 ∧
      (pushContext p underLoad late s).capture.pendingSet = s.capture.pendingSet ∧
      (BufferHolds s → BufferHolds (pushContext p underLoad late s)) := by
  obtain ⟨depth, pending, buffer⟩ := stepFallsDue_depth
    { s with
      capture.stack :=
        { program := p, id := s.capture.nextId, count := (programField (live s) p).count.toNat
          interval := (programField (live s) p).interval.toNat, nextStep := 0, ticksRemaining := 0, step := .none, waiting := false
          started := s.sweep.ticks, late := late, underLoad := underLoad, ended := false, flightStep := 0, flightOffset := 0
          leaving := false } :: s.capture.stack
      capture.nextId := s.capture.nextId + 1
      capture.buffer := s.capture.buffer.filter fun r => r.id != s.capture.nextId }
  exact ⟨depth, pending, fun held => buffer (Nat.le_trans (List.length_filter_le _ _) held)⟩

/-- An event pushes with room on the stack, and joins the pending set of a full one (R131). -/
theorem captureEvent_captureKept (p : Program) (underLoad : Bool) (s : State) : CaptureKept s (captureEvent p underLoad s) := by
  unfold captureEvent
  split
  · exact .refl s
  split
  next room =>
    obtain ⟨depth, pending, buffer⟩ := pushContext_depth p underLoad false s
    have none : NonePending s → NonePending (pushContext p underLoad false s) := fun h => by rwa [NonePending, pending]
    rw [CaptureKept, captureFits_iff, captureFits_iff, depth]
    exact fun ⟨_, waits, held⟩ => ⟨room, .inl (none (waits.resolve_right (Nat.ne_of_lt room))), buffer held⟩
  next full =>
    rw [CaptureKept, captureFits_iff, captureFits_iff]
    exact fun ⟨most, _, held⟩ => ⟨most, .inr (Nat.le_antisymm most (Nat.not_lt.1 full)), held⟩

/-! ### Pops -/

theorem pendingSet_get_put (p : PendingSet) (g h : Program) (e : Option Bool) : (p.put g e).get h = if h = g then e else p.get h := by
  cases g <;> cases h <;> rfl

/-- Serving the pending set adds no program to it, and pushes one run, or leaves the stack and takes the programs served out of the set
(R132). -/
theorem servePending_cases (ps : List Program) (s : State) :
    (∀ g, s.capture.pendingSet.get g = none → (servePending ps s).2.capture.pendingSet.get g = none) ∧
      (((servePending ps s).1 = true ∧ (servePending ps s).2.capture.stack.length = s.capture.stack.length + 1 ∧
          (BufferHolds s → BufferHolds (servePending ps s).2)) ∨
        ((servePending ps s).1 = false ∧ (servePending ps s).2.capture.stack = s.capture.stack ∧
          (servePending ps s).2.capture.buffer = s.capture.buffer ∧
          ∀ g ∈ ps, (servePending ps s).2.capture.pendingSet.get g = none)) := by
  induction ps generalizing s with
  | nil => exact ⟨fun _ => id, .inr ⟨rfl, rfl, rfl, fun _ h => absurd h List.not_mem_nil⟩⟩
  | cons p ps ih =>
    unfold servePending
    split
    next absent =>
      obtain ⟨added, served⟩ := ih s
      exact ⟨added, served.imp_right fun ⟨no, stack, buffer, cleared⟩ =>
        ⟨no, stack, buffer, List.forall_mem_cons.2 ⟨added p absent, cleared⟩⟩⟩
    next underLoad _ =>
      have taken (g : Program) (h : s.capture.pendingSet.get g = none ∨ g = p) : (s.capture.pendingSet.put p none).get g = none := by
        rw [pendingSet_get_put]
        split
        · rfl
        next other => exact h.resolve_right other
      dsimp only
      split
      · obtain ⟨added, served⟩ := ih { s with capture.pendingSet := s.capture.pendingSet.put p none }
        exact ⟨fun g h => added g (taken g (.inl h)), served.imp_right fun ⟨no, stack, buffer, cleared⟩ =>
          ⟨no, stack, buffer, List.forall_mem_cons.2 ⟨added p (taken p (.inr rfl)), cleared⟩⟩⟩
      · obtain ⟨depth, pending, buffer⟩ := pushContext_depth p underLoad true
          { s with capture.pendingSet := s.capture.pendingSet.put p none }
        exact ⟨fun g h => (congrArg (·.get g) pending).trans (taken g (.inl h)), .inl ⟨rfl, depth, buffer⟩⟩

theorem mem_pendingOrder (g : Program) : g ∈ pendingOrder := by cases g <;> decide

/-- A pop serves the pending set whole: one run is pushed, or no program is left in it. -/
theorem servePending_popped {s : State} (h : CapturePopped s) :
    CaptureFits (servePending pendingOrder s).2 ∧
      ((servePending pendingOrder s).1 = false →
        (servePending pendingOrder s).2.capture.stack = s.capture.stack ∧ NonePending (servePending pendingOrder s).2) := by
  obtain ⟨depth, waits, held⟩ := h
  rw [captureFits_iff]
  obtain ⟨added, ⟨yes, stack, buffer⟩ | ⟨no, stack, buffer, cleared⟩⟩ := servePending_cases pendingOrder s
  · refine ⟨⟨by rw [stack]; omega, waits.imp (fun none g => added g (none g)) fun h => by rw [stack, h], buffer held⟩, fun no => ?_⟩
    exact absurd (yes.symm.trans no) (by decide)
  · have none : NonePending (servePending pendingOrder s).2 := fun g => cleared g (mem_pendingOrder g)
    exact ⟨⟨by rw [stack]; omega, .inl none, by rwa [BufferHolds, buffer]⟩, fun _ => ⟨stack, none⟩⟩

theorem servePop_fits (n : Nat) {s : State} (h : CapturePopped s) (served : NonePending s ∨ 0 < n) : CaptureFits (servePop n s) := by
  induction n generalizing s with
  | zero =>
    obtain ⟨depth, waits, held⟩ := h
    exact (captureFits_iff s).2 ⟨by omega, .inl (served.resolve_right (Nat.lt_irrefl 0)), held⟩
  | succ n ih =>
    obtain ⟨fits, unserved⟩ := servePending_popped h
    unfold servePop
    generalize servePending pendingOrder s = r at fits unserved
    obtain ⟨pushed, u⟩ := r
    cases pushed with
    | true => exact fits
    | false =>
      obtain ⟨stack, none⟩ := unserved rfl
      obtain ⟨depth, -, held⟩ := (captureFits_iff u).1 fits
      dsimp only at stack none held ⊢
      split
      · exact fits
      next c rest hstack =>
        split
        · exact fits
        split
        · exact CaptureKept.of_depth (s := u) (by simp [hstack]) (fun h => h) (fun h => h) fits
        · have shallow : rest.length ≤ 3 := by have := h.1; simp [← stack, hstack] at this; omega
          exact ih ⟨shallow, .inl none, held⟩ (.inl none)

/-- With a context fewer the pop's bounds hold. -/
theorem capturePopped_of_fits {s t : State} (hs : CaptureFits s) (depth : t.capture.stack.length + 1 = s.capture.stack.length)
    (pending : t.capture.pendingSet = s.capture.pendingSet) (buffer : t.capture.buffer = s.capture.buffer) : CapturePopped t := by
  obtain ⟨most, waits, held⟩ := (captureFits_iff s).1 hs
  exact ⟨by omega, waits.imp (fun none => by rwa [NonePending, pending]) (by omega), by rwa [BufferHolds, buffer]⟩

theorem popTop_captureKept {s : State} (h : s.capture.stack ≠ []) : CaptureKept s (popTop s) := fun hs =>
  have depth : s.capture.stack.tail.length + 1 = s.capture.stack.length := by
    have := List.length_pos_iff.2 h
    rw [List.length_tail]; omega
  servePop_fits _ (capturePopped_of_fits hs depth rfl rfl) (.inr (Nat.succ_pos _))

/-- A context that leaves now is on the stack. -/
theorem stack_ne_nil_of_leavesNow {s : State} (h : leavesNow s = true) : s.capture.stack ≠ [] := by
  intro empty
  simp [leavesNow, empty] at h

theorem leave_captureKept (s : State) : CaptureKept s (if leavesNow s then popTop s else s) := by
  split
  next leaves => exact popTop_captureKept (stack_ne_nil_of_leavesNow leaves)
  · exact .refl s

theorem prechargingLeft_captureKept (s : State) : CaptureKept s (prechargingLeft s) := by
  refine .trans (t := { s with
    capture.stack := s.capture.stack.map endContext
    capture.pendingSet.precharge := none }) (.of_depth (by simp) ?_ id) (leave_captureKept _)
  intro none g
  cases g with
  | precharge => rfl
  | close => exact none .close
  | opening => exact none .opening
  | trip => exact none .trip

theorem updateContext_captureKept (id : Half) (f : Context → Context) (s : State) : CaptureKept s (updateContext id f s) :=
  .of_depth (by simp [updateContext]) (fun h => h) (fun h => h)

/-- A complete run that is on the stack leaves it alone (log 15). -/
theorem popComplete_captureKept {id : Half} {s : State} (h : (contextOf id s).isSome = true) : CaptureKept s (popComplete id s) := by
  intro hs
  have found : ∃ c ∈ s.capture.stack, (c.id == id) = true := by simpa [contextOf] using h
  obtain ⟨c, mem, hid⟩ := found
  have depth : (s.capture.stack.eraseP fun c => c.id == id).length + 1 = s.capture.stack.length := by
    rw [List.length_eraseP_of_mem mem hid]
    exact Nat.sub_add_cancel (List.length_pos_of_mem mem)
  have popped : CapturePopped (raise .captureDone { s with capture.stack := s.capture.stack.eraseP fun c => c.id == id }) :=
    capturePopped_of_fits hs depth rfl rfl
  unfold popComplete
  dsimp only
  split
  · exact servePop_fits _ popped (.inr (Nat.succ_pos _))
  · exact (servePending_popped popped).1

theorem finishStep_captureKept (id : Half) (s : State) : CaptureKept s (finishStep id s) := by
  refine (updateContext_captureKept id (fun c => { c with step := if c.waiting then .due else .none, waiting := false }) s).trans ?_
  generalize hu : updateContext id (fun c => { c with step := if c.waiting then .due else .none, waiting := false }) s = u
  unfold finishStep
  rw [hu]
  dsimp only
  split
  · exact .refl u
  next c found =>
    split
    · split
      next leaves => exact popTop_captureKept (stack_ne_nil_of_leavesNow (Bool.and_eq_true_iff.1 leaves).2)
      · exact .refl u
    split
    · exact popComplete_captureKept (by rw [found]; rfl)
    · exact .refl u

theorem writeCapture_captureKept (r : CaptureRecord) (s : State) : CaptureKept s (writeCapture r s) :=
  .of_depth rfl (fun h => h) (writeCapture_bufferHolds r)

theorem recordStep_captureKept (id : Half) (answer : Option (List Byte)) (s : State) : CaptureKept s (recordStep id answer s) := by
  unfold recordStep
  split
  · exact .refl s
  · split <;> exact writeCapture_captureKept _ s

/-- The grant to CAPTURE changes the top context, and records its step at once without a chain to read (R127, R128). -/
theorem grantCapture_captureKept (s : State) : CaptureKept s (grantCapture s) := by
  unfold grantCapture
  split
  · exact .refl s
  next c rest hstack =>
    have topped (c : Context) : CaptureKept s { s with capture.stack := c :: rest } := .of_depth (by simp [hstack]) (fun h => h) fun h => h
    have missed (c : Context) : CaptureKept s (finishStep c.id (recordStep c.id none { s with capture.stack := c :: rest })) :=
      ((topped c).trans (recordStep_captureKept _ _ _)).trans (finishStep_captureKept _ _)
    split
    · split
      · exact (topped _).trans (.of_capture rfl)
      · exact missed _
    · exact missed _

theorem grant_captureKept (q : Requester) (s : State) : CaptureKept s (grant q s) := by
  have recorded : CaptureKept s (recordGrant q s) := .of_capture (by simp)
  refine recorded.trans ?_
  unfold grant
  cases q with
  | capture => exact grantCapture_captureKept _
  | _ => exact .of_capture (by simp)

theorem arbitrate_captureKept (s : State) : CaptureKept s (arbitrate s) := by
  unfold arbitrate
  generalize 16 = n
  induction n generalizing s with
  | zero => exact .refl s
  | succ n ih =>
    unfold arbitrateN
    split
    · split
      · exact .refl s
      · exact (grant_captureKept _ s).trans (ih _)
    · exact .refl s

theorem tickCapture_captureKept (s : State) : CaptureKept s (tickCapture s) := by
  unfold tickCapture
  split
  · exact .refl s
  next hstack => exact .of_depth (by simp [hstack]) (fun h => h) fun h => h

/-! ### The Contactor Sequencer's reports -/

/-- A report of the Sequencer between changes of its own. -/
theorem captureEvent_between (p : Program) (underLoad : Bool) {s t u : State} (before : t.capture = s.capture)
    (later : u.capture = (captureEvent p underLoad t).capture) : CaptureKept s u :=
  ((CaptureKept.of_capture before).trans (captureEvent_captureKept p underLoad t)).trans (.of_capture later)

end Sys2Proof.Machine
end

section
/-! The bounds of the capture stack, pending set and buffer over the Sequencer's reports, trips, sweep boundaries and every command (O57). -/

namespace Sys2Proof.Machine

/-! ### The Contactor Sequencer's reports -/

theorem beginOpening_captureKept (underLoad : Bool) (deferMs : Option Nat) (s : State) :
    CaptureKept s (beginOpening underLoad deferMs s) := by
  unfold beginOpening
  dsimp only
  refine .trans (.trans (.of_capture ?_) (captureEvent_captureKept .opening underLoad _))
    (.ite (.of_capture (openNegative_capture _)) (.refl _))
  simp

theorem beginPrecharge_captureKept (s : State) : CaptureKept s (beginPrecharge s) := by
  unfold beginPrecharge
  dsimp only
  refine .trans (.of_capture ?_) (captureEvent_captureKept .precharge false _)
  simp

theorem beginDeferral_captureKept (s : State) : CaptureKept s (beginDeferral s) :=
  .ite (beginOpening_captureKept _ _ s) (.of_capture rfl)

theorem switchPoint_captureKept (s : State) : CaptureKept s (switchPoint s) := by
  have closing : CaptureKept s (beginPrecharge { s with sequencer.closePending := false }) :=
    .trans (t := { s with sequencer.closePending := false }) (.of_capture rfl) (beginPrecharge_captureKept _)
  have marked : CaptureKept s { s with sequencer.openPending := false } := .of_capture rfl
  unfold switchPoint
  split
  · exact .ite closing (.of_capture (by simp))
  · exact .ite (marked.trans (.ite (beginOpening_captureKept _ _ _) (beginDeferral_captureKept _))) (.refl s)

theorem prechargeComplete_captureKept (s : State) : CaptureKept s (prechargeComplete s) := by
  unfold prechargeComplete
  dsimp only
  refine .ite (.trans (.trans (.trans (.of_capture ?_) (prechargingLeft_captureKept _)) (captureEvent_captureKept .close false _))
    (.of_capture (tryClosed_capture _))) (.refl s)
  simp

theorem judgeRecord_captureKept (s : State) : CaptureKept s (judgeRecord s) := by
  have counted (n : Nat) : CaptureKept s { s with sequencer.qualifying := n } := .of_capture rfl
  unfold judgeRecord
  split
  · exact .ite ((counted _).trans (.ite (prechargeComplete_captureKept _) (.refl _))) (counted 0)
  · exact .ite (beginOpening_captureKept _ _ s) (.refl s)
  · exact .ite (.of_capture (weldPassed_capture s)) (.refl s)
  all_goals exact .refl s

/-- A sequence that leaves PRECHARGING, where it was the state, and then reports its event. -/
theorem leaveThenReport_captureKept {c : Prop} [Decidable c] (p : Program) {s t : State} (h : t.capture = s.capture) :
    CaptureKept s (captureEvent p false (if c then prechargingLeft t else t)) :=
  .trans (.trans (.of_capture h) (.ite (prechargingLeft_captureKept t) (.refl t))) (captureEvent_captureKept p false _)

theorem breakOffClose_captureKept (r : CloseResult) (cause : OpenCause) (s : State) : CaptureKept s (breakOffClose r cause s) := by
  unfold breakOffClose
  dsimp only
  refine .trans (leaveThenReport_captureKept .opening ?_) (.of_capture (beginOpenSequence_capture _ _))
  simp

theorem forceOpen_captureKept (cause : TripCause) (s : State) : CaptureKept s (forceOpen cause s) := by
  have entered (u : State) : (if cause = .contactorFeedback then enterFaulted u else enterWeldCheck u).capture = u.capture := by
    split <;> simp
  have closed (r : ContactorState) (m : Option Nat) (u : State) :
      (match r with
        | .precharging => writeClose .forced none u
        | .closing => writeClose .forced m u
        | .opened | .closed | .opening | .weldCheck | .faulted => u).capture = u.capture := by cases r <;> simp
  unfold forceOpen
  dsimp only
  refine .trans (leaveThenReport_captureKept .trip ?_) (.ite (.of_capture ?_) (.of_capture (beginOpenSequence_capture _ _)))
  · rw [entered, reportDisturbed_capture]
    refine (closed s.sequencer.state _ _).trans ?_
    simp
  · simp

theorem openOrder_captureKept (cause : TripCause) (s : State) : CaptureKept s (openOrder cause s) := by
  unfold openOrder
  split
  · refine .of_capture ((faultIfFeedback_capture _ _).trans ?_)
    split <;> simp
  · exact forceOpen_captureKept _ s
  · exact forceOpen_captureKept _ s
  · exact forceOpen_captureKept _ s
  · exact .ite (forceOpen_captureKept _ s) (.of_capture (faultIfFeedback_capture _ s))
  · exact .of_capture (faultIfFeedback_capture _ s)
  · exact .refl s

/-! ### Trips -/

theorem takeTrip_captureKept (t : Trip) (s : State) : CaptureKept s (takeTrip t s) := by
  unfold takeTrip
  dsimp only
  refine .trans (.of_capture ?_) (.ite (openOrder_captureKept _ _) (.refl _))
  rfl

/-- A trip that the Sequencer raises, with its event. -/
theorem tripPlain_captureKept (cause : TripCause) (e : Event) (s : State) :
    CaptureKept s (raise e (takeTrip (plainTrip cause s) s)) := (takeTrip_captureKept _ s).trans (.of_capture (raise_capture _ _))

theorem tripFeedbacks_captureKept (n : Nat) (s : State) : CaptureKept s (Nat.repeat tripFeedback n s) := by
  induction n with
  | zero => exact .refl s
  | succ n ih => exact ih.trans (tripPlain_captureKept _ _ _)

theorem takeOutsideTrip_captureKept (t : Trip) (s : State) : CaptureKept s (takeOutsideTrip t s) :=
  (takeTrip_captureKept t s).trans
    (.ite (tripPlain_captureKept _ _ _) (.ite (tripFeedbacks_captureKept _ _) (.ite (tripPlain_captureKept _ _ _) (.refl _))))

theorem captureKept_rule : TransactionRule CaptureKept where
  trans := .trans
  same h := .of_capture h.capture
  trip := takeOutsideTrip_captureKept
  judged := judgeRecord_captureKept
  recorded := recordStep_captureKept
  stepEnded := finishStep_captureKept
  granted := arbitrate_captureKept

/-! ### Boundaries -/

theorem applyPending_then_switch (s : State) : CaptureKept s (switchPoint (applyPending s)) :=
  .trans (.of_capture (applyPending_capture s)) (switchPoint_captureKept _)

theorem pendingThenOffer_captureKept (s : State) : CaptureKept s (pendingThenOffer s) := by
  have chosen : CaptureKept s (takeChoice s).2 := .of_capture rfl
  unfold pendingThenOffer
  refine .ite (chosen.trans (.ite (.trans (switchPoint_captureKept _) (.of_capture (applyPending_capture _))) ?_)) ?_ <;>
    exact applyPending_then_switch _

theorem enterStopped_captureKept (s : State) : CaptureKept s (enterStopped s) :=
  .trans (t := { s with sweep.engine := .stopped }) (.of_capture rfl) (pendingThenOffer_captureKept _)

theorem beginSweep_captureKept (syncLost : Bool) (s : State) : CaptureKept s (beginSweep syncLost s) := by
  have boundary : CaptureKept s (atBoundary s) := .ite (pendingThenOffer_captureKept s) (.of_capture (applyPending_capture s))
  exact boundary.trans (.ite (.of_capture rfl) (.of_capture (startSweep_capture _ _)))

/-- A switch point offered as the engine begins to wait. -/
theorem waitSwitch_captureKept {s t : State} (h : t.capture = s.capture) : CaptureKept s (switchPoint t) :=
  .trans (.of_capture h) (switchPoint_captureKept t)

theorem endSweep_captureKept (s : State) : CaptureKept s (endSweep s) := by
  have completed : CaptureKept s (completeRecord (sumCheck (abandonWork s))) := .of_capture (by simp)
  unfold endSweep
  exact completed.trans (.ite (enterStopped_captureKept _) (.ite (waitSwitch_captureKept rfl) (beginSweep_captureKept _ _)))

/-! ### Commands -/

theorem serveRequest_captureKept (s : State) : CaptureKept s (serveRequest s) :=
  .ite (.refl s) ((switchPoint_captureKept s).trans (arbitrate_captureKept _))

theorem startEngine_captureKept (s : State) : CaptureKept s (startEngine s) := by
  unfold startEngine
  split
  · exact .ite (waitSwitch_captureKept rfl) ((beginSweep_captureKept _ s).trans (arbitrate_captureKept _))
  · exact .of_capture rfl
  all_goals exact .refl s

theorem stopEngine_captureKept (s : State) : CaptureKept s (stopEngine s) := by
  unfold stopEngine
  split
  · exact .of_capture rfl
  · exact (enterStopped_captureKept s).trans (arbitrate_captureKept _)
  all_goals exact .refl s

theorem cmdClose_captureKept (s : State) : CaptureKept s (cmdClose s).2 := by
  have served : CaptureKept s (serveRequest { s with sequencer.closePending := true }) :=
    .trans (t := { s with sequencer.closePending := true }) (.of_capture rfl) (serveRequest_captureKept _)
  rcases cmdClose_state s with e | e <;> rw [e]
  · exact .refl s
  · exact served

theorem cmdOpen_captureKept (s : State) : CaptureKept s (cmdOpen s).2 := by
  have broken : CaptureKept s (arbitrate (breakOffClose .interrupted .interrupt s)) :=
    (breakOffClose_captureKept _ _ s).trans (arbitrate_captureKept _)
  have served : CaptureKept s (serveRequest { s with sequencer.openPending := true }) :=
    .trans (t := { s with sequencer.openPending := true }) (.of_capture rfl) (serveRequest_captureKept _)
  rcases cmdOpen_state s with e | e | e | e <;> rw [e]
  · exact .refl s
  · exact .of_capture rfl
  · exact broken
  · exact served

/-- The DIRECTED reset empties stack and pending set, and keeps the buffer (R138). -/
theorem directedReset_captureKept (s : State) : CaptureKept s (directedReset s) := by
  have emptied (u : State) : CaptureKept u (directedCapture u) := fun hu => by
    obtain ⟨-, -, held⟩ := (captureFits_iff u).1 hu
    exact (captureFits_iff _).2 ⟨Nat.zero_le 4, .inl fun g => by cases g <;> rfl, held⟩
  unfold directedReset
  refine .trans (.trans (t := directedEvaluator (directedChain (directedSweep (directedUpdate (swapImage s))))) (.of_capture ?_) (emptied _))
    (.of_capture ?_) <;> simp

theorem commandOf_captureKept (code : Byte) (p : List Byte) (s : State) : CaptureKept s (commandOf code p s).2 := by
  generalize hcmd : commandOf code p = cmd
  unfold commandOf at hcmd
  split at hcmd <;> subst hcmd
  case h_5 =>
    rcases cmdHubReset_state s with e | e <;> rw [e]
    · exact .refl s
    · exact directedReset_captureKept s
  case h_6 =>
    rcases cmdSweepStart_state s with e | e <;> rw [e]
    · exact .refl s
    · exact startEngine_captureKept s
  case h_7 => exact stopEngine_captureKept s
  case h_8 =>
    rcases cmdChainGate_state p s with e | ⟨b, e⟩ <;> rw [e]
    · exact .refl s
    · exact .trans (t := { s with arbiter.maskForward := b.getLsbD 0, arbiter.maskSweep := b.getLsbD 1 }) (.of_capture rfl) (arbitrate_captureKept _)
  case h_9 =>
    rcases cmdEnumerate_state s with e | e <;> rw [e]
    · exact .refl s
    · exact .trans (t := { s with chain.state := .numbering, chain.enumNext := 0, chain.enumKinds := [] }) (.of_capture rfl)
        (arbitrate_captureKept _)
  case h_15 => exact cmdClose_captureKept s
  case h_16 => exact cmdOpen_captureKept s
  all_goals
    refine .of_capture ?_
    simp only [cmdIdentify, cmdReadStatus, cmdReadEvents, cmdSetEvents, cmdSetProfile, cmdReadSamples, cmdReadPack, cmdReadTrip,
      cmdClearTrip, cmdReadCapture, cmdSleep, cmdUpdateBegin, cmdUpdateWindow, cmdUpdateWrite, cmdUpdateSeal, cmdUpdateActivate,
      cmdUpdateAbort, cmdLockFloor, cmdClearTamper, cmdReadTable, cmdUnknown, refuseWrite, writeStage] <;>
    (repeat' split) <;> simp

theorem dispatch_captureKept (code : Byte) {cmd : State → Reply × State} (h : ∀ u, CaptureKept u (cmd u).2) (s : State) :
    CaptureKept s (dispatch code cmd s) := by
  have accepted : CaptureKept s (if code = 0x15 then acceptFrame s else closeWrite (acceptFrame s)) := .of_capture (by split <;> rfl)
  rw [dispatch_eq]
  exact (accepted.trans (h _)).trans (.of_capture (enqueueReserved_capture _ _))

theorem portEnd_captureKept {c : Instr} {s t : State} (h : PortEnd c s t) : CaptureKept s t := by
  cases h with
  | dropped => exact .refl s
  | held => exact .of_capture rfl
  | forwarded f =>
    exact .trans (t := { acceptFrame s with link.forward := s.link.forward ++ [f] }) (.of_capture rfl) (arbitrate_captureKept _)
  | unknown code => exact dispatch_captureKept code (fun u => .refl u) s
  | command code p => exact dispatch_captureKept code (commandOf_captureKept code p) s

/-! ### Events -/

theorem coldReset_captureKept {s t : State} (h : t.capture = State.unstarted.capture) : CaptureKept s (resetEnd t) := by
  have empty : CaptureFits t := by
    rw [captureFits_iff, NonePending, BufferHolds, h]
    exact ⟨Nat.zero_le 4, .inl fun g => by cases g <;> rfl, Nat.zero_le 64⟩
  exact fun _ => (arbitrate_captureKept t empty).of_capture (tamperAtReset_capture _)

/-- An event that changes nothing of the Capture Unit before the next grant. -/
theorem grantAfter {s t : State} (h : t.capture = s.capture) : CaptureKept s (arbitrate t) :=
  .trans (.of_capture h) (arbitrate_captureKept t)

theorem weldTimedOut_captureKept (s : State) : CaptureKept s (weldTimedOut s) := by
  have welded : CaptureKept s (writeOpen .welded (enterFaulted s)) := .of_capture (by simp)
  exact .ite (.of_capture (by simp)) (welded.trans (tripPlain_captureKept _ _ _))

theorem enterQuiet_captureKept (s : State) : CaptureKept s (enterQuiet s) :=
  (waitSwitch_captureKept (t := deferTriggers { s with sweep.quiet := .inside }) (by simp)).trans (arbitrate_captureKept _)

theorem syncEdge_captureKept (s : State) : CaptureKept s (syncEdge s) :=
  (beginSweep_captureKept false s).trans (grantAfter (rephase_capture _))

theorem syncLost_captureKept (s : State) : CaptureKept s (syncLost s) :=
  (beginSweep_captureKept true s).trans (.trans (.ite (.of_capture (raise_capture _ _)) (.refl _)) (arbitrate_captureKept _))

theorem broadcastEnd_captureKept (t : Transaction) (s : State) : CaptureKept s (broadcastEnd t s) := by
  unfold broadcastEnd
  dsimp only
  split <;> exact grantAfter (by simp)

theorem event_captureKept {c : Instr} {s t : State} (port : commandFrame c = none) (ended : ∀ rx, c ≠ .exchangeEnd rx)
    (ht : exec c s = .next t) : CaptureKept s t := by
  cases c with
  | exchangeEnd rx => exact absurd rfl (ended rx)
  | powerOnReset => cases ht; exact coldReset_captureKept rfl
  | hardReset => cases ht; exact coldReset_captureKept rfl
  | answerReceived | responseWindowClose | answerLengthBad => exact captureKept_rule.exec (by simp) ht
  | prechargeTimeout =>
    cases ht
    exact .ite (((breakOffClose_captureKept _ _ s).trans (tripPlain_captureKept _ _ _)).trans (arbitrate_captureKept _)) (.refl s)
  | deferTimerExpiry => cases ht; exact .ite ((beginOpening_captureKept _ _ s).trans (arbitrate_captureKept _)) (.refl s)
  | weldTimerExpiry => cases ht; exact .ite ((weldTimedOut_captureKept s).trans (arbitrate_captureKept _)) (.refl s)
  | disagreementTimerExpiry =>
    cases ht
    have stopped (c : Contactor) : CaptureKept s (stopDisagree c s) := .of_capture (by simp)
    exact .ite (((stopped _).trans (tripFeedbacks_captureKept _ _)).trans (arbitrate_captureKept _)) (.refl s)
  | silenceTimerExpiry =>
    cases ht
    have stopped : CaptureKept s { s with sequencer.silenceTimer := none } := .of_capture rfl
    exact .ite ((stopped.trans (tripPlain_captureKept _ _ _)).trans (arbitrate_captureKept _)) (.refl s)
  | captureStepDue => cases ht; exact .ite ((stepFallsDue_captureKept s).trans (arbitrate_captureKept _)) (.refl s)
  | endedContextLeaves =>
    cases ht
    show CaptureKept s (if leavesNow s then arbitrate (popTop s) else s)
    split
    next leaves => exact (popTop_captureKept (stack_ne_nil_of_leavesNow leaves)).trans (arbitrate_captureKept _)
    · exact .refl s
  | sweepEnd => cases ht; exact .ite ((endSweep_captureKept s).trans (arbitrate_captureKept _)) (.refl s)
  | syncIn => cases ht; exact .ite (syncEdge_captureKept s) (.refl s)
  | syncWaitExpiry => cases ht; exact .ite (syncLost_captureKept s) (.refl s)
  | quietWindowStart => cases ht; exact .ite (enterQuiet_captureKept s) (.refl s)
  | slotDue | deferredSlotsDue | drainComplete | drainTimerExpiry | watchTimerExpiry | chainSettleEnd | oscillatorStarted =>
    cases ht
    exact .ite (grantAfter (by simp)) (.refl s)
  | broadcastSent =>
    simp only [exec, execBroadcastSent] at ht
    (repeat' split at ht) <;> cases ht
    · exact .refl s
    · exact broadcastEnd_captureKept _ s
    · exact .refl s
  | verifyEnd | commitEnd =>
    simp only [exec, execVerifyEnd, execCommitEnd] at ht
    split at ht <;> cases ht <;> exact .of_capture (by simp)
  | exchangeBegin => cases ht; exact .ite (.refl s) (.ite (.of_capture (by simp)) (.of_capture (by simp)))
  | linkWake | tamperIn => cases ht; exact .ite (.refl s) (.of_capture (by simp))
  | wakeIn | noticeAdmitted | strayFrame | tamperInDeasserted => cases ht; exact .of_capture (by simp)
  | feedbackDebounced | dwellTimerExpiry =>
    cases ht
    exact .ite (.of_capture (by simp)) (.refl s)
  | _ => simp [commandFrame] at port

theorem passTime_captureKept (s : State) : CaptureKept s (passTime s) := by
  have ticked (u : State) (h : u.capture = s.capture) : CaptureKept s (tick u) := by
    unfold tick
    exact .trans (.of_capture (by simp [h])) (tickCapture_captureKept _)
  unfold passTime
  dsimp only
  split
  · exact .ite (ticked _ rfl) (.of_capture rfl)
  all_goals exact .of_capture rfl

theorem exec_captureKept {c : Instr} {s t : State} (ht : exec c s = .next t) : CaptureKept s t := by
  by_cases hport : (commandFrame c).isSome = true ∨ ∃ rx, c = .exchangeEnd rx
  · rcases exec_portEnd hport ht with rfl | ended
    · exact .refl _
    · exact .trans (t := { s with link.exchange := none }) (.of_capture rfl) (portEnd_captureKept ended)
  · obtain ⟨port, ended⟩ := not_or.1 hport
    exact event_captureKept (by simpa using port) (fun rx h => ended ⟨rx, h⟩) ht

theorem step_captureKept {s t : State} (ht : step s = .next t) : CaptureKept s t := by
  rcases step_cases ht with ⟨c, hc⟩ | ⟨c, rest, hc⟩ | rfl
  · exact exec_captureKept hc
  · exact .trans (t := { s with pending := rest }) (.of_capture rfl) (exec_captureKept hc)
  · exact passTime_captureKept s

/-! ### The mismatch counter (R174) -/

/-- The counter's bound is kept. -/
def CounterKept (s t : State) : Prop := mismatchFits s = true → mismatchFits t = true

theorem mismatchFits_iff (s : State) :
    mismatchFits s = true ↔ s.update.mismatches ≤ 3 ∧ (s.update.mismatches = 3 ↔ s.update.state = .locked) := by
  by_cases three : s.update.mismatches = 3 <;> by_cases locked : s.update.state = .locked <;> simp [mismatchFits, three, locked]

theorem CounterKept.refl (s : State) : CounterKept s s := id

theorem CounterKept.ite {s t u : State} {c : Prop} [Decidable c] (ht : CounterKept s t) (hu : CounterKept s u) :
    CounterKept s (if c then t else u) := by
  split
  · exact ht
  · exact hu

/-- The counter stays, and LOCKED is neither entered nor left. -/
theorem CounterKept.of_counter {s t : State} (hcount : t.update.mismatches = s.update.mismatches)
    (hstate : t.update.state = .locked ↔ s.update.state = .locked) : CounterKept s t := by
  rw [CounterKept, mismatchFits_iff, mismatchFits_iff, hcount, hstate]
  exact id

/-- An update that is not LOCKED moves to another such state. -/
theorem CounterKept.of_moved {s t : State} (hcount : t.update.mismatches = s.update.mismatches) (before : s.update.state ≠ .locked)
    (now : t.update.state ≠ .locked) : CounterKept s t := .of_counter hcount (iff_of_false now before)

theorem tamperUpdate_counterKept (s : State) : CounterKept s (tamperUpdate s) := by
  unfold tamperUpdate
  split
  · exact .refl s
  · exact .refl s
  · exact .refl s
  next h => exact .of_moved rfl (by simp [h]) (by simp [reportUpdate, setResult, dropUpdate, discardStage])
  next h => exact .of_moved rfl (by simp [h]) (by simp [reportUpdate, setResult, dropUpdate, discardStage])
  next h => exact .of_moved rfl (by simp [h]) (by simp [reportUpdate, setResult, dropUpdate, discardStage])
  · exact .of_counter rfl .rfl

theorem directedUpdate_counterKept (s : State) : CounterKept s (directedUpdate s) := by
  unfold directedUpdate
  split
  next h => exact .of_moved rfl (by simp [h]) (by simp [dropUpdate, discardStage])
  next h => exact .of_moved rfl (by simp [h]) (by simp [dropUpdate, discardStage])
  next h => exact .of_moved rfl (by simp [h]) (by simp [dropUpdate, discardStage])
  next h => exact .of_moved rfl (by simp [h]) (by simp [dropUpdate, discardStage])
  all_goals exact .refl s

theorem swapImage_counterKept (s : State) : CounterKept s (swapImage s) := by
  rcases swapImage_cases s with ⟨-, hu⟩ | ⟨img, armed, -, -, hu⟩
  · exact .of_counter (by rw [hu]) (by rw [hu])
  · exact .of_moved (by rw [hu]) (by simp [armed]) (by simp [hu])

theorem cmdUpdateWrite_counterKept (p : List Byte) (s : State) : CounterKept s (cmdUpdateWrite p s).2 := by
  have refused (r : Reason) : CounterKept s (refuseWrite r s).2 := .of_counter rfl .rfl
  unfold cmdUpdateWrite
  (repeat' split) <;> first | exact refused _ | exact .of_counter rfl .rfl

theorem cmdUpdateSeal_counterKept (p : List Byte) (s : State) : CounterKept s (cmdUpdateSeal p s).2 := by
  unfold cmdUpdateSeal
  split
  · exact .refl s
  split
  · exact .refl s
  split
  · exact .refl s
  next unlocked _ _ =>
    split
    · exact .refl s
    · exact .of_moved rfl unlocked (by simp)

theorem cmdUpdateAbort_counterKept (s : State) : CounterKept s (cmdUpdateAbort s).2 := by
  unfold cmdUpdateAbort
  split
  · exact .refl s
  next h => exact .of_moved rfl (by simp [h]) (by simp [setResult, dropUpdate, discardStage])
  next h => exact .of_moved rfl (by simp [h]) (by simp [setResult, dropUpdate, discardStage])
  next h => exact .of_moved rfl (by simp [h]) (by simp [setResult, dropUpdate, discardStage])
  all_goals exact .refl s

/-- The third mismatch locks, and a tag that agrees clears the counter (R173, R174). -/
theorem verifyStage_counterKept (g : Stage) (tag : Tag) {s : State} (hs : s.update.state = .verifying) :
    CounterKept s (verifyStage g tag s) := by
  have mismatched : CounterKept s (rejectTag s) := by
    rw [CounterKept, mismatchFits_iff, mismatchFits_iff]
    intro ⟨most, _⟩
    simp only [rejectTag, reportUpdate, setResult, raise]
    split <;> simp [discardStage] <;> omega
  unfold verifyStage
  split
  · exact .of_moved rfl (by simp [hs]) (by simp [rejectStructure])
  · refine .ite (fun _ => ?_) mismatched
    rw [mismatchFits_iff]
    simp [sealStage, reportUpdate, setResult]

theorem endCommit_counterKept (readBack : Bool) (target : SlotId) (img : Image) {s : State} (hs : s.update.state = .committing) :
    CounterKept s (endCommit readBack target img s) := by
  have unlocked : s.update.state ≠ .locked := by simp [hs]
  have armed : CounterKept s (armUpdate target img s) := .of_moved (by simp) unlocked (by simp)
  rw [endCommit_eq]
  refine .ite (.of_moved rfl unlocked (by simp [reportUpdate, setResult, dropUpdate, discardStage])) (.ite (.ite ?_ armed) ?_)
  · exact fun h => swapImage_counterKept _ (armed h)
  · exact .of_moved rfl unlocked (by simp [reportUpdate, setResult])

theorem counterKept_rule : UpdateRule CounterKept where
  trans h k := k ∘ h
  same _ hu := .of_counter (by rw [hu]) (by rw [hu])
  swapped := swapImage_counterKept
  writeClosed _ := .of_counter rfl .rfl
  latched _ _ _ := .of_counter rfl .rfl
  tampered := tamperUpdate_counterKept
  dropped := directedUpdate_counterKept
  begun p s := by
    rcases cmdUpdateBegin_cases p s with e | ⟨b, g, passed, e⟩ <;> rw [e]
    · exact .refl s
    · obtain ⟨-, -, -, -, idle, -⟩ := (beginRefusal_eq_none_iff b g s).1 passed
      exact .of_moved rfl (by simp [idle]) (by simp)
  windowed p s := by
    unfold cmdUpdateWindow
    (repeat' split)
    all_goals exact .of_counter rfl .rfl
  written := cmdUpdateWrite_counterKept
  sealing := cmdUpdateSeal_counterKept
  activated s := by
    rcases cmdUpdateActivate_state s with e | ⟨g, hs, -, e⟩ <;> rw [e]
    · exact .refl s
    · exact .of_moved (by simp) (by simp [hs]) (by simp)
  aborted := cmdUpdateAbort_counterKept
  floorLocked s := by
    unfold cmdLockFloor
    (repeat' split)
    all_goals exact .of_counter rfl .rfl
  verified g tag _ hs _ := verifyStage_counterKept g tag hs
  committed readBack target img _ hs _ _ := endCommit_counterKept readBack target img hs
  coldLoaded s := fun _ => by rw [mismatchFits_iff]; simp [coldState, State.unstarted]
  hardLoaded s := fun h => by
    rw [mismatchFits_iff] at h ⊢
    obtain ⟨most, -⟩ := h
    refine ⟨most, ?_⟩
    show s.update.mismatches = 3 ↔ (if s.update.mismatches = 3 then UpdateState.locked else .idle) = .locked
    split <;> simp [*]

/-- Settles O57: depth, pending set and buffer by what pushes, pops and records make of them over every command and the passing of time,
and the counter over every operation of the Update Engine. -/
theorem captureAndCounterStayFit : Obligations.CaptureAndCounterStayFit := fun s t stack buffer counter ht => by
  have bounded : s.capture.buffer.length ≤ 64 := of_decide_eq_true buffer
  obtain ⟨stack', buffer'⟩ := step_captureKept ht ⟨stack, bounded⟩
  have held : t.capture.buffer.length ≤ 64 := buffer'
  exact ⟨stack', decide_eq_true held, counterKept_rule.step ht counter⟩

end Sys2Proof.Machine
end

section
/-! The transaction in flight: what leaves it alone (R28). Only the end of a transaction, a grant, the end of a sweep, the drain's expiry and
a reset touch it. -/

namespace Sys2Proof.Machine

@[simp] theorem rejudgeChain_inFlight (s : State) : (rejudgeChain s).chain.inFlight = s.chain.inFlight := by
  unfold rejudgeChain
  dsimp only
  split <;> rfl

@[simp] theorem swapImage_inFlight (s : State) : (swapImage s).chain.inFlight = s.chain.inFlight := by
  unfold swapImage
  split
  · dsimp only
    (repeat' split) <;> simp
  · rfl

@[simp] theorem applyPending_inFlight (s : State) : (applyPending s).chain.inFlight = s.chain.inFlight := by
  simp [applyPending]

@[simp] theorem pendingThenOffer_inFlight (s : State) : (pendingThenOffer s).chain.inFlight = s.chain.inFlight := by
  unfold pendingThenOffer
  split
  · dsimp only [takeChoice]
    split <;> simp
  · simp

@[simp] theorem enterStopped_inFlight (s : State) : (enterStopped s).chain.inFlight = s.chain.inFlight := by simp [enterStopped]

@[simp] theorem beginSweep_inFlight (syncLost : Bool) (s : State) : (beginSweep syncLost s).chain.inFlight = s.chain.inFlight := by
  have boundary : (atBoundary s).chain.inFlight = s.chain.inFlight := by unfold atBoundary; split <;> simp
  unfold beginSweep
  dsimp only
  split <;> simp [boundary]

@[simp] theorem clearMisses_inFlight (p : Nat) (s : State) : (clearMisses p s).chain.inFlight = s.chain.inFlight := rfl

@[simp] theorem becomeLost_inFlight (p : Nat) (stamp : Stamp) (s : State) :
    (becomeLost p stamp s).chain.inFlight = s.chain.inFlight := by simp [becomeLost]

@[simp] theorem countMiss_inFlight (p : Nat) (stamp : Stamp) (s : State) : (countMiss p stamp s).chain.inFlight = s.chain.inFlight := by
  unfold countMiss
  dsimp only
  split <;> simp

@[simp] theorem applyMiss_inFlight (q : Requester) (p : Nat) (e : Ending) (s : State) :
    (applyMiss q p e s).chain.inFlight = s.chain.inFlight := by
  unfold applyMiss
  (repeat' split) <;> simp

@[simp] theorem endEnumeration_inFlight (faulty : Bool) (s : State) : (endEnumeration faulty s).chain.inFlight = s.chain.inFlight := rfl

@[simp] theorem handEnumerate_inFlight (k : Nat) (e : Ending) (s : State) : (handEnumerate k e s).chain.inFlight = s.chain.inFlight := by
  unfold handEnumerate
  split
  · dsimp only
    split <;> rfl
  all_goals rfl

@[simp] theorem handOn_inFlight (t : Transaction) (p : Nat) (e : Ending) (s : State) : (handOn t p e s).chain.inFlight = s.chain.inFlight := by
  unfold handOn
  (repeat' split) <;> simp

@[simp] theorem enterDeepSleep_inFlight (s : State) : (enterDeepSleep s).chain.inFlight = s.chain.inFlight := by
  unfold enterDeepSleep
  dsimp only
  split <;> simp

@[simp] theorem endCycle_inFlight (s : State) : (endCycle s).chain.inFlight = s.chain.inFlight := by simp [endCycle]

@[simp] theorem watchBroadcastEnd_inFlight (kind : Byte) (s : State) :
    (watchBroadcastEnd kind s).chain.inFlight = s.chain.inFlight := by
  unfold watchBroadcastEnd
  (repeat' split) <;> simp

@[simp] theorem watchTimerDue_inFlight (s : State) : (watchTimerDue s).chain.inFlight = s.chain.inFlight := by
  unfold watchTimerDue
  split <;> simp [beginCycle]

@[simp] theorem endCommit_inFlight (readBack : Bool) (target : SlotId) (img : Image) (s : State) :
    (endCommit readBack target img s).chain.inFlight = s.chain.inFlight := by
  rw [endCommit_eq]
  (repeat' split) <;> simp [armUpdate]

end Sys2Proof.Machine
end

section
/-! The Upstream Queue, its reservations, its NOTICEs and the Forward Queue (O55, R191, R193, R200). A reservation is made at an acceptance
and taken by a reply or a CHAIN_ANSWER; NOTICEs and MIRRORs enter where an entry is free. -/

namespace Sys2Proof.Machine

/-! ### What the bounds say -/

/-- The bounds of the queues with `extra` reservations owed to a command that is being served, beside those owed to forwarded frames. -/
structure QueuesHold (extra : Nat) (s : State) : Prop where
  room : s.link.upstream.length + s.link.reserved ≤ 16
  owed : s.link.reserved = answersOwed s + extra
  forward : s.link.forward.length ≤ 4
  addressed : forwardAddressed s = true

theorem queuesFit_iff (s : State) : queuesFit s = true ↔ QueuesHold 0 s := by
  simp only [queuesFit, Bool.and_eq_true, decide_eq_true_eq]
  exact ⟨fun ⟨⟨⟨room, owed⟩, forward⟩, addressed⟩ => ⟨room, owed, forward, addressed⟩,
    fun ⟨room, owed, forward, addressed⟩ => ⟨⟨⟨room, owed⟩, forward⟩, addressed⟩⟩

/-- The NOTICEs of a channel that are queued. -/
def noticesQueued (urgent : Bool) (s : State) : Nat := (s.link.upstream.filter (isNotice urgent)).length

/-- A forwarded transaction in flight expects no kind of its own. -/
def ForwardUnasked (s : State) : Prop := ∀ x, s.chain.inFlight = some x → x.requester = .forward → x.expect = none

theorem noticesFit_iff (s : State) : noticesFit s = true ↔ (∀ urgent, noticesQueued urgent s ≤ 1) ∧ ForwardUnasked s := by
  have unasked : (match s.chain.inFlight with
      | some x => x.requester != .forward || x.expect.isNone
      | none => true) = true ↔ ForwardUnasked s := by
    unfold ForwardUnasked
    cases s.chain.inFlight with
    | none => simp
    | some x => cases hx : x.requester <;> simp [hx]
  rw [← unasked]
  simp only [noticesFit, noticesQueued, Bool.and_eq_true, decide_eq_true_eq]
  exact ⟨fun ⟨⟨u, r⟩, x⟩ => ⟨fun b => by cases b <;> assumption, x⟩, fun ⟨h, x⟩ => ⟨⟨h true, h false⟩, x⟩⟩

/-- Both kinds of bounds are kept, whatever is owed to a command that is being served. -/
structure LinkKept (s t : State) : Prop where
  queues : ∀ extra, QueuesHold extra s → QueuesHold extra t
  notices : noticesFit s = true → noticesFit t = true

theorem LinkKept.refl (s : State) : LinkKept s s := ⟨fun _ => id, id⟩

theorem LinkKept.trans {s t u : State} (h : LinkKept s t) (k : LinkKept t u) : LinkKept s u :=
  ⟨fun n hs => k.queues n (h.queues n hs), fun hs => k.notices (h.notices hs)⟩

theorem LinkKept.ite {s t u : State} {c : Prop} [Decidable c] (ht : LinkKept s t) (hu : LinkKept s u) :
    LinkKept s (if c then t else u) := by
  split
  · exact ht
  · exact hu

/-- The queues, the reservations and the transaction in flight are as before. -/
theorem LinkKept.of_queues {s t : State} (upstream : t.link.upstream = s.link.upstream) (reserved : t.link.reserved = s.link.reserved)
    (forward : t.link.forward = s.link.forward) (flight : t.chain.inFlight = s.chain.inFlight) : LinkKept s t where
  queues n := fun ⟨room, owed, forwarded, addressed⟩ =>
    ⟨by rwa [upstream, reserved], by rwa [reserved, answersOwed, forward, flight], by rwa [forward], by rwa [forwardAddressed, flight]⟩
  notices h := by rwa [noticesFit, upstream, flight]

theorem LinkKept.of_same {s t : State} (hlink : t.link = s.link) (hflight : t.chain.inFlight = s.chain.inFlight) : LinkKept s t :=
  .of_queues (by rw [hlink]) (by rw [hlink]) (by rw [hlink]) hflight

theorem LinkKept.thenSame {s t u : State} (h : LinkKept s t) (hlink : u.link = t.link)
    (hflight : u.chain.inFlight = t.chain.inFlight) : LinkKept s u := h.trans (.of_same hlink hflight)

/-- The transaction in flight gives way to another, none of them a forwarded one that will be answered. -/
theorem LinkKept.of_flight {s t : State} (hlink : t.link = s.link)
    (hs : ∀ x, s.chain.inFlight = some x → x.requester = .forward → x.discard = true ∨ x.target = none)
    (ht : ∀ x, t.chain.inFlight = some x → x.requester ≠ .forward) : LinkKept s t := by
  have later : answersOwed t = t.link.forward.length ∧ forwardAddressed t = true := by
    unfold answersOwed forwardAddressed
    cases hx : t.chain.inFlight with
    | none => exact ⟨rfl, rfl⟩
    | some x => simp [ht x hx]
  have before (h : forwardAddressed s = true) : answersOwed s = s.link.forward.length := by
    unfold answersOwed
    cases hx : s.chain.inFlight with
    | none => rfl
    | some x =>
      have addressed : x.requester = .forward → x.target.isSome = true := fun hf => by simpa [forwardAddressed, hx, hf] using h
      have undue : ¬ (x.requester = .forward ∧ x.discard = false) := fun ⟨hf, hd⟩ =>
        (hs x hx hf).elim (fun h => by simp [h] at hd) fun h => by simpa [h] using addressed hf
      simp [undue]
  refine ⟨fun n ⟨room, owed, forward, addressed⟩ => ⟨by rwa [hlink], ?_, by rwa [hlink], later.2⟩, fun h => ?_⟩
  · rw [later.1, hlink, owed, before addressed]
  · rw [noticesFit_iff] at h ⊢
    exact ⟨fun u => by simpa [noticesQueued, hlink] using h.1 u, fun x hx hf => absurd hf (ht x hx)⟩

/-! ### Frames that enter -/

theorem room_of_freeCount {s : State} {n : Nat} (h : n ≤ freeCount s) : s.link.upstream.length + s.link.reserved + n ≤ 16 ∨ n = 0 := by
  unfold freeCount at h
  omega

/-- A frame that enters raises the NOTICEs of a channel by itself at most. -/
theorem noticesQueued_enqueue (urgent : Bool) (f : Frame) (s : State) :
    noticesQueued urgent (enqueue f s) = noticesQueued urgent s + if isNotice urgent f = true then 1 else 0 := by
  simp only [noticesQueued, enqueue, List.filter_append, List.length_append, List.filter_cons, List.filter_nil]
  split <;> rfl

/-- A frame enters a free entry, and is no second NOTICE of its channel. -/
theorem enqueue_linkKept {f : Frame} {s : State} (room : 1 ≤ freeCount s)
    (fresh : ∀ urgent, isNotice urgent f = true → noticesQueued urgent s = 0) : LinkKept s (enqueue f s) where
  queues n := fun ⟨_, owed, forward, addressed⟩ => by
    have free := (room_of_freeCount room).resolve_right (by decide)
    exact ⟨by simp [enqueue]; omega, owed, forward, addressed⟩
  notices h := by
    rw [noticesFit_iff] at h ⊢
    refine ⟨fun urgent => ?_, h.2⟩
    rw [noticesQueued_enqueue]
    split
    next notice => exact Nat.le_of_eq (by rw [fresh urgent notice])
    · exact h.1 urgent

theorem isNotice_of_kind {f : Frame} (h : f.kind ≠ 0x62) (urgent : Bool) : isNotice urgent f = false := by
  rw [isNotice, beq_eq_false_iff_ne.2 h, Bool.false_and]

theorem enqueue_plain_linkKept {f : Frame} {s : State} (room : 1 ≤ freeCount s) (plain : f.kind ≠ 0x62) : LinkKept s (enqueue f s) :=
  enqueue_linkKept room fun urgent h => absurd h (by simp [isNotice_of_kind plain])

theorem isNotice_noticeFrame (urgent other : Bool) (s : State) : isNotice other (noticeFrame urgent s) = true ↔ other = urgent := by
  cases urgent <;> cases other <;> simp [isNotice, noticeFrame]

/-- A NOTICE enters where none of its channel is queued (R200). -/
theorem admitNotice_linkKept (urgent : Bool) (s : State) : LinkKept s (admitNotice urgent s) := by
  unfold admitNotice
  split
  next admissible =>
    simp only [noticeAdmissible, Bool.and_eq_true, decide_eq_true_eq, Bool.not_eq_true'] at admissible
    obtain ⟨⟨⟨-, room⟩, none⟩, -⟩ := admissible
    have entered : LinkKept s (enqueue (noticeFrame urgent s) s) := by
      refine enqueue_linkKept room fun other h => ?_
      obtain rfl := (isNotice_noticeFrame urgent other s).1 h
      simpa [noticesQueued] using none
    dsimp only
    exact .ite (entered.thenSame rfl rfl) (entered.thenSame rfl rfl)
  · exact .refl s

theorem admitNext_linkKept (s : State) : LinkKept s (admitNext s) := .ite (admitNotice_linkKept _ s) (admitNotice_linkKept _ s)

theorem admitNotices_linkKept (s : State) : LinkKept s (admitNotices s) :=
  (admitNotice_linkKept true s).trans (admitNotice_linkKept false _)

theorem noticesBefore_linkKept (n : Nat) (s : State) : LinkKept s (noticesBefore n s) := by
  induction n generalizing s with
  | zero => exact .refl s
  | succ n ih =>
    have chosen : LinkKept s (takeChoice s).2 := .of_same rfl rfl
    unfold noticesBefore
    exact .ite (chosen.trans (.ite ((admitNext_linkKept _).trans (ih _)) (.refl _))) (.refl s)

theorem offerMirror_linkKept (payload : List Byte) (s : State) : LinkKept s (offerMirror payload s) := by
  refine (noticesBefore_linkKept 2 s).trans ?_
  unfold offerMirror placeMirror
  split
  next room => exact enqueue_plain_linkKept (Nat.le_trans (by decide) room) (by simp [mirrorFrame])
  · exact .of_same rfl rfl

/-! ### Grants -/

/-- A grant to another requester than FORWARD puts a transaction of its own in flight, or none. -/
theorem grant_inFlight {q : Requester} (hq : q ≠ .forward) (s : State) :
    (grant q s).chain.inFlight = s.chain.inFlight ∨ ∃ x, (grant q s).chain.inFlight = some x ∧ x.requester = q := by
  unfold grant
  cases q with
  | forward => exact absurd rfl hq
  | sweep =>
    dsimp only [grantSweep]
    split
    · exact .inl (by simp)
    · exact .inr ⟨_, rfl, rfl⟩
    · exact .inr ⟨_, rfl, rfl⟩
  | capture =>
    dsimp only [grantCapture]
    split
    · exact .inl (by simp)
    split
    · split
      · exact .inr ⟨_, rfl, rfl⟩
      · exact .inl (by simp)
    · exact .inl (by simp)
  | watch =>
    dsimp only [grantWatch]
    split
    · exact .inl (by simp)
    next f _ _ => cases f <;> exact .inr ⟨_, rfl, rfl⟩
  | enumerate =>
    dsimp only [grantEnumerate]
    split
    · exact .inr ⟨_, rfl, rfl⟩
    · exact .inr ⟨_, rfl, rfl⟩

/-- The head of the Forward Queue goes in flight, and its answer is owed as before (R191). -/
theorem grantForward_linkKept {s : State} (free : s.chain.inFlight = none) : LinkKept s (grantForward s) := by
  unfold grantForward
  split
  · exact .refl s
  next f rest queue =>
    refine ⟨fun n ⟨room, owed, forward, _⟩ => ⟨room, ?_, ?_, rfl⟩, fun h => ?_⟩
    · simp only [answersOwed, queue, free, List.length_cons] at owed
      show s.link.reserved = rest.length + 1 + n
      omega
    · rw [queue, List.length_cons] at forward
      exact Nat.le_of_succ_le forward
    · rw [noticesFit_iff] at h ⊢
      refine ⟨h.1, fun x hx _ => ?_⟩
      cases hx
      rfl

theorem grant_linkKept (q : Requester) {s : State} (free : s.chain.inFlight = none) : LinkKept s (grant q s) := by
  by_cases hq : q = .forward
  · subst hq
    exact (LinkKept.of_same (by simp) (by simp)).trans (grantForward_linkKept (s := recordGrant .forward s) (by simpa using free))
  · refine .of_flight ?_ (fun x hx => by simp [free] at hx) fun x hx => ?_
    · unfold grant
      cases q <;> simp at hq ⊢
    · rcases grant_inFlight hq s with e | ⟨y, e, hy⟩
      · simp [e, free] at hx
      · obtain rfl : y = x := Option.some.inj (e.symm.trans hx)
        exact hy ▸ hq

theorem arbitrate_linkKept (s : State) : LinkKept s (arbitrate s) := by
  unfold arbitrate
  generalize 16 = n
  induction n generalizing s with
  | zero => exact .refl s
  | succ n ih =>
    unfold arbitrateN
    split
    next free =>
      have none : s.chain.inFlight = none := by simpa using (Bool.and_eq_true_iff.1 free).1
      split
      · exact .refl s
      · exact (grant_linkKept _ none).trans (ih _)
    · exact .refl s

theorem LinkKept.thenArbitrate {s t : State} (h : LinkKept s t) : LinkKept s (arbitrate t) := h.trans (arbitrate_linkKept t)

/-! ### The end of a transaction -/

theorem evaluateAnswer_linkKept (p : Nat) (kind : ReadKind) (payload : List Byte) (s : State) :
    LinkKept s (evaluateAnswer p kind payload s) := by
  refine .trans (t := eachChannel evaluateChannel p kind payload s) (.of_same (by simp) (by simp)) ?_
  unfold evaluateAnswer mirrorAnswer
  split
  · exact .refl _
  split
  · exact (offerMirror_linkKept _ _).trans (offerMirror_linkKept _ _)
  · exact offerMirror_linkKept _ _
  · exact .refl _

theorem evaluateSense_linkKept (p : Nat) (payload : List Byte) (s : State) : LinkKept s (evaluateSense p payload s) := by
  have mirrored (c : Prop) [Decidable c] (m : List Byte) (u : State) : LinkKept u (if c then offerMirror m u else u) :=
    .ite (offerMirror_linkKept m u) (.refl u)
  unfold evaluateSense
  dsimp only
  refine .trans (.of_same ?_ ?_) (mirrored _ _ _)
  all_goals rw [apply_ite judgeRecord]; split <;> simp

theorem handOn_linkKept {t : Transaction} (p : Nat) (e : Ending) (s : State) (h : t.requester = .forward → t.discard = true) :
    LinkKept s (handOn t p e s) := by
  unfold handOn
  split
  next forward => simp only [h forward, if_true]; exact .refl s
  · split
    · exact .refl s
    · unfold handSweep
      split
      · exact .refl s
      split
      · exact evaluateSense_linkKept _ _ s
      · exact evaluateAnswer_linkKept _ _ _ s
      · exact evaluateAnswer_linkKept _ _ _ s
  · split <;> exact .of_same (by simp) (by simp)
  all_goals exact .of_same (by simp) (by simp)

/-- An outcome's answer, where there is one, has a chain-side kind (R31). -/
def AnswersChainSide (e : Ending) : Prop := ∀ f, e = .answered f → chainSide f.kind = true

theorem chainAnswer_kind {e : Ending} (h : AnswersChainSide e) (p : Nat) (s : State) : (chainAnswer p e s).kind ≠ 0x62 := by
  cases e with
  | answered f =>
    have small := h f rfl
    simp only [chainSide, Bool.and_eq_true, decide_eq_true_eq] at small
    intro e
    have : (0x40 + f.kind : Byte).toNat = 0x62 := congrArg BitVec.toNat e
    rw [BitVec.toNat_add] at this
    simp at this
    omega
  | noAnswer => simp [chainAnswer]
  | badAnswer => simp [chainAnswer]

/-- A forwarded transaction that is answered takes its reservation (R192, R193). -/
theorem handForward_linkKept {t : Transaction} {p : Nat} {e : Ending} {s : State} (ht : s.chain.inFlight = some t)
    (forward : t.requester = .forward) (due : t.discard = false) (answers : noticesFit s = true → AnswersChainSide e) :
    LinkKept s (handForward p e { s with chain.inFlight := none }) where
  queues n := fun ⟨room, owed, forwarded, _⟩ => by
    simp only [answersOwed, ht, forward, due, and_self, if_true] at owed
    refine ⟨?_, ?_, forwarded, rfl⟩
    · simp [handForward, enqueueReserved, enqueue]; omega
    · simp only [handForward, enqueueReserved, enqueue, answersOwed]; omega
  notices h := by
    have plain := chainAnswer_kind (answers h) p { s with chain.inFlight := none }
    rw [noticesFit_iff] at h ⊢
    refine ⟨fun urgent => ?_, fun x hx => by simp [handForward, enqueueReserved, enqueue] at hx⟩
    rw [handForward, enqueueReserved, noticesQueued_enqueue, if_neg (by simp [isNotice_of_kind plain])]
    exact h.1 urgent

theorem finish_linkKept {t : Transaction} {p : Nat} {e : Ending} {s : State} (ht : s.chain.inFlight = some t)
    (answers : t.expect = none → AnswersChainSide e) : LinkKept s (finish t p e s) := by
  by_cases due : t.requester = .forward ∧ t.discard = false
  · obtain ⟨forward, due⟩ := due
    rw [finish_forward t p e s forward]
    simp only [due, Bool.false_eq_true, if_false]
    exact (handForward_linkKept ht forward due fun h => answers (((noticesFit_iff s).1 h).2 t ht forward)).thenArbitrate
  · have undue : t.requester = .forward → t.discard = true := fun h => by simpa [h] using due
    have freed : LinkKept s { s with chain.inFlight := none } := by
      refine .of_flight rfl (fun x hx hf => ?_) fun x hx => nomatch hx
      obtain rfl : t = x := Option.some.inj (ht.symm.trans hx)
      exact .inl (undue hf)
    exact ((freed.thenSame (by simp) (by simp)).trans (handOn_linkKept p e _ undue)).thenArbitrate

theorem judgeAnswer_chainSide {expect : Option Byte} (p : Nat) (f : Frame) (received : Half) (h : expect = none) :
    AnswersChainSide (judgeAnswer expect p f received) := by
  subst h
  intro g hg
  unfold judgeAnswer at hg
  split at hg <;> cases hg
  next good => simpa [goodAnswer] using (Bool.and_eq_true_iff.1 good).2

/-- A broadcast is no forwarded transaction, which addresses a position. -/
theorem broadcastEnd_linkKept {t : Transaction} {s : State} (ht : s.chain.inFlight = some t) (broadcast : t.target = none) :
    LinkKept s (broadcastEnd t s) := by
  have freed : LinkKept s { s with chain.inFlight := none } := by
    refine .of_flight rfl (fun x hx _ => ?_) fun x hx => nomatch hx
    obtain rfl : t = x := Option.some.inj (ht.symm.trans hx)
    exact .inr broadcast
  unfold broadcastEnd
  dsimp only
  split
  · exact LinkKept.thenArbitrate (freed.thenSame rfl rfl)
  · exact LinkKept.thenArbitrate (freed.thenSame (by simp) (by simp))
  all_goals exact freed.thenArbitrate

end Sys2Proof.Machine
end

section
/-! The bounds of the queues over every command, event and the passing of time (O55). -/

namespace Sys2Proof.Machine

/-- Both kinds of bounds are kept where no command is being served. -/
structure LinkStep (s t : State) : Prop where
  queues : QueuesHold 0 s → QueuesHold 0 t
  notices : noticesFit s = true → noticesFit t = true

theorem LinkKept.step {s t : State} (h : LinkKept s t) : LinkStep s t := ⟨h.queues 0, h.notices⟩

theorem LinkStep.refl (s : State) : LinkStep s s := (LinkKept.refl s).step

theorem LinkStep.thenKept {s t u : State} (h : LinkStep s t) (k : LinkKept t u) : LinkStep s u :=
  ⟨fun hs => k.queues 0 (h.queues hs), fun hs => k.notices (h.notices hs)⟩

theorem LinkStep.ite {s t u : State} {c : Prop} [Decidable c] (ht : LinkStep s t) (hu : LinkStep s u) :
    LinkStep s (if c then t else u) := by
  split
  · exact ht
  · exact hu

/-- The queues are empty and no forwarded transaction in flight will be answered. -/
theorem LinkStep.of_cleared {s t : State} (upstream : t.link.upstream = []) (reserved : t.link.reserved = 0)
    (forward : t.link.forward = []) (flight : ∀ x, t.chain.inFlight = some x → x.requester ≠ .forward) : LinkStep s t := by
  have idle : answersOwed t = 0 ∧ forwardAddressed t = true := by
    unfold answersOwed forwardAddressed
    rw [forward]
    cases hx : t.chain.inFlight with
    | none => exact ⟨rfl, rfl⟩
    | some x => simp [flight x hx]
  refine ⟨fun _ => ⟨by simp [upstream, reserved], by rw [reserved, idle.1], by simp [forward], idle.2⟩, fun _ => ?_⟩
  rw [noticesFit_iff]
  exact ⟨fun u => by simp [noticesQueued, upstream], fun x hx hf => absurd hf (flight x hx)⟩

/-! ### Boundaries and requests -/

theorem serveRequest_linkKept (s : State) : LinkKept s (serveRequest s) :=
  .ite (.refl s) (LinkKept.thenArbitrate (.of_same (by simp) (by simp)))

theorem startEngine_linkKept (s : State) : LinkKept s (startEngine s) := by
  unfold startEngine
  split
  · exact .ite (.of_same (by simp) (by simp)) (LinkKept.thenArbitrate (.of_same (by simp) (by simp)))
  · exact .of_same rfl rfl
  all_goals exact .refl s

theorem stopEngine_linkKept (s : State) : LinkKept s (stopEngine s) := by
  unfold stopEngine
  split
  · exact .of_same rfl rfl
  · exact LinkKept.thenArbitrate (.of_same (by simp) (by simp))
  all_goals exact .refl s

/-- Unfinished work marks a sweep read in flight to be discarded (R20). -/
theorem abandonWork_linkKept (s : State) : LinkKept s (abandonWork s) := by
  have flight : (abandonWork s).chain.inFlight =
      if sweepReadInFlight s then s.chain.inFlight.map fun t => { t with discard := true } else s.chain.inFlight := by
    unfold abandonWork
    dsimp only
    split <;> rfl
  by_cases reads : sweepReadInFlight s = true
  · cases hx : s.chain.inFlight with
    | none => exact .of_same (by simp) (by rw [flight, if_pos reads, hx]; rfl)
    | some x =>
      have sweeps : x.requester = .sweep := by
        simp only [sweepReadInFlight, hx, Bool.and_eq_true, beq_iff_eq] at reads
        exact reads.1.1
      refine .of_flight (by simp) (fun y hy hf => ?_) fun y hy => ?_
      · obtain rfl : x = y := Option.some.inj (hx.symm.trans hy)
        simp [sweeps] at hf
      · rw [flight, if_pos reads, hx] at hy
        obtain rfl := Option.some.inj hy
        simp [sweeps]
  · exact .of_same (by simp) (by rw [flight, if_neg reads])

theorem endSweep_linkKept (s : State) : LinkKept s (endSweep s) := by
  have completed : LinkKept s (completeRecord (sumCheck (abandonWork s))) := (abandonWork_linkKept s).thenSame (by simp) (by simp)
  unfold endSweep
  exact completed.trans (.ite (.of_same (by simp) (by simp)) (.ite (.of_same (by simp) (by simp)) (.of_same (by simp) (by simp))))

/-! ### Commands -/

theorem cmdOpen_linkKept (s : State) : LinkKept s (cmdOpen s).2 := by
  rcases cmdOpen_state s with e | e | e | e <;> rw [e]
  · exact .refl s
  · exact .of_same rfl rfl
  · exact LinkKept.thenArbitrate (.of_same (by simp) (by simp))
  · exact .trans (t := { s with sequencer.openPending := true }) (.of_same rfl rfl) (serveRequest_linkKept _)

/-- Every command but a HUB-RESET keeps the bounds, with its own reservation. -/
theorem commandOf_linkKept {code : Byte} (hc : code ≠ 0x05) (p : List Byte) (s : State) : LinkKept s (commandOf code p s).2 := by
  generalize hcmd : commandOf code p = cmd
  unfold commandOf at hcmd
  split at hcmd <;> subst hcmd
  case h_5 hcode => exact absurd (BitVec.eq_of_toNat_eq hcode) hc
  case h_6 =>
    rcases cmdSweepStart_state s with e | e <;> rw [e]
    · exact .refl s
    · exact startEngine_linkKept s
  case h_7 => exact stopEngine_linkKept s
  case h_8 =>
    rcases cmdChainGate_state p s with e | ⟨b, e⟩ <;> rw [e]
    · exact .refl s
    · exact LinkKept.thenArbitrate (.of_same rfl rfl)
  case h_9 =>
    rcases cmdEnumerate_state s with e | e <;> rw [e]
    · exact .refl s
    · exact LinkKept.thenArbitrate (.of_same rfl rfl)
  case h_15 =>
    rcases cmdClose_state s with e | e <;> rw [e]
    · exact .refl s
    · exact .trans (t := { s with sequencer.closePending := true }) (.of_same rfl rfl) (serveRequest_linkKept _)
  case h_16 => exact cmdOpen_linkKept s
  all_goals
    simp only [cmdIdentify, cmdReadStatus, cmdReadEvents, cmdSetEvents, cmdSetProfile, cmdReadSamples, cmdReadPack, cmdReadTrip,
      cmdClearTrip, cmdReadCapture, cmdSleep, cmdUpdateBegin, cmdUpdateWindow, cmdUpdateWrite, cmdUpdateSeal, cmdUpdateActivate,
      cmdUpdateAbort, cmdLockFloor, cmdClearTamper, cmdReadTable, cmdUnknown, refuseWrite, writeStage]
    (repeat' split)
    all_goals exact .of_same (by simp) (by simp)

theorem acceptFrame_queues {s : State} (room : freeCount s ≠ 0) (h : QueuesHold 0 s) : QueuesHold 1 (acceptFrame s) where
  room := by
    have free := (room_of_freeCount (Nat.one_le_iff_ne_zero.2 room)).resolve_right (by decide)
    show s.link.upstream.length + (s.link.reserved + 1) ≤ 16
    omega
  owed := by
    show s.link.reserved + 1 = answersOwed s + 1
    rw [h.owed]
  forward := h.forward
  addressed := h.addressed

/-- A reply enters in the reservation made for its command (R193, R195). -/
theorem reply_queues (code : Byte) (r : Reply) {s : State} (h : QueuesHold 1 s) : QueuesHold 0 (enqueueReserved (replyFrame code r) s) := by
  obtain ⟨room, owed, forward, addressed⟩ := h
  refine ⟨?_, ?_, forward, addressed⟩
  · simp [enqueueReserved, enqueue]; omega
  · show s.link.reserved - 1 = answersOwed s + 0
    omega

theorem reply_notices (code : Byte) (r : Reply) {s : State} (h : noticesFit s = true) :
    noticesFit (enqueueReserved (replyFrame code r) s) = true := by
  rw [noticesFit_iff] at h ⊢
  refine ⟨fun urgent => ?_, h.2⟩
  rw [enqueueReserved, noticesQueued_enqueue, if_neg (by simp [isNotice_of_kind, replyFrame])]
  exact h.1 urgent

theorem dispatch_linkStep (code : Byte) {cmd : State → Reply × State} {s : State} (h : ∀ u, LinkKept u (cmd u).2)
    (room : freeCount s ≠ 0) : LinkStep s (dispatch code cmd s) := by
  rw [dispatch_eq]
  have ready (u : State) : LinkKept u (if code = 0x15 then u else closeWrite u) := .ite (.refl u) (.of_same rfl rfl)
  have served := (ready (acceptFrame s)).trans (h _)
  exact ⟨fun hs => reply_queues _ _ (served.queues 1 (acceptFrame_queues room hs)),
    fun hs => reply_notices _ _ (served.notices hs)⟩

/-- The reply to a HUB-RESET is the one entry of the queue (R204, R206). -/
theorem hubReset_linkStep {s : State} (room : freeCount s ≠ 0) : LinkStep s (dispatch 0x05 cmdHubReset s) := by
  rw [dispatch_eq, if_neg (by decide)]
  rcases cmdHubReset_state (closeWrite (acceptFrame s)) with e | e <;> rw [e]
  · have ready : LinkKept (acceptFrame s) (closeWrite (acceptFrame s)) := .of_same rfl rfl
    exact ⟨fun hs => reply_queues _ _ (ready.queues 1 (acceptFrame_queues room hs)), fun hs => reply_notices _ _ hs⟩
  · generalize closeWrite (acceptFrame s) = u
    have cleared : (directedReset u).link = { exchange := none, answerSlot := none, forward := [], upstream := [], reserved := 0 } := by
      simp [directedReset, directedLink]
    have flight : (directedReset u).chain.inFlight = none := by simp [directedReset, directedChain]
    generalize (cmdHubReset u).1 = r
    refine ⟨fun _ => ⟨?_, ?_, ?_, ?_⟩, fun _ => reply_notices _ _ ?_⟩
    · simp [enqueueReserved, enqueue, cleared]
    · simp [enqueueReserved, enqueue, answersOwed, cleared, flight]
    · simp [enqueueReserved, enqueue, cleared]
    · simp [enqueueReserved, enqueue, forwardAddressed, flight]
    · rw [noticesFit_iff]
      exact ⟨fun urgent => by simp [noticesQueued, cleared], fun x hx => by simp [flight] at hx⟩

/-- An accepted chain frame joins the Forward Queue with its reservation (R189, R191). -/
theorem forwardFrame_linkStep {f : Frame} {s : State} (queue : s.link.forward.length < 4) (room : freeCount s ≠ 0) :
    LinkStep s (forwardFrame f s) := by
  have joined : LinkStep s { acceptFrame s with link.forward := s.link.forward ++ [f] } := by
    refine ⟨fun hs => ?_, id⟩
    obtain ⟨filled, owed, -, addressed⟩ := acceptFrame_queues room hs
    refine ⟨filled, ?_, ?_, addressed⟩
    · show s.link.reserved + 1 = answersOwed { s with link.forward := s.link.forward ++ [f] } + 0
      have : s.link.reserved = answersOwed s + 0 := hs.owed
      simp only [answersOwed, List.length_append, List.length_singleton] at this ⊢
      omega
    · show (s.link.forward ++ [f]).length ≤ 4
      rw [List.length_append]
      exact queue
  exact joined.thenKept (arbitrate_linkKept _)

theorem portEnd_linkStep {c : Instr} {s t : State} (h : PortEnd c s t) : LinkStep s t := by
  cases h with
  | dropped => exact .refl s
  | held r address kind => exact (LinkKept.of_queues (s := s) (t := holdOff r address kind s) rfl rfl rfl rfl).step
  | forwarded f queue room => exact forwardFrame_linkStep queue room
  | unknown code room => exact dispatch_linkStep code (fun u => .refl u) room
  | command code p carries room =>
    by_cases reset : code = 0x05
    · subst reset; exact hubReset_linkStep room
    · exact dispatch_linkStep code (commandOf_linkKept reset p) room

/-! ### Events -/

theorem coldReset_linkStep {s t : State} (hlink : t.link = State.unstarted.link) (hflight : t.chain.inFlight = none) :
    LinkStep s (resetEnd t) := by
  have cleared : LinkStep s t := .of_cleared (by rw [hlink]; rfl) (by rw [hlink]; rfl) (by rw [hlink]; rfl) fun x hx => by simp [hflight] at hx
  exact (cleared.thenKept (arbitrate_linkKept t)).thenKept
    (.of_same (tamperAtReset_link (arbitrate t)) (congrArg ChainPort.inFlight (tamperAtReset_chain (arbitrate t))))

theorem takeFrameOut_linkKept (s : State) : LinkKept s (takeFrameOut s) := by
  have sent (out : Frame) : LinkKept s
      { s with link.exchange := some (.carrying out), link.upstream := s.link.upstream.tail } := by
    refine ⟨fun n ⟨room, owed, forward, addressed⟩ => ⟨?_, owed, forward, addressed⟩, fun h => ?_⟩
    · simp; omega
    · rw [noticesFit_iff] at h ⊢
      exact ⟨fun u => Nat.le_trans (((List.tail_sublist _).filter _).length_le) (h.1 u), h.2⟩
  unfold takeFrameOut
  dsimp only
  split
  · exact .of_queues rfl rfl rfl rfl
  · exact sent _

/-- The drain's expiry discards what waits, and marks a forwarded transaction (R142). -/
theorem discardDrain_linkStep (s : State) : LinkStep s (discardDrain s) where
  queues h := by
    have hx : answersOwed (discardDrain s) = 0 ∧ forwardAddressed (discardDrain s) = forwardAddressed s := by
      unfold answersOwed forwardAddressed discardDrain
      cases s.chain.inFlight with
      | none => exact ⟨rfl, rfl⟩
      | some x => by_cases hf : x.requester = .forward <;> simp [hf]
    exact ⟨Nat.zero_le 16, hx.1.symm, Nat.zero_le 4, hx.2.trans h.addressed⟩
  notices h := by
    rw [noticesFit_iff] at h ⊢
    refine ⟨fun u => Nat.zero_le 1, fun y hy hf => ?_⟩
    unfold discardDrain at hy
    cases hx : s.chain.inFlight with
    | none => simp [hx] at hy
    | some x =>
      simp only [hx, Option.map_some, Option.some.injEq] at hy
      subst hy
      by_cases forward : x.requester = .forward
      · simpa [forward] using h.2 x hx forward
      · simp [forward] at hf

theorem settleEnd_linkKept (s : State) : LinkKept s (settleEnd s) := by
  have entered (u : State) : LinkKept u (enterActive u) := by
    unfold enterActive
    refine .thenSame (t := admitNotices (superviseFeedback (beginTick { u with power.power := .active }))) ?_ (raise_link _ _) (by simp)
    exact .trans (.of_same (by simp) (by simp)) (admitNotices_linkKept _)
  exact .ite (.trans (t := { s with power.settleTimer := none }) (.of_same rfl rfl) (entered _)) (.of_same rfl rfl)

theorem event_linkStep {c : Instr} {s t : State} (port : commandFrame c = none) (ended : ∀ rx, c ≠ .exchangeEnd rx)
    (ht : exec c s = .next t) : LinkStep s t := by
  have arbitrated {u : State} (hlink : u.link = s.link) (hflight : u.chain.inFlight = s.chain.inFlight) : LinkStep s (arbitrate u) :=
    (LinkKept.thenArbitrate (.of_same hlink hflight)).step
  cases c with
  | exchangeEnd rx => exact absurd rfl (ended rx)
  | powerOnReset => cases ht; exact coldReset_linkStep rfl rfl
  | hardReset => cases ht; exact coldReset_linkStep rfl rfl
  | exchangeBegin =>
    cases ht
    exact (LinkKept.ite (.refl s) (.ite (takeFrameOut_linkKept s) (.trans (t := { s with link.exchange := some .dark })
      (.of_queues rfl rfl rfl rfl) (.of_same (by simp) (by simp))))).step
  | broadcastSent =>
    simp only [exec, execBroadcastSent] at ht
    split at ht
    · cases ht; exact .refl _
    next x hx =>
      split at ht <;> cases ht
      next broadcast => exact (broadcastEnd_linkKept hx broadcast).step
      · exact .refl _
  | answerReceived rx =>
    simp only [exec, execAnswerReceived] at ht
    split at ht <;> cases ht
    next t p f received awaited _ =>
      exact (finish_linkKept (inFlight_of_awaiting awaited) (judgeAnswer_chainSide p f received)).step
    · exact .refl _
  | responseWindowClose begun =>
    simp only [exec, execResponseWindowClose] at ht
    split at ht <;> cases ht
    next t p awaited =>
      exact (finish_linkKept (inFlight_of_awaiting awaited) fun _ f hf => by cases begun <;> simp at hf).step
    · exact .refl _
  | answerLengthBad n =>
    simp only [exec, execAnswerLengthBad] at ht
    split at ht <;> cases ht
    next t p awaited => exact (LinkKept.ite (finish_linkKept (inFlight_of_awaiting awaited) fun _ f hf => by simp at hf) (.refl _)).step
    · exact .refl _
  | sweepEnd => cases ht; exact .ite (endSweep_linkKept s).thenArbitrate.step (.refl s)
  | drainComplete =>
    cases ht
    exact .ite (LinkKept.thenArbitrate (s := s) (t := endDrain s) (.of_queues rfl rfl rfl rfl)).step (.refl s)
  | drainTimerExpiry =>
    cases ht
    exact .ite ((discardDrain_linkStep s).thenKept (LinkKept.thenArbitrate (s := discardDrain s)
      (t := endDrain (discardDrain s)) (.of_queues rfl rfl rfl rfl)))
      (.refl s)
  | chainSettleEnd => cases ht; exact .ite (settleEnd_linkKept s).thenArbitrate.step (.refl s)
  | noticeAdmitted => cases ht; exact (admitNext_linkKept s).step
  | verifyEnd | commitEnd =>
    simp only [exec, execVerifyEnd, execCommitEnd] at ht
    split at ht <;> cases ht <;> exact (LinkKept.of_same (by simp) (by simp)).step
  | syncWaitExpiry =>
    cases ht
    exact .ite (LinkKept.thenArbitrate (.ite (.of_same (by simp) (by simp)) (.of_same (by simp) (by simp)))).step (.refl s)
  | linkWake | tamperIn => cases ht; exact .ite (.refl s) (LinkKept.of_same (by simp) (by simp)).step
  | oscillatorStarted => cases ht; exact .ite (arbitrated (u := lightUp s) rfl rfl) (.refl s)
  | wakeIn | strayFrame | tamperInDeasserted => cases ht; exact (LinkKept.of_same (by simp) (by simp)).step
  | feedbackDebounced | dwellTimerExpiry => cases ht; exact .ite (LinkKept.of_same (by simp) (by simp)).step (.refl s)
  | syncIn | slotDue | quietWindowStart | deferredSlotsDue | captureStepDue | endedContextLeaves | prechargeTimeout | deferTimerExpiry
  | weldTimerExpiry | disagreementTimerExpiry | silenceTimerExpiry | watchTimerExpiry =>
    cases ht
    exact .ite (arbitrated (by simp) (by simp)) (.refl s)
  | _ => simp [commandFrame] at port

theorem exec_linkStep {c : Instr} {s t : State} (ht : exec c s = .next t) : LinkStep s t := by
  by_cases hport : (commandFrame c).isSome = true ∨ ∃ rx, c = .exchangeEnd rx
  · rcases exec_portEnd hport ht with rfl | ended
    · exact .refl _
    · have exchanged : LinkKept s { s with link.exchange := none } := .of_queues rfl rfl rfl rfl
      obtain ⟨queues, notices⟩ := portEnd_linkStep ended
      exact ⟨fun hs => queues (exchanged.queues 0 hs), fun hs => notices (exchanged.notices hs)⟩
  · obtain ⟨port, ended⟩ := not_or.1 hport
    exact event_linkStep (by simpa using port) (fun rx h => ended ⟨rx, h⟩) ht

/-- Settles O55: by what every acceptance, reply, CHAIN_ANSWER, NOTICE, MIRROR and grant makes of the queues. -/
theorem queuesStayFit : Obligations.QueuesStayFit := fun s t ht => by
  rw [queuesFit_iff, queuesFit_iff]
  rcases step_cases ht with ⟨c, hc⟩ | ⟨c, rest, hc⟩ | rfl
  · obtain ⟨queues, notices⟩ := exec_linkStep hc
    exact ⟨queues, notices⟩
  · have waits : LinkKept s { s with pending := rest } := .of_same rfl rfl
    obtain ⟨queues, notices⟩ := exec_linkStep hc
    exact ⟨fun hs => queues (waits.queues 0 hs), fun hs => notices (waits.notices hs)⟩
  · have passed : LinkKept s (passTime s) := .of_same (by simp) (by simp)
    exact ⟨passed.queues 0, passed.notices⟩

end Sys2Proof.Machine
end

section
/-! The step: the front command, the idle step, and what every command does with the waiting queue (O1, O2, O3, O59). -/

namespace Sys2Proof.Machine

/-- Settles O1: the first arm of the step, with the queue known. -/
theorem stepTakesTheFrontCommand : Obligations.StepTakesTheFrontCommand := fun c rest s queue => by
  simp only [step, queue]

/-- Settles O59: every invariant is computed on the one state. -/
theorem resetMeetsTheInvariants : Obligations.ResetMeetsTheInvariants := by
  refine ⟨rfl, rfl, rfl, rfl, ?_, rfl, rfl, rfl⟩
  refine floorFits_of_no_commit ?_ rfl rfl (by simp [State.reset, State.unstarted])
  exact (loadFits_of_not_armed (by simp [State.reset, State.unstarted])).2 rfl

/-! ### The waiting queue -/

theorem commandOf_pending (code : Byte) (p : List Byte) (s : State) : (commandOf code p s).2.pending = s.pending := by
  generalize hcmd : commandOf code p = cmd
  unfold commandOf at hcmd
  split at hcmd <;> subst hcmd
  all_goals
    simp only [cmdIdentify, cmdReadStatus, cmdReadEvents, cmdSetEvents, cmdHubReset, cmdSweepStart, cmdSweepStop, cmdChainGate,
      cmdEnumerate, cmdSetProfile, cmdReadSamples, cmdReadPack, cmdReadTrip, cmdClearTrip, cmdClose, cmdOpen, cmdReadCapture, cmdSleep,
      cmdUpdateBegin, cmdUpdateWindow, cmdUpdateWrite, cmdUpdateSeal, cmdUpdateActivate, cmdUpdateAbort, cmdLockFloor, cmdClearTamper,
      cmdReadTable, cmdUnknown, refuseWrite, writeStage]
    (repeat' split)
    all_goals simp

/-- A row of the Controller Port completes, and leaves the commands that wait. -/
theorem exec_pending_of_commandFrame {c : Instr} {code : Byte} {p : List Byte} (hc : commandFrame c = some (code, p)) (s : State) :
    ∃ t, exec c s = .next t ∧ t.pending = s.pending := by
  by_cases known : ∀ k, c ≠ .unknownCommand k
  · exact ⟨_, exec_of_commandFrame hc known s, manage_pending code _ (commandOf_pending code p) s⟩
  · obtain ⟨k, hk⟩ := Classical.not_forall.1 known
    obtain rfl := Classical.not_not.1 hk
    exact ⟨_, rfl, manage_pending k cmdUnknown (fun _ => rfl) s⟩

theorem judgeFrame_pending (rx : List Byte) (s : State) : (judgeFrame rx s).pending = s.pending := by
  generalize ht : judgeFrame rx s = t
  cases ht ▸ judgeFrame_portEnd rx s with
  | dropped => rfl
  | held => rfl
  | forwarded => simp
  | unknown code => rw [dispatch_eq]; simp only [enqueueReserved_pending, cmdUnknown]; split <;> rfl
  | command code p =>
    rw [dispatch_eq, enqueueReserved_pending, commandOf_pending]
    split <;> rfl

theorem chosen_pending {c : Prop} [Decidable c] {s t u : State} (ht : t.pending = s.pending) (hu : u.pending = s.pending) :
    (if c then t else u).pending = s.pending := by
  split
  · exact ht
  · exact hu

/-- Settles O3: a row of the Controller Port by its command, and every other row by the operations of its arm. -/
theorem everyCommandCompletesAndLeavesTheQueue : Obligations.EveryCommandCompletesAndLeavesTheQueue := by
  intro c s
  cases hc : commandFrame c with
  | some frame => exact exec_pending_of_commandFrame hc s
  | none =>
    cases c with
    | exchangeEnd rx =>
      simp only [exec, execExchangeEnd]
      split
      · exact ⟨_, rfl, rfl⟩
      · exact ⟨_, rfl, rfl⟩
      · exact ⟨_, rfl, judgeFrame_pending rx _⟩
    | broadcastSent | verifyEnd | commitEnd | answerReceived | responseWindowClose =>
      simp only [exec, execBroadcastSent, execVerifyEnd, execCommitEnd, execAnswerReceived, execResponseWindowClose]
      (repeat' split) <;> exact ⟨_, rfl, by simp⟩
    | answerLengthBad =>
      simp only [exec, execAnswerLengthBad]
      split
      · exact ⟨_, rfl, chosen_pending (by simp) rfl⟩
      · exact ⟨_, rfl, rfl⟩
    | exchangeBegin => exact ⟨_, rfl, chosen_pending rfl (chosen_pending (by simp) (by simp))⟩
    | linkWake | tamperIn => exact ⟨_, rfl, chosen_pending rfl (by simp)⟩
    | wakeIn | noticeAdmitted | strayFrame | tamperInDeasserted => exact ⟨_, rfl, by simp⟩
    | powerOnReset | hardReset => exact ⟨_, rfl, by simp [coldState, hardState]⟩
    | syncIn | syncWaitExpiry | sweepEnd | slotDue | quietWindowStart | deferredSlotsDue | captureStepDue | endedContextLeaves
    | feedbackDebounced | prechargeTimeout | deferTimerExpiry | dwellTimerExpiry | weldTimerExpiry | disagreementTimerExpiry
    | silenceTimerExpiry | drainComplete | drainTimerExpiry | watchTimerExpiry | chainSettleEnd | oscillatorStarted =>
      exact ⟨_, rfl, chosen_pending (by simp) rfl⟩
    | _ => simp [commandFrame] at hc

/-! ### The idle step -/

/-- The events of a list of conditions that can be computed are those of a list of propositions. -/
inductive SameEvents : List (Bool × Instr) → List (Prop × Instr) → Prop where
  | nil : SameEvents [] []
  | cons {b : Bool × Instr} {e : Prop × Instr} {computed : List (Bool × Instr)} {stated : List (Prop × Instr)} :
      (b.1 = true ↔ e.1) ∧ b.2 = e.2 → SameEvents computed stated → SameEvents (b :: computed) (e :: stated)

/-- The first event whose condition holds is due. -/
theorem firstDue_of_first {computed : List (Bool × Instr)} {stated : List (Prop × Instr)} (same : SameEvents computed stated)
    {before after : List (Prop × Instr)} {e : Prop × Instr} (split : stated = before ++ e :: after) (unmet : ∀ x ∈ before, ¬ x.1)
    (holds : e.1) : firstDue computed = some e.2 := by
  induction same generalizing before with
  | nil => simp at split
  | @cons b x computed stated h _ ih =>
    obtain ⟨condition, event⟩ := h
    cases before with
    | nil =>
      obtain ⟨rfl, rfl⟩ := List.cons.inj split
      simp [firstDue, condition.2 holds, event]
    | cons y before =>
      obtain ⟨rfl, rest⟩ := List.cons.inj split
      have off : b.1 = false := Bool.eq_false_iff.2 fun h => unmet x (List.mem_cons_self ..) (condition.1 h)
      have found := ih rest fun z hz => unmet z (List.mem_cons_of_mem _ hz)
      simpa [firstDue, off] using found

/-- Without a condition that holds no event is due. -/
theorem firstDue_eq_none {computed : List (Bool × Instr)} {stated : List (Prop × Instr)} (same : SameEvents computed stated)
    (unmet : ∀ x ∈ stated, ¬ x.1) : firstDue computed = none := by
  induction same with
  | nil => rfl
  | @cons b x computed stated h _ ih =>
    have off : b.1 = false := Bool.eq_false_iff.2 fun hb => unmet x (List.mem_cons_self ..) (h.1.1 hb)
    have found := ih fun z hz => unmet z (List.mem_cons_of_mem _ hz)
    simpa [firstDue, off] using found

theorem expired_iff_ran (s : State) (timer : Option Nat) : expired s timer = true ↔ ∃ t, timer = some t ∧ t ≤ s.now := by
  cases timer <;> simp [expired]

theorem sweeping_iff (s : State) : sweeping s = true ↔ s.sweep.engine = .running ∨ s.sweep.engine = .stopping := by
  unfold sweeping
  cases s.sweep.engine <;> simp

theorem freeCount_pos_iff (s : State) : 1 ≤ freeCount s ↔ s.link.upstream.length + s.link.reserved < 16 := by
  unfold freeCount
  omega

/-- A NOTICE of the channel may enter: the mark, a free entry, none of the channel queued, and the power state (R200). -/
theorem noticeAdmissible_iff (urgent : Bool) (s : State) :
    noticeAdmissible urgent s = true ↔
      (if urgent then s.notice.owedUrgent else s.notice.owedRoutine) = true ∧ s.link.upstream.length + s.link.reserved < 16 ∧
        (∀ f ∈ s.link.upstream, ¬ (f.kind = 0x62 ∧ f.payload.head? = some (if urgent then 0 else 1))) ∧
        (s.power.power = .active ∨ s.power.power = .drain) := by
  simp only [noticeAdmissible, owed, Bool.and_eq_true, Bool.or_eq_true, decide_eq_true_eq, freeCount_pos_iff, Bool.not_eq_true',
    List.any_eq_false, isNotice, beq_iff_eq, and_assoc]

theorem drainOver_iff (s : State) :
    drainOver s = true ↔
      s.power.power = .drain ∧ s.link.upstream = [] ∧ s.link.reserved = 0 ∧ s.link.answerSlot = none ∧ s.link.forward = [] ∧
        s.link.exchange = none ∧ ∀ t, s.chain.inFlight = some t → t.requester ≠ .forward := by
  unfold drainOver drained
  cases s.chain.inFlight <;>
    simp only [Bool.and_eq_true, decide_eq_true_eq, List.isEmpty_iff, Option.isNone_iff_eq_none, bne_iff_ne, reduceCtorEq,
      Option.some.injEq, false_implies, implies_true, forall_eq'] <;> grind

theorem leavesNow_iff (s : State) :
    leavesNow s = true ↔
      ∃ c below, s.capture.stack = c :: below ∧ c.ended = true ∧ c.step ≠ .inFlight ∧ (c.ticksRemaining = 0 ∨ c.leaving = true) := by
  unfold leavesNow
  cases s.capture.stack <;> simp [and_assoc]

theorem stepDueNow_iff (s : State) :
    stepDueNow s = true ↔
      ∃ c below, s.capture.stack = c :: below ∧ c.ended = false ∧ c.ticksRemaining = 0 ∧ c.nextStep < c.count := by
  unfold stepDueNow
  cases s.capture.stack <;> simp [and_assoc]

theorem waitOver_iff (s : State) :
    waitOver s = true ↔ s.sweep.engine = .waitingSync ∧ (live s).sweepHeader.period.toNat / 4 ≤ s.sweep.waitCount := by
  rw [waitOver, Bool.and_eq_true]
  exact and_congr decide_eq_true_iff decide_eq_true_iff

theorem quietOver_iff (s : State) :
    quietOver s = true ↔
      (s.sweep.engine = .running ∨ s.sweep.engine = .stopping) ∧ s.sweep.quiet = .inside ∧
        (live s).sweepHeader.quietEnd.toNat < s.sweep.counter := by
  simp [quietOver, ← sweeping_iff, and_assoc]

theorem quietReached_iff (s : State) :
    quietReached s = true ↔
      (s.sweep.engine = .running ∨ s.sweep.engine = .stopping) ∧ quietEnabled (live s) = true ∧ s.sweep.quiet = .before ∧
        (live s).sweepHeader.quietStart.toNat ≤ s.sweep.counter := by
  simp [quietReached, ← sweeping_iff, and_assoc]

theorem slotReached_iff (s : State) :
    slotReached s = true ↔
      (s.sweep.engine = .running ∨ s.sweep.engine = .stopping) ∧ s.sweep.slotsPassed < slotCount (live s) ∧
        (sweepSlot (live s) s.sweep.slotsPassed).offset.toNat ≤ s.sweep.counter ∧
        (quietEnabled (live s) = true →
          (live s).sweepHeader.quietEnd.toNat < (sweepSlot (live s) s.sweep.slotsPassed).offset.toNat → s.sweep.quiet = .after) := by
  have unhindered : (!behindQuiet s (sweepSlot (live s) s.sweep.slotsPassed).offset.toNat) = true ↔
      (quietEnabled (live s) = true →
        (live s).sweepHeader.quietEnd.toNat < (sweepSlot (live s) s.sweep.slotsPassed).offset.toNat → s.sweep.quiet = .after) := by
    unfold behindQuiet
    cases quietEnabled (live s) <;> by_cases after : s.sweep.quiet = .after <;> simp [after]
  simp only [slotReached, ← sweeping_iff, ← unhindered, Bool.and_eq_true, decide_eq_true_eq, and_assoc]

theorem sweepOver_iff (s : State) :
    sweepOver s = true ↔
      (s.sweep.engine = .running ∨ s.sweep.engine = .stopping) ∧ (live s).sweepHeader.period.toNat ≤ s.sweep.counter := by
  simp [sweepOver, ← sweeping_iff]

theorem idle_of_due {s : State} {i : Instr} (queue : s.pending = []) (h : dueEvent s = some i) : step s = exec i s := by
  simp only [step, queue, idle, h]

theorem idle_of_none {s : State} (queue : s.pending = []) (h : dueEvent s = none) : step s = .next (passTime s) := by
  simp only [step, queue, idle, h]

theorem tickCapture_eq (s : State) :
    tickCapture s =
      { s with
        capture.stack := match s.capture.stack with
          | [] => []
          | k :: ks => { k with ticksRemaining := k.ticksRemaining - 1 } :: ks } := by
  unfold tickCapture
  cases h : s.capture.stack with
  | nil => exact congrArg (fun l => { s with capture.stack := l }) h
  | cons k ks => rfl

/-- Settles O2: each condition of the order says what the one the model computes says, so the first that holds is the event that is
due. -/
theorem idleStepIsDueEventOrTime : Obligations.IdleStepIsDueEventOrTime := by
  intro s queue length h q notice drained ran sweeps slot events
  have timer (o : Option Nat) (i : Instr) : (expired s o = true ↔ ran o) ∧ i = i := ⟨expired_iff_ran s o, rfl⟩
  have stated : ∃ computed, dueEvent s = firstDue computed ∧ SameEvents computed events := by
    refine ⟨_, rfl, .cons ⟨?_, rfl⟩ (.cons ⟨drainOver_iff s, rfl⟩ (.cons (timer _ _) (.cons (timer _ _) (.cons (timer _ _)
      (.cons (timer _ _) (.cons (timer _ _) (.cons (timer _ _) (.cons (timer _ _) (.cons (timer _ _) (.cons (timer _ _)
      (.cons (timer _ _) (.cons (timer _ _) (.cons ⟨leavesNow_iff s, rfl⟩ (.cons ⟨stepDueNow_iff s, rfl⟩
      (.cons ⟨waitOver_iff s, rfl⟩ (.cons ⟨quietOver_iff s, rfl⟩ (.cons ⟨quietReached_iff s, rfl⟩ (.cons ⟨slotReached_iff s, rfl⟩
      (.cons ⟨sweepOver_iff s, rfl⟩ .nil)))))))))))))))))))⟩
    exact Bool.or_eq_true_iff.trans (or_congr (noticeAdmissible_iff true s) (noticeAdmissible_iff false s))
  obtain ⟨computed, due, same⟩ := stated
  refine ⟨fun before e after split unmet holds => idle_of_due queue (due.trans (firstDue_of_first same split unmet holds)), fun unmet => ?_⟩
  rw [idle_of_none queue (due.trans (firstDue_eq_none same unmet))]
  refine ⟨fun active later => ?_, fun active now => ?_, fun asleep => ?_, fun notActive notAsleep => ?_⟩
  · simp [passTime, active, Nat.not_le.2 later]
  · simp only [passTime, active, now, tick, tickCapture_eq, beginTick, tickLength, waitingSync, decide_eq_true_eq, if_true]
    simp only [sweeping_iff]
    rfl
  · simp [passTime, asleep, sleepSeconds]
  · cases hp : s.power.power <;> simp_all [passTime]

end Sys2Proof.Machine
end

section
/-! Exchanges (O4, O5): the frame sent, the tests of the frame received in their order, and the rows of the Controller Port as the
MANAGE frames they stand for. -/

namespace Sys2Proof.Machine

/-! ### The frame received -/

/-- The state in which the exchange is over. -/
def exchanged (s : State) : State := { s with link.exchange := none }

theorem exec_exchangeEnd_of_carrying {out : Frame} {s : State} (h : s.link.exchange = some (.carrying out)) (rx : List Byte) :
    exec (.exchangeEnd rx) s = .next (judgeFrame rx (exchanged s)) := by
  simp only [exec, execExchangeEnd, h]
  rfl

/-- A frame that is not IDLE and meets a test is held off (R189). -/
theorem judgeFrame_held {rx : List Byte} {s : State} {r : HoldOff} (busy : ∀ f, goodFrame? rx = some f → f.kind ≠ 0x00)
    (h : holdReason (goodFrame? rx) s = some r) : judgeFrame rx s = holdOff r (rx.getD 0 0) (rx.getD 1 0) s := by
  unfold judgeFrame
  dsimp only
  rw [if_neg, h]
  cases hf : goodFrame? rx with
  | none => simp
  | some f => simpa using busy f hf

theorem judgeFrame_idle {rx : List Byte} {f : Frame} {s : State} (hf : goodFrame? rx = some f) (idle : f.kind = 0x00) :
    judgeFrame rx s = s := by simp [judgeFrame, hf, idle]

theorem judgeFrame_accepted {rx : List Byte} {f : Frame} {s : State} (hf : goodFrame? rx = some f) (busy : f.kind ≠ 0x00)
    (h : holdReason (some f) s = none) : judgeFrame rx s = acceptedFrame f s := by
  have moving : (f.kind == 0x00) = false := beq_eq_false_iff_ne.2 busy
  simp only [judgeFrame, hf, Option.any_some, moving, Bool.false_eq_true, if_false, h]

theorem isChainKind_iff (kind : Byte) : isChainKind kind = true ↔ kind = 0x01 ∨ kind = 0x02 := by simp [isChainKind]

/-- The tests of BAD_FRAME on a frame with a correct check (R189). -/
theorem wellDirected_iff (f : Frame) :
    wellDirected f = true ↔
      ((f.kind = 0x01 ∨ f.kind = 0x02) ∧ 1 ≤ f.address.toNat ∧ f.address.toNat ≤ 24) ∨
        (f.kind = 0x03 ∧ f.address = 0 ∧ f.payload ≠ []) := by
  unfold wellDirected
  by_cases chain : f.kind = 0x01 ∨ f.kind = 0x02
  · have notManage : f.kind ≠ 0x03 := by rcases chain with h | h <;> rw [h] <;> decide
    rw [if_pos ((isChainKind_iff _).2 chain)]
    simp only [BitVec.ofNat_eq_ofNat] at chain notManage
    simp [between, chain, notManage]
  · rw [if_neg (mt (isChainKind_iff _).1 chain)]
    simp only [BitVec.ofNat_eq_ofNat] at chain
    simp [chain, and_assoc]

section

variable {f : Frame} {s : State}

theorem holdReason_waking (frame : Option Frame) (awake : waking s = true) : holdReason frame s = some .waking := by
  simp [holdReason, awake]

theorem holdReason_misdirected (awake : waking s = false) (misdirected : wellDirected f = false) :
    holdReason (some f) s = some .badFrame := by simp [holdReason, awake, misdirected]

theorem holdReason_chain (awake : waking s = false) (directed : wellDirected f = true) (chain : isChainKind f.kind = true)
    (barred : s.chain.state ≠ .numbered ∨ enteringSleep s = true) : holdReason (some f) s = some .chain := by
  simp [holdReason, awake, directed, chain, barred]

theorem holdReason_safeOpen (awake : waking s = false) (directed : wellDirected f = true)
    (numbered : s.chain.state = .numbered) (wakeful : enteringSleep s = false) (command : f.kind = 0x01)
    (tripped : s.protection.state = .safeOpen) : holdReason (some f) s = some .safeOpen := by
  simp [holdReason, awake, directed, numbered, wakeful, command, tripped]

/-- A frame that passes the tests on chain and protection meets those on the queues (R189). -/
theorem holdReason_queues (awake : waking s = false) (directed : wellDirected f = true)
    (passes : isChainKind f.kind = true → s.chain.state = .numbered ∧ enteringSleep s = false)
    (permitted : f.kind = 0x01 → s.protection.state ≠ .safeOpen) :
    holdReason (some f) s =
      if isChainKind f.kind = true ∧ 4 ≤ s.link.forward.length then some .queueFull
      else if freeCount s = 0 then some .noRoom else none := by
  have unbarred : (isChainKind f.kind && (decide (s.chain.state ≠ .numbered) || enteringSleep s)) = false := by
    cases hc : isChainKind f.kind with
    | false => rfl
    | true => simp [passes hc]
  have allowed : (f.kind == 0x01 && decide (s.protection.state = .safeOpen)) = false := by
    by_cases hk : f.kind = 0x01
    · simp [permitted hk]
    · rw [beq_eq_false_iff_ne.2 hk, Bool.false_and]
  simp only [holdReason, awake, directed, unbarred, allowed, Bool.not_true, Bool.false_eq_true, if_false, Bool.and_eq_true,
    decide_eq_true_eq]

end

/-- The first part of O4: the frame sent. -/
theorem exchangeBegin_of_powered {s : State} (free : s.link.exchange = none) (powered : portPowered s = true) :
    exec .exchangeBegin s = .next (takeFrameOut s) := by
  simp [exec, execExchangeBegin, free, powered]

theorem takeFrameOut_answer {f : Frame} {s : State} (h : s.link.answerSlot = some f) :
    takeFrameOut s = { s with link.exchange := some (.carrying f), link.answerSlot := none } := by
  simp [takeFrameOut, frameOut, h]

theorem takeFrameOut_queue {s : State} (h : s.link.answerSlot = none) :
    takeFrameOut s =
      { s with link.exchange := some (.carrying (s.link.upstream.head?.getD emptyFrame)), link.upstream := s.link.upstream.tail } := by
  cases hq : s.link.upstream <;> simp [takeFrameOut, frameOut, h, hq]

/-- Settles O4: the choice of the frame out by slot and queue, and each test of R189 on the state in which the exchange is over. -/
theorem exchangesBeginAndEnd : Obligations.ExchangesBeginAndEnd := by
  refine ⟨fun s => ⟨fun free powered => ?_, fun free dark => ?_, fun busy => ?_⟩, fun rx s => ⟨fun h => ?_, fun h => ?_⟩,
    fun rx out s carrying => ?_⟩
  · rw [exchangeBegin_of_powered free powered]
    refine ⟨fun f h => by rw [takeFrameOut_answer h], fun f rest h hq => ?_, fun h hq => ?_⟩
    · rw [takeFrameOut_queue h, hq]
      rfl
    · rw [takeFrameOut_queue h, hq]
      exact congrArg (fun q => Host.Outcome.next { s with link.exchange := some (.carrying emptyFrame), link.upstream := q }) hq.symm
  · simp [exec, execExchangeBegin, free, dark]
  · simp [exec, execExchangeBegin, Option.isSome_iff_ne_none.2 busy]
  · simp only [exec, execExchangeEnd, h]
  · simp only [exec, execExchangeEnd, h]
  · intro held chain fits
    rw [exec_exchangeEnd_of_carrying carrying]
    have heldBy {r : HoldOff} (busy : ∀ f, goodFrame? rx = some f → f.kind ≠ 0x00) (h : holdReason (goodFrame? rx) s = some r) :
        Host.Outcome.next (judgeFrame rx (exchanged s)) = held r := by
      rw [judgeFrame_held busy (s := exchanged s) h]
      rfl
    refine ⟨fun bad => heldBy (by simp [bad]) ?_, fun f hf => ?_⟩
    · rw [bad]
      unfold holdReason
      cases waking s <;> rfl
    have heldGood {r : HoldOff} (busy : f.kind ≠ 0x00) (h : holdReason (some f) s = some r) :
        Host.Outcome.next (judgeFrame rx (exchanged s)) = held r :=
      heldBy (fun g hg => by rw [hf] at hg; cases hg; exact busy) (hf ▸ h)
    have directed (h : fits f) : wellDirected f = true := (wellDirected_iff f).2 h
    have busyOf (h : fits f) : f.kind ≠ 0x00 := by rcases h with ⟨h | h, -⟩ | ⟨h, -⟩ <;> rw [h] <;> decide
    have chainOf (h : chain f) : isChainKind f.kind = true := (isChainKind_iff _).2 h
    refine ⟨fun idle => ?_, fun busy awake => ?_, fun busy awake misfit => ?_, fun awake fit c barred => ?_,
      fun awake fit _ numbered wakeful command tripped => ?_, fun awake fit c numbered wakeful permitted full => ?_,
      fun awake fit passes room => ?_, fun awake fit c numbered wakeful permitted queue room => ?_⟩
    · rw [judgeFrame_idle hf idle]; rfl
    · exact heldGood busy (holdReason_waking _ awake)
    · exact heldGood busy (holdReason_misdirected awake (by simpa using mt (wellDirected_iff f).1 misfit))
    · exact heldGood (busyOf fit) (holdReason_chain awake (directed fit) (chainOf c) barred)
    · exact heldGood (busyOf fit) (holdReason_safeOpen awake (directed fit) numbered wakeful command tripped)
    · refine heldGood (busyOf fit) ?_
      rw [holdReason_queues awake (directed fit) (fun _ => ⟨numbered, wakeful⟩) permitted, if_pos ⟨chainOf c, full⟩]
    · refine heldGood (busyOf fit) ?_
      have passed (h : isChainKind f.kind = true) := passes ((isChainKind_iff _).1 h)
      rw [holdReason_queues awake (directed fit) (fun h => ⟨(passed h).1, (passed h).2.1⟩)
        (fun h => (passes (.inl h)).2.2.1 h), if_neg fun h => Nat.not_le.2 (passed h.1).2.2.2 h.2, if_pos room]
    · rw [judgeFrame_accepted hf (busyOf fit)]
      · simp only [acceptedFrame, chainOf c, if_true, forwardFrame]
        rfl
      · refine (holdReason_queues (s := s) awake (directed fit) (fun _ => ⟨numbered, wakeful⟩) permitted).trans ?_
        rw [if_neg fun h => Nat.not_le.2 queue h.2, if_neg room]

/-! ### The bytes of a frame (10.1, R207) -/

theorem halfBytes_append (x : Half) : x.extractLsb' 8 8 ++ x.extractLsb' 0 8 = x := by
  have whole := BitVec.extractLsb'_append_extractLsb'_eq_extractLsb' (x := x) (start₁ := 0) (len₁ := 8) (start₂ := 8) (len₂ := 8) rfl
  simpa using whole

theorem halfAt_halfBytes (before after : List Byte) (x : Half) : halfAt (before ++ halfBytes x ++ after) before.length = x := by
  have here : (before ++ halfBytes x ++ after).getD before.length 0 = x.extractLsb' 8 8 := by
    simp [halfBytes, List.getD_eq_getElem?_getD]
  have next : (before ++ halfBytes x ++ after).getD (before.length + 1) 0 = x.extractLsb' 0 8 := by
    simp [halfBytes, List.getD_eq_getElem?_getD]
  rw [halfAt, here, next, halfBytes_append]

theorem byteOf_toNat {n : Nat} (h : n < 256) : (byteOf n).toNat = n := by simp [byteOf, Nat.mod_eq_of_lt h]

/-- A frame of at most 32 payload bytes is received as it was sent, whatever bytes follow it (R188, R207). -/
theorem goodFrame_bytes {f : Frame} (short : f.payload.length ≤ 32) (extra : List Byte) : goodFrame? (f.bytes ++ extra) = some f := by
  have length : (byteOf f.payload.length).toNat = f.payload.length := byteOf_toNat (by omega)
  have whole : wholeFrame? (f.bytes ++ extra) = some (f, check f.body) := by
    have shape : f.bytes ++ extra =
        f.address :: f.kind :: f.flags :: byteOf f.payload.length :: (f.payload ++ halfBytes (check f.body) ++ extra) := by
      simp [Frame.bytes, Frame.body]
    have room : f.payload.length + 2 ≤ (f.payload ++ halfBytes (check f.body) ++ extra).length := by simp [halfBytes]
    rw [shape]
    simp only [wholeFrame?, length]
    rw [if_pos ⟨short, room⟩, halfAt_halfBytes]
    simp [List.append_assoc]
  simp [goodFrame?, whole]

end Sys2Proof.Machine
end

section
/-! The rows of the Controller Port as the MANAGE frames they stand for (O5, log 2). -/

namespace Sys2Proof.Machine

/-- A row of the Controller Port is `manage` with its code and command (10.3). -/
theorem exec_eq_manage {c : Instr} {code : Byte} {p : List Byte} (fits : c.wellFormed = true) (hc : commandFrame c = some (code, p))
    (s : State) : exec c s = .next (manage code (commandOf code p) s) ∧ p.length ≤ 31 := by
  cases c with
  | unknownCommand k =>
    obtain ⟨rfl, rfl⟩ := Prod.mk.inj (Option.some.inj hc)
    have unnamed : commandOf k [] = cmdUnknown := by
      simp only [Instr.wellFormed, isCommandCode, Bool.not_eq_true', Bool.and_eq_false_iff, decide_eq_false_iff_not] at fits
      unfold commandOf
      split <;> first | rfl | omega
    exact ⟨congrArg (fun cmd => Host.Outcome.next (manage k cmd s)) unnamed.symm, by simp⟩
  | readStatus | readEvents | setEvents | chainGate | setProfile | readSamples | readCapture | updateBegin | updateWindow | updateWrite
  | updateSeal | readTable => cases hc; exact ⟨rfl, of_decide_eq_true fits⟩
  | _ => cases hc <;> exact ⟨rfl, Nat.zero_le 31⟩

/-- The outcome of a row that is not accepted, and its acceptance (R145, R189). -/
theorem manage_eq (code : Byte) (cmd : State → Reply × State) (s : State) :
    manage code cmd s =
      if portPowered s = false ∨ exchangeDark s = true then exchanged s
      else if waking s then holdOff .waking 0 3 (exchanged s)
      else if freeCount s = 0 then holdOff .noRoom 0 3 (exchanged s) else dispatch code cmd (exchanged s) := by
  unfold manage
  cases hp : portPowered s <;> cases hd : exchangeDark s <;> simp <;> rfl

/-- An accepted MANAGE frame is judged as its row is. -/
theorem judgeFrame_manage {rx : List Byte} {f : Frame} {code : Byte} {p : List Byte} {s : State} (hf : goodFrame? rx = some f)
    (address : f.address = 0) (kind : f.kind = 0x03) (payload : f.payload = code :: p) (first : rx.getD 0 0 = 0) (second : rx.getD 1 0 = 3) :
    judgeFrame rx s =
      if waking s then holdOff .waking 0 3 s
      else if freeCount s = 0 then holdOff .noRoom 0 3 s else dispatch code (commandOf code p) s := by
  have busy : f.kind ≠ 0x00 := by rw [kind]; decide
  have busyOf (g : Frame) (hg : goodFrame? rx = some g) : g.kind ≠ 0x00 := by rw [hf] at hg; cases hg; exact busy
  have manages : isChainKind f.kind = false := by rw [kind]; decide
  have directed : wellDirected f = true := (wellDirected_iff f).2 (.inr ⟨kind, address, by simp [payload]⟩)
  by_cases awake : waking s = true
  · rw [judgeFrame_held busyOf (holdReason_waking _ awake), first, second, if_pos awake]
  · have reason : holdReason (some f) s = if freeCount s = 0 then some .noRoom else none := by
      rw [holdReason_queues (by simpa using awake) directed (fun h => absurd (manages.symm.trans h) (by decide))
        (fun h => absurd (kind.symm.trans h) (by decide)), if_neg fun h => absurd (manages.symm.trans h.1) (by decide)]
    rw [if_neg awake]
    by_cases room : freeCount s = 0
    · rw [if_pos room] at reason ⊢
      rw [judgeFrame_held busyOf (hf ▸ reason), first, second]
    · rw [if_neg room] at reason ⊢
      rw [judgeFrame_accepted hf busy reason, acceptedFrame, if_neg (by simp [manages]), payload]

/-- The end of an exchange that carried a MANAGE frame is `manage` with its code and command. -/
theorem exec_exchangeEnd_manage {s : State} {out : Frame} {code : Byte} {p : List Byte} (carrying : s.link.exchange = some (.carrying out))
    (powered : portPowered s = true) (short : p.length ≤ 31) (flags : Byte) (extra : List Byte) :
    exec (.exchangeEnd (Frame.bytes { address := 0, kind := 0x03, flags := flags, payload := code :: p } ++ extra)) s =
      .next (manage code (commandOf code p) s) := by
  have lit : exchangeDark s = false := by simp [exchangeDark, carrying]
  have good := goodFrame_bytes (f := { address := 0, kind := 0x03, flags := flags, payload := code :: p }) (by simp; omega) extra
  have received : ¬ (portPowered s = false ∨ exchangeDark s = true) := by simp [powered, lit]
  rw [exec_exchangeEnd_of_carrying carrying, judgeFrame_manage good rfl rfl rfl rfl rfl, manage_eq, if_neg received]
  rfl

/-- The codes of the commands that have parameters (10.3). -/
def parameterCodes : List Byte := [0x02, 0x03, 0x04, 0x08, 0x0A, 0x0B, 0x11, 0x13, 0x14, 0x15, 0x16, 0x1B]

/-- Behind the code of a command without parameters, and behind an unknown one, the bytes are not used. -/
theorem commandOf_unused {code : Byte} (h : code ∉ parameterCodes) (p unused : List Byte) : commandOf code p = commandOf code unused := by
  have coded {n : Nat} (small : n < 256) (hn : code.toNat = n) : code = byteOf n :=
    BitVec.eq_of_toNat_eq (by rw [hn, byteOf_toNat small])
  unfold commandOf
  split
  case h_2 hn => exact absurd (coded (by decide) hn ▸ by decide) h
  case h_3 hn => exact absurd (coded (by decide) hn ▸ by decide) h
  case h_4 hn => exact absurd (coded (by decide) hn ▸ by decide) h
  case h_8 hn => exact absurd (coded (by decide) hn ▸ by decide) h
  case h_10 hn => exact absurd (coded (by decide) hn ▸ by decide) h
  case h_11 hn => exact absurd (coded (by decide) hn ▸ by decide) h
  case h_17 hn => exact absurd (coded (by decide) hn ▸ by decide) h
  case h_19 hn => exact absurd (coded (by decide) hn ▸ by decide) h
  case h_20 hn => exact absurd (coded (by decide) hn ▸ by decide) h
  case h_21 hn => exact absurd (coded (by decide) hn ▸ by decide) h
  case h_22 hn => exact absurd (coded (by decide) hn ▸ by decide) h
  case h_27 hn => exact absurd (coded (by decide) hn ▸ by decide) h
  all_goals rfl

/-- A row of the Controller Port, one of an unknown code too, is some command under `manage`. -/
theorem exec_is_manage {c : Instr} {code : Byte} {p : List Byte} (hc : commandFrame c = some (code, p)) (s : State) :
    ∃ cmd, exec c s = .next (manage code cmd s) := by
  cases c with
  | unknownCommand k => cases hc; exact ⟨_, rfl⟩
  | _ => cases hc <;> exact ⟨_, rfl⟩

/-- Settles O5: the frame's bytes give the frame back, and both sides are `manage` with the code and its command. -/
theorem commandRowsAreTheirFrames : Obligations.CommandRowsAreTheirFrames := by
  refine ⟨fun c code p extra out s fits hc carrying powered => ?_, fun c code p s hc => ?_⟩
  · obtain ⟨row, short⟩ := exec_eq_manage fits hc s
    refine ⟨fun flags => ?_, fun plain flags unused few => ?_⟩
    · rw [row, exec_exchangeEnd_manage carrying powered short]
    · rw [row, exec_exchangeEnd_manage carrying powered few, commandOf_unused plain p unused]
  · obtain ⟨cmd, row⟩ := exec_is_manage hc s
    rw [row, manage_eq]
    refine ⟨fun lost => ?_, fun powered lit awake => ?_, fun powered lit awake room => ?_⟩
    · rw [if_pos lost]; rfl
    · rw [if_neg (by simp [powered, lit]), if_pos awake]; rfl
    · rw [if_neg (by simp [powered, lit]), if_neg (by simp [awake]), if_pos room]; rfl

end Sys2Proof.Machine
end

section
/-! The Frame Router's reports and the Notice Unit (O7, O8, O9). -/

namespace Sys2Proof.Machine

/-! ### READ-STATUS (R197) -/

theorem exec_readStatus_of_accepting {s : State} (h : Accepting s) (p : List Byte) :
    exec (.readStatus p) s = .next (replied 0x02 (cmdReadStatus p (closed s)).1 (cmdReadStatus p (closed s)).2) :=
  congrArg Host.Outcome.next (manage_eq_replied h (by decide) (cmdReadStatus p))

/-- The reply with a section's contents. -/
theorem exec_readStatus_of_section {s : State} (h : Accepting s) {b : Byte} {x : Section} (hx : sectionOfCode b = some x) (rest : List Byte) :
    exec (.readStatus (b :: rest)) s = .next (replied 0x02 (.done (x.code :: sectionBytes (closed s) x) false) (closed s)) := by
  have named : sectionParam (b :: rest) = some x := hx
  rw [exec_readStatus_of_accepting h, cmdReadStatus, named]

/-- The acceptance takes one of the free entries (R193, R197). -/
theorem freeCount_closed (s : State) : freeCount (closed s) = freeCount s - 1 := by
  show 16 - s.link.upstream.length - (s.link.reserved + 1) = 16 - s.link.upstream.length - s.link.reserved - 1
  omega

theorem sectionOfCode_eq_none {b : Byte} (h : 6 < b.toNat) : sectionOfCode b = none := by
  unfold sectionOfCode
  split <;> first | rfl | omega

/-- Settles O7: each section by the name that selects it, with its contents computed on the accepted state. -/
theorem readStatusReplies : Obligations.ReadStatusReplies := by
  refine ⟨by decide, fun s h => ?_⟩
  refine ⟨fun rest => ⟨?_, ?_, ?_, ?_, ?_, ?_, ?_⟩, fun b rest large => ?_, ?_⟩
  · exact exec_readStatus_of_section h (x := .general) rfl rest
  · exact exec_readStatus_of_section h (x := .sweep) rfl rest
  · exact exec_readStatus_of_section h (x := .contactor) rfl rest
  · refine (exec_readStatus_of_section h (b := 3) (x := .update) rfl rest).trans
      (congrArg (fun l => Host.Outcome.next (replied 0x02 (.done (3 :: l) false) (closed s))) ?_)
    have staged : wordBytes (stagedGeneration (closed s)) =
        match s.update.stage with
        | none => [0, 0, 0, 0]
        | some g => wordBytes g.image.generation := by
      unfold stagedGeneration
      rw [show (closed s).update.stage = s.update.stage from rfl]
      cases s.update.stage <;> rfl
    simp only [sectionBytes, updateSection, staged]
    rfl
  · exact exec_readStatus_of_section h (x := .capture) rfl rest
  · rw [← freeCount_closed]
    exact exec_readStatus_of_section h (x := .link) rfl rest
  · exact exec_readStatus_of_section h (x := .wake) rfl rest
  · have unnamed : sectionParam (b :: rest) = none := sectionOfCode_eq_none large
    rw [exec_readStatus_of_accepting h, cmdReadStatus, unnamed]
  · exact exec_readStatus_of_accepting h []

/-! ### READ-EVENTS and SET-EVENTS (R202, R203) -/

theorem exec_readEvents_of_accepting {s : State} (h : Accepting s) (p : List Byte) :
    exec (.readEvents p) s = .next (replied 0x03 (cmdReadEvents p (closed s)).1 (cmdReadEvents p (closed s)).2) :=
  congrArg Host.Outcome.next (manage_eq_replied h (by decide) (cmdReadEvents p))

theorem exec_setEvents_of_accepting {s : State} (h : Accepting s) (p : List Byte) :
    exec (.setEvents p) s = .next (replied 0x04 (cmdSetEvents p (closed s)).1 (cmdSetEvents p (closed s)).2) :=
  congrArg Host.Outcome.next (manage_eq_replied h (by decide) (cmdSetEvents p))

/-- What is cleared is no longer requested. -/
theorem cleared_request (p e m : Half) : p &&& ~~~(p &&& e &&& m) &&& e &&& m = 0 := by
  ext i hi
  simp only [BitVec.getElem_and, BitVec.getElem_not]
  cases p[i] <;> cases e[i] <;> cases m[i] <;> simp

/-- What another channel requests stays. -/
theorem kept_request (p e m n : Half) (other : m &&& n = 0) : p &&& ~~~(p &&& e &&& m) &&& e &&& n = p &&& e &&& n := by
  ext i hi
  have apart : (m[i] && n[i]) = false := by rw [← BitVec.getElem_and, other]; simp
  simp only [BitVec.getElem_and, BitVec.getElem_not]
  revert apart
  generalize p[i] = a, e[i] = b, m[i] = c, n[i] = d
  revert a b c d
  decide

theorem owedAfter_same (owed : Bool) (set : Half) : owedAfter owed set set = if set = 0 then false else owed := by
  unfold owedAfter
  by_cases empty : set = 0 <;> simp only [empty, if_true, if_false]

theorem owedAfter_zero (owed : Bool) (set : Half) : owedAfter owed set 0 = false := rfl

/-- The flags of one channel's set are cleared and its mark with them; the other channel keeps its set (R202). -/
theorem clearEvents_urgent (n : NoticeUnit) :
    clearEvents true n =
      { n with
        pending := n.pending &&& ~~~(n.pending &&& n.enable &&& n.map)
        owedUrgent := false
        owedRoutine := if n.pending &&& n.enable &&& ~~~n.map = 0 then false else n.owedRoutine } := by
  have gone := cleared_request n.pending n.enable n.map
  have kept := kept_request n.pending n.enable n.map (~~~n.map) (BitVec.and_not_self _)
  simp only [clearEvents, reformNotice, requestSet, if_true, Bool.false_eq_true, if_false, gone, kept, owedAfter_same, owedAfter_zero]

theorem clearEvents_routine (n : NoticeUnit) :
    clearEvents false n =
      { n with
        pending := n.pending &&& ~~~(n.pending &&& n.enable &&& ~~~n.map)
        owedRoutine := false
        owedUrgent := if n.pending &&& n.enable &&& n.map = 0 then false else n.owedUrgent } := by
  have gone := cleared_request n.pending n.enable (~~~n.map)
  have kept := kept_request n.pending n.enable (~~~n.map) n.map (BitVec.not_and_self _)
  simp only [clearEvents, reformNotice, requestSet, if_true, Bool.false_eq_true, if_false, gone, kept, owedAfter_same, owedAfter_zero]

theorem eventSetsParam_short {p : List Byte} (h : p.length < 4) : eventSetsParam p = none := by
  have missing : halfAt? p 2 = none := by
    unfold halfAt?
    rw [List.getElem?_eq_none (i := 2 + 1) (by omega)]
    split <;> simp_all
  unfold eventSetsParam
  rw [missing]
  cases halfAt? p 0 <;> rfl

/-- Settles O8: the masks of the two channels do not meet, so what one read clears the other keeps. -/
theorem readEventsAndSetEvents : Obligations.ReadEventsAndSetEvents := by
  refine ⟨fun b rest s h => ⟨fun hb => ?_, fun hb => ?_, fun large => ?_, ?_⟩, fun a b c d rest s h => ?_, fun p s h short => ?_⟩
  · subst hb
    rw [exec_readEvents_of_accepting h]
    exact congrArg (fun n => Host.Outcome.next (replied 0x03 _ { closed s with notice := n })) (clearEvents_urgent s.notice)
  · subst hb
    rw [exec_readEvents_of_accepting h]
    exact congrArg (fun n => Host.Outcome.next (replied 0x03 _ { closed s with notice := n })) (clearEvents_routine s.notice)
  · have unnamed : channelParam (b :: rest) = none := by
      have zero : b ≠ 0 := fun e => by simp [e] at large
      have one : b ≠ 1 := fun e => by simp [e] at large
      show (if b = 0 then some true else if b = 1 then some false else none) = none
      rw [if_neg zero, if_neg one]
    rw [exec_readEvents_of_accepting h, cmdReadEvents, unnamed]
  · exact exec_readEvents_of_accepting h []
  · intro enable map set mark
    refine ⟨reformNotice s.notice s.notice.pending enable map, rfl, rfl, rfl, rfl, rfl, exec_setEvents_of_accepting h _, ?_⟩
    simp [alertOut, requestSet, reformNotice, set]
  · rw [exec_setEvents_of_accepting h, cmdSetEvents, eventSetsParam_short short]

/-! ### NOTICEs and MIRRORs (R72, R73, R194, R200) -/

theorem freeCount_mirror_iff (s : State) : 5 ≤ freeCount s ↔ s.link.upstream.length + s.link.reserved ≤ 11 := by
  unfold freeCount
  omega

theorem exec_noticeAdmitted (s : State) : exec .noticeAdmitted s = .next (admitNext s) := rfl

theorem admitNext_urgent {s : State} (h : noticeAdmissible true s = true) :
    admitNext s = { enqueue (noticeFrame true s) s with notice.owedUrgent := false } := by
  simp [admitNext, admitNotice, h]

theorem admitNext_routine {s : State} (hu : noticeAdmissible true s = false) (h : noticeAdmissible false s = true) :
    admitNext s = { enqueue (noticeFrame false s) s with notice.owedRoutine := false } := by
  simp [admitNext, admitNotice, hu, h]

theorem admitNotice_none {urgent : Bool} {s : State} (h : noticeAdmissible urgent s = false) : admitNotice urgent s = s := by
  simp [admitNotice, h]

theorem admitNext_none {s : State} (hu : noticeAdmissible true s = false) (h : noticeAdmissible false s = false) : admitNext s = s := by
  simp [admitNext, hu, admitNotice_none h]

/-- The mark is spent as its NOTICE enters: a second of the channel does not follow. -/
theorem noticeAdmissible_admitted (urgent : Bool) {s : State} (h : noticeAdmissible urgent s = true) :
    noticeAdmissible urgent (admitNotice urgent s) = false := by
  have spent : owed urgent (admitNotice urgent s) = false := by
    unfold admitNotice
    rw [if_pos h]
    cases urgent <;> rfl
  simp [noticeAdmissible, spent]

/-- Two admissions in a row are the NOTICEs of both channels in their order. -/
theorem admitNotices_eq (s : State) : admitNotices s = admitNext (admitNext s) := by
  unfold admitNotices
  cases hu : noticeAdmissible true s with
  | true =>
    have first : admitNext s = admitNotice true s := by simp [admitNext, hu]
    have spent := noticeAdmissible_admitted true hu
    rw [first, admitNext, if_neg (by simp [spent])]
  | false =>
    have first : admitNext s = admitNotice false s := by simp [admitNext, hu]
    rw [admitNotice_none hu, first]
    cases hr : noticeAdmissible false s with
    | false => rw [admitNotice_none hr, first, admitNotice_none hr]
    | true =>
      have entered : admitNotice false s = { enqueue (noticeFrame false s) s with notice.owedRoutine := false } := by
        simp [admitNotice, hr]
      have still : noticeAdmissible true (admitNotice false s) = false := by
        rw [Bool.eq_false_iff, Ne, noticeAdmissible_iff, entered]
        rintro ⟨owed, room, none, awake⟩
        refine Bool.eq_false_iff.1 hu ((noticeAdmissible_iff true s).2 ⟨owed, ?_, fun f hf => none f ?_, awake⟩)
        · simp only [enqueue, List.length_append, List.length_singleton] at room
          omega
        · exact List.mem_append_left _ hf
      rw [admitNext_none still (noticeAdmissible_admitted false hr)]

/-- The MIRROR frame on a state where five entries are free, and MIRROR_GAP where they are not. -/
theorem placeMirror_eq (payload : List Byte) (s : State) :
    placeMirror payload s =
      if s.link.upstream.length + s.link.reserved ≤ 11 then
        { s with
          link.upstream := s.link.upstream ++
            [{ address := 0, kind := 0x63, flags := (if s.protection.state = .safeOpen then 0x80 else 0) ||| 1, payload := payload }] }
      else { s with sweep.record := s.sweep.record.map fun r => { r with flags := { r.flags with mirrorGap := true } } } := by
  have tainted : taint s = if s.protection.state = .safeOpen then 0x80 else 0 := by
    by_cases h : s.protection.state = .safeOpen <;> simp [taint, bitAt, h, byteOf]
  unfold placeMirror
  simp only [freeCount_mirror_iff, mirrorFrame, tainted]
  rfl

/-- While a NOTICE may enter a free choice says whether it is taken before the MIRROR. -/
theorem noticesBefore_succ (n : Nat) (s : State) :
    noticesBefore (n + 1) s =
      if noticeAdmissible true s || noticeAdmissible false s then
        if Config.choice s.choices then noticesBefore n (admitNext { s with choices := s.choices + 1 }) else { s with choices := s.choices + 1 }
      else s := rfl

/-- Settles O9: the conditions of a NOTICE as the queue shows them, and the two choices that a MIRROR meets at most. -/
theorem noticesAndMirrorsEnter : Obligations.NoticesAndMirrorsEnter := by
  unfold Obligations.NoticesAndMirrorsEnter
  intro may placed spent idle shown mirror
  have mayIff (urgent : Bool) (s : State) : may urgent s ↔ noticeAdmissible urgent s = true := (noticeAdmissible_iff urgent s).symm
  have idleIff (s : State) : idle s ↔ (noticeAdmissible true s || noticeAdmissible false s) = false := by
    simp only [idle, mayIff, Bool.or_eq_false_iff, Bool.not_eq_true]
  have offered {payload : List Byte} {s u : State} (h : noticesBefore 2 s = u) : offerMirror payload s = placed payload u := by
    rw [offerMirror, h, placeMirror_eq]
  have stayed {s : State} (n : Nat) (h : idle s) : noticesBefore (n + 1) s = s := by rw [noticesBefore_succ, (idleIff s).1 h]; rfl
  have declined {s : State} (n : Nat) (h : ¬ idle s) (no : Config.choice s.choices = false) : noticesBefore (n + 1) s = spent s := by
    rw [noticesBefore_succ, (Bool.not_eq_false _).mp (mt (idleIff s).2 h), no]; rfl
  have taken {s u : State} (n : Nat) (h : ¬ idle s) (yes : Config.choice s.choices = true)
      (hu : exec .noticeAdmitted (spent s) = .next u) : noticesBefore (n + 1) s = noticesBefore n u := by
    cases hu
    rw [noticesBefore_succ, (Bool.not_eq_false _).mp (mt (idleIff s).2 h), yes]; rfl
  refine ⟨fun s => ⟨fun h => ?_, fun hu h => ?_, fun h => ?_, fun u v hu hv => ?_⟩, fun payload s => ⟨fun h => ?_, fun h no => ?_,
    fun u h yes hu => ⟨fun h' => ?_, fun h' no' => ?_, fun v h' yes' hv => ?_⟩⟩, fun p s => ⟨fun off k => ?_, fun on => ?_⟩⟩
  · rw [exec_noticeAdmitted, admitNext_urgent ((mayIff true s).1 h)]
    rfl
  · rw [exec_noticeAdmitted, admitNext_routine (by simpa [mayIff] using hu) ((mayIff false s).1 h)]
    rfl
  · rw [exec_noticeAdmitted, admitNext_none (by simpa [mayIff] using h.1) (by simpa [mayIff] using h.2)]
  · cases hu
    cases hv
    exact admitNotices_eq s
  · exact offered (stayed 1 h)
  · exact offered (declined 1 h no)
  · exact offered ((taken 1 h yes hu).trans (stayed 0 h'))
  · exact offered ((taken 1 h yes hu).trans (declined 0 h' no'))
  · exact offered ((taken 1 h yes hu).trans (taken 0 h' yes' hv))
  · have disabled : mirrorEnabled (live s) = false := off
    simp [mirrorAnswer, disabled]
  · have enabled : mirrorEnabled (live s) = true := on
    simp only [mirrorAnswer, enabled, Bool.not_true, Bool.false_eq_true, if_false]
    exact ⟨rfl, rfl⟩

end Sys2Proof.Machine
end

section
/-! HUB-RESET, the refusals on the state alone, and the commands of the Sweep Engine, the chain and the Sample Evaluator (O10 to O14). -/

namespace Sys2Proof.Machine

/-- A row of the Controller Port that is accepted is answered with what its command gives on the closed state. -/
theorem exec_replied {s t : State} {c : Instr} {code : Byte} {cmd : State → Reply × State} {r : Reply} (h : Accepting s)
    (row : exec c s = .next (manage code cmd s)) (hc : code ≠ 0x15) (e : cmd (closed s) = (r, t)) :
    exec c s = .next (replied code r t) := by
  rw [row, manage_eq_replied h hc, e]

@[simp] theorem live_closed (s : State) : live (closed s) = live s := rfl

@[simp] theorem enteringSleep_closed (s : State) : enteringSleep (closed s) = enteringSleep s := rfl

@[simp] theorem openOrFaulted_closed (s : State) : openOrFaulted (closed s) = openOrFaulted s := rfl

/-! ### HUB-RESET (R204) -/

/-- The DIRECTED reset before TAMPER_IN is taken. -/
def directedBlocks (u : State) : State :=
  directedLink <| directedSequencer <| directedPower <| directedCapture <| directedEvaluator <| directedChain <| directedSweep <|
    directedUpdate u

theorem directedReset_eq (s : State) : directedReset s = tamperAtReset (directedBlocks (swapImage s)) := rfl

theorem directedUpdate_eq (u : State) :
    directedUpdate u =
      { u with
        update :=
          if u.update.state = .staging ∨ u.update.state = .verifying ∨ u.update.state = .sealed ∨ u.update.state = .committing then
            { u.update with
              state := .idle, stage := none, window := none, openWrite := none, tag := none, target := none, commit := none
              commitTampered := false }
          else u.update } := by
  unfold directedUpdate
  split <;> simp [dropUpdate, discardStage, *]

/-- The notice of a part without pending flags owes nothing. -/
theorem reformNotice_zero (n : NoticeUnit) :
    reformNotice n 0 n.enable n.map = { n with pending := 0, owedUrgent := false, owedRoutine := false } := by
  simp [reformNotice, requestSet, owedAfter]

theorem superviseFeedback_link_notice (u : State) (l : Link) (n : NoticeUnit) :
    superviseFeedback { u with link := l, notice := n } = { superviseFeedback u with link := l, notice := n } := by
  unfold superviseFeedback
  dsimp only
  split <;> rfl

/-- What the DIRECTED reset makes of every block (R26, R48, R54, R77, R121, R138, R158, R186, R206). -/
theorem directedBlocks_eq (u : State) :
    directedBlocks u =
      superviseFeedback
        { u with
          update := (directedUpdate u).update
          sweep :=
            { u.sweep with
              engine := .stopped, counter := 0, waitCount := 0, rotation := freshRotation (live u)
              reads := [], triggers := [], deferredSlots := [], slotsPassed := 0, quiet := .before, record := none
              tickSpan := if u.power.power = .active then u.sweep.tickSpan else tickLength (live u)
              tickLeft := if u.power.power = .active then u.sweep.tickLeft else tickLength (live u) }
          chain :=
            { u.chain with
              inFlight := none
              state := if u.chain.state = .numbering then .unnumbered else u.chain.state
              enumNext := 0, enumKinds := [], misses := Vector.replicate 24 0, lost := Vector.replicate 24 false }
          arbiter := State.unstarted.arbiter
          evaluator :=
            { u.evaluator with
              channels := remap (fun _ c => directedChannel c) u.evaluator.channels
              pendingProfile := none, matchedVPack := none }
          capture.stack := []
          capture.pendingSet := State.unstarted.capture.pendingSet
          power :=
            { u.power with
              power := .active, drainTimer := none, watchTimer := none, settleTimer := none, frames := [], cycle := false
              cellsAnswered := false, wakeKept := false, persistence := Vector.replicate 480 0, noAnswer := Vector.replicate 24 0 }
          sequencer.closePending := false
          link := { exchange := none, answerSlot := none, forward := [], upstream := [], reserved := 0 }
          notice := { u.notice with pending := 0, owedUrgent := false, owedRoutine := false } } := by
  unfold directedBlocks
  rw [directedUpdate_eq]
  simp only [directedLink, directedSequencer, superviseFeedback_notice]
  rw [← superviseFeedback_link_notice]
  simp only [directedPower, clearWatchCounts, directedCapture, directedEvaluator, directedChain, directedSweep, reformNotice_zero]
  rfl

/-- TAMPER_IN in ACTIVE outside an update: the latch, and the event whose flag is the one pending (R181). -/
theorem tamperAsserted_of_active {u : State} (active : u.power.power = .active) (reading : u.update.tamperReading = true)
    (quiet : u.update.state = .idle ∨ u.update.state = .locked ∨ u.update.state = .armed) (pending : u.notice.pending = 0) :
    tamperAsserted u =
      { u with
        update.tamperLatch := true
        notice :=
          { u.notice with
            pending := 0x0010
            owedUrgent := decide ((0x0010 : Half) &&& u.notice.enable &&& u.notice.map ≠ 0)
            owedRoutine := decide ((0x0010 : Half) &&& u.notice.enable &&& ~~~u.notice.map ≠ 0) } } := by
  have owes (before : Bool) (now : Half) : owedAfter before 0 now = decide (now ≠ 0) := by
    unfold owedAfter
    by_cases none : now = 0 <;> simp [none]
  have flag : (0 : Half) ||| Event.tamper.bit = 0x0010 := by decide
  have silent (e m : Half) : (0 : Half) &&& e &&& m = 0 := by simp
  have same : { u with update.tamperReading := true, update.tamperLatch := true } = { u with update.tamperLatch := true } := by
    rw [← reading]
  have raised : raise .tamper { u with update.tamperReading := true, update.tamperLatch := true } =
      { u with
        update.tamperLatch := true
        notice :=
          { u.notice with
            pending := 0x0010
            owedUrgent := decide ((0x0010 : Half) &&& u.notice.enable &&& u.notice.map ≠ 0)
            owedRoutine := decide ((0x0010 : Half) &&& u.notice.enable &&& ~~~u.notice.map ≠ 0) } } := by
    rw [same]
    simp only [raise, reformNotice, requestSet, pending, flag, silent, owes, if_true, Bool.false_eq_true, if_false]
  unfold tamperAsserted
  rw [raised]
  unfold takeWake
  simp only [active]
  unfold tamperUpdate
  rcases quiet with e | e | e <;> simp only [e]

theorem swapImage_tamperReading (s : State) : (swapImage s).update.tamperReading = s.update.tamperReading := by
  rcases swapImage_cases s with ⟨-, update⟩ | ⟨img, -, -, -, update⟩ <;> rw [update]

/-- After its part of the DIRECTED reset the Update Engine is in IDLE, LOCKED or ARMED. -/
theorem directedUpdate_quiet (u : State) :
    (directedUpdate u).update.state = .idle ∨ (directedUpdate u).update.state = .locked ∨ (directedUpdate u).update.state = .armed := by
  unfold directedUpdate
  split <;> simp [dropUpdate, discardStage, *]

theorem directedUpdate_tamperReading (u : State) : (directedUpdate u).update.tamperReading = u.update.tamperReading := by
  rw [directedUpdate_eq]
  split <;> rfl

/-- Settles O10: the blocks of the DIRECTED reset one after another, and TAMPER_IN on the state they leave. -/
theorem hubResetValues : Obligations.HubResetValues := by
  intro s h
  refine ⟨fun busy => exec_replied h rfl (by decide) (by simp [cmdHubReset, busy]), fun free => ?_⟩
  intro u length reset
  have blocks : directedBlocks u = reset := by
    rw [directedBlocks_eq, directedUpdate_eq]
    rfl
  have kept : reset.update.tamperReading = s.update.tamperReading := by
    rw [← blocks, directedBlocks_eq, superviseFeedback_update]
    exact (directedUpdate_tamperReading u).trans (swapImage_tamperReading _)
  have run : cmdHubReset (closed s) = (.ok, tamperAtReset reset) := by
    rw [← blocks]
    simp only [cmdHubReset, openOrFaulted_closed, free, if_true, directedReset_eq, u]
  refine ⟨fun idle => exec_replied h rfl (by decide) ?_, fun asserted => exec_replied h rfl (by decide) ?_⟩
  · rw [run, tamperAtReset, kept, idle]
    rfl
  · rw [run, tamperAtReset, if_pos (kept.trans asserted), tamperAsserted_of_active]
    · rw [superviseFeedback_power]
    · exact kept.trans asserted
    · rw [← blocks, directedBlocks_eq, superviseFeedback_update]
      exact directedUpdate_quiet u
    · rw [superviseFeedback_notice]

/-! ### Refusals -/

/-- Settles O11: the first tests of each command, which ask the state alone. -/
theorem refusalsOnTheStateAlone : Obligations.RefusalsOnTheStateAlone := by
  intro s h
  refine ⟨fun tripped => ⟨?_, ?_, ?_, ?_⟩, fun calm drain => ?_, fun p unlocked drain => ?_, fun code hc => exec_replied h rfl hc rfl⟩
  · exact exec_replied h rfl (by decide) (by simp [cmdClose, tripped])
  · exact exec_replied h rfl (by decide) (by simp [cmdUpdateActivate, tripped])
  · exact exec_replied h rfl (by decide) (by simp [cmdEnumerate, tripped])
  · exact exec_replied h rfl (by decide) (by simp [cmdSweepStart, tripped])
  · have entering := enteringSleep_of_drain drain
    refine ⟨?_, ?_, ?_, ?_⟩
    · exact exec_replied h rfl (by decide) (by simp [cmdClose, calm, entering])
    · exact exec_replied h rfl (by decide) (by simp [cmdUpdateActivate, calm, entering])
    · exact exec_replied h rfl (by decide) (by simp [cmdEnumerate, calm, entering])
    · exact exec_replied h rfl (by decide) (by simp [cmdSweepStart, calm, entering])
  · have unlocked' : (closed s).update.state ≠ .locked := unlocked
    exact exec_replied h rfl (by decide) (by
      simp only [cmdUpdateSeal, if_neg unlocked', enteringSleep_closed, enteringSleep_of_drain drain, if_true])

/-! ### Sweep start and stop (R4, R5) -/

/-- Settles O12: the checks in their order, and the effect by the engine state. -/
theorem sweepStartAndStop : Obligations.SweepStartAndStop := by
  refine ⟨fun s h calm awake => ?_, fun s h => ⟨fun running => ?_, fun waits => ?_, fun still => ?_⟩⟩
  · have wakeful := not_enteringSleep_of_accepting h awake
    refine ⟨fun unnumbered => ?_, fun numbered slots => ?_, fun numbered slots => ?_⟩
    · exact exec_replied h rfl (by decide) (by simp [cmdSweepStart, calm, wakeful, unnumbered])
    · exact exec_replied h rfl (by decide) (by simp [cmdSweepStart, calm, wakeful, numbered, slots])
    have started {t : State} (e : startEngine (closed s) = t) : exec .sweepStart s = .next (replied 0x06 .ok t) :=
      exec_replied h rfl (by decide) (by simp [cmdSweepStart, calm, wakeful, numbered, slots, e])
    refine ⟨fun stopped free => ?_, fun stopped locked => ?_, fun stopping => ?_, fun still => ?_⟩
    · exact started (by simp [startEngine, stopped, free])
    · exact started (by simp [startEngine, stopped, locked])
    · exact started (by simp [startEngine, stopping])
    · exact started (by rcases still with e | e <;> simp [startEngine, e])
  · exact exec_replied h rfl (by decide) (by simp [cmdSweepStop, stopEngine, running])
  · exact exec_replied h rfl (by decide) (by simp [cmdSweepStop, stopEngine, waits, enterStopped])
  · exact exec_replied h rfl (by decide) (by rcases still with e | e <;> simp [cmdSweepStop, stopEngine, e])

/-! ### CHAIN-GATE, ENUMERATE and SET-PROFILE (R40, R46, R53) -/

theorem profileParam_byteOf (n : Fin 4) (rest : List Byte) : profileParam (byteOf n.val :: rest) = some n := by
  have small : (byteOf n.val).toNat = n.val := byteOf_toNat (by omega)
  have index : byteAt? (byteOf n.val :: rest) 0 = some (byteOf n.val) := rfl
  simp only [profileParam, index, small, n.isLt, dif_pos]

theorem profileParam_large {b : Byte} (h : 3 < b.toNat) (rest : List Byte) : profileParam (b :: rest) = none := by
  have index : byteAt? (b :: rest) 0 = some b := rfl
  have large : ¬ b.toNat < 4 := by omega
  simp only [profileParam, index, large, dif_neg, not_false_eq_true]

/-- Settles O13: masks, the checks of ENUMERATE and the profile by the engine state. -/
theorem chainGateEnumerateAndSetProfile : Obligations.ChainGateEnumerateAndSetProfile := by
  refine ⟨fun s h => ⟨fun b rest => exec_replied h rfl (by decide) rfl, exec_replied h rfl (by decide) rfl⟩, fun s h calm awake => ?_,
    fun s h => ⟨fun n rest => ⟨fun stopped => ?_, fun runs other => ?_, fun runs same => ?_⟩, fun b rest large => ?_, ?_⟩⟩
  · have wakeful := not_enteringSleep_of_accepting h awake
    intro idle
    have checked : cmdEnumerate (closed s) =
        if idle then (.accepted, beginEnumeration (closed s)) else (.refused .busy [], closed s) := by
      by_cases engine : s.sweep.engine = .stopped <;> by_cases contactors : s.sequencer.state = .opened <;>
        by_cases stack : s.capture.stack = [] <;> by_cases numbering : s.chain.state = .numbering <;>
        simp [cmdEnumerate, idle, calm, wakeful, engine, contactors, stack, numbering]
    refine ⟨fun free => ?_, fun busy => ?_⟩
    · exact exec_replied h rfl (by decide) (by rw [checked, if_pos free]; rfl)
    · exact exec_replied h rfl (by decide) (by rw [checked, if_neg busy])
  · exact exec_replied h rfl (by decide) (by simp [cmdSetProfile, profileParam_byteOf, chooseProfile, stopped])
  · exact exec_replied h rfl (by decide) (by simp [cmdSetProfile, profileParam_byteOf, chooseProfile, runs, other])
  · exact exec_replied h rfl (by decide) (by simp [cmdSetProfile, profileParam_byteOf, chooseProfile, runs, same])
  · exact exec_replied h rfl (by decide) (by simp [cmdSetProfile, profileParam_large large])
  · exact exec_replied h rfl (by decide) rfl

/-! ### READ-SAMPLES (R74, R209) -/

theorem statusByte_eq (c : Channel) :
    statusByte c =
      (match c.status with
        | .none => 0
        | .fresh => 1
        | .held => 2
        | .stale => 3
        | .fault => 4) ||| (if c.clamped then 0x08 else 0) |||
        (match c.warn with
        | .clear => 0
        | .high => 0x10
        | .low => 0x20) ||| (if c.tripped then 0x40 else 0) := by
  unfold statusByte
  cases c.status <;> cases c.warn <;> cases c.clamped <;> cases c.tripped <;> rfl

theorem append_toNat (a b : Byte) : (a ++ b).toNat = a.toNat * 256 + b.toNat := by
  rw [BitVec.toNat_append, ← Nat.shiftLeft_add_eq_or_of_lt b.isLt, Nat.shiftLeft_eq]

theorem halfOf_append (a b : Byte) : halfOf (a.toNat * 256 + b.toNat) = a ++ b := by
  rw [halfOf, ← append_toNat]
  exact BitVec.ofNat_toNat 16 (a ++ b) |>.trans (BitVec.setWidth_eq _)

theorem halfBytes_pair (a b : Byte) : halfBytes (halfOf (a.toNat * 256 + b.toNat)) = [a, b] := by
  rw [halfOf_append, halfBytes]
  have high : (a ++ b).extractLsb' 8 8 = a := BitVec.extractLsb'_append_eq_left
  have low : (a ++ b).extractLsb' 0 8 = b := BitVec.extractLsb'_append_eq_right
  rw [high, low]

theorem samplesParam_eq (a b c d : Byte) (rest : List Byte) :
    samplesParam (a :: b :: c :: d :: rest) = (formOfCode d).map fun form => (a.toNat * 256 + b.toNat, c.toNat, form) := by
  have h : halfAt? (a :: b :: c :: d :: rest) 0 = some (a ++ b) := rfl
  have hc : byteAt? (a :: b :: c :: d :: rest) 2 = some c := rfl
  have hd : byteAt? (a :: b :: c :: d :: rest) 3 = some d := rfl
  rw [samplesParam, h, hc, hd, ← append_toNat]
  cases e : formOfCode d <;> simp [e]

theorem samplesParam_short {p : List Byte} (h : p.length < 4) : samplesParam p = none := by
  have missing : byteAt? p 3 = none := by simp [byteAt?]; omega
  unfold samplesParam
  rw [missing]
  cases halfAt? p 0 <;> cases byteAt? p 2 <;> rfl

theorem readSamples_of_range {first count : Nat} {form : SampleForm} {p : List Byte} {s : State}
    (param : samplesParam p = some (first, count, form)) (low : first ≤ 479) (one : 1 ≤ count) (eight : count ≤ 8) :
    cmdReadSamples p s =
      (.done (halfBytes (halfOf first) ++ [byteOf (samplesCount first count form)] ++
        ((List.range (samplesCount first count form)).map fun k => sampleBytes form (shownChannel s (first + k))).flatten) false, s) := by
  have inside : ¬ (479 < first ∨ count = 0 ∨ 8 < count) := by omega
  simp only [cmdReadSamples, param, if_neg inside, List.range'_eq_map_range, List.map_map, Function.comp_def]

/-- Settles O14: the status byte by its cases, and the reply by the form named. -/
theorem readSamplesReplies : Obligations.ReadSamplesReplies := by
  refine ⟨statusByte_eq, fun n k id step => ⟨rfl, rfl, rfl, rfl⟩, fun a b c d rest s h => ?_, fun p s h short => ?_⟩
  · intro first shown ok
    have param := samplesParam_eq a b c d rest
    refine ⟨fun inside zero => ?_, fun inside one => ?_, fun outside => ?_⟩
    · subst zero
      have read := readSamples_of_range (s := closed s) (form := .values) param inside.1 inside.2.1 inside.2.2
      rw [halfBytes_pair, samplesCount, Nat.min_comm] at read
      exact exec_replied h rfl (by decide) read
    · subst one
      have read := readSamples_of_range (s := closed s) (form := .detail) param inside.1 inside.2.1 inside.2.2
      rw [halfBytes_pair, samplesCount, Nat.min_comm, Nat.min_comm 3] at read
      exact exec_replied h rfl (by decide) read
    · refine exec_replied h rfl (by decide) ?_
      rcases outside with outside | large
      · cases form : formOfCode d with
        | none => simp [cmdReadSamples, param, form]
        | some f =>
          have refused : 479 < a.toNat * 256 + b.toNat ∨ c.toNat = 0 ∨ 8 < c.toNat := by omega
          simp only [cmdReadSamples, param, form, Option.map_some, if_pos refused]
      · have other : formOfCode d = none := by
          have zero : d ≠ 0 := by rintro rfl; exact absurd large (by decide)
          have one : d ≠ 1 := by rintro rfl; exact absurd large (by decide)
          rw [formOfCode, if_neg zero, if_neg one]
        simp [cmdReadSamples, param, other]
  · exact exec_replied h rfl (by decide) (by simp [cmdReadSamples, samplesParam_short short])

end Sys2Proof.Machine
end

section
/-! CLEAR-TRIP (O16). -/

namespace Sys2Proof.Machine

theorem failedBits (a b c d : Bool) :
    let bits : Byte := bitAt a 0 ||| bitAt b 1 ||| bitAt c 2 ||| bitAt d 3
    bits.getLsbD 0 = a ∧ bits.getLsbD 1 = b ∧ bits.getLsbD 2 = c ∧ bits.getLsbD 3 = d ∧ bits &&& 0xF0 = 0 := by
  cases a <;> cases b <;> cases c <;> cases d <;> decide

theorem failedBits_eq_zero (a b c d : Bool) :
    (bitAt a 0 ||| bitAt b 1 ||| bitAt c 2 ||| bitAt d 3 : Byte) = 0 ↔ a = false ∧ b = false ∧ c = false ∧ d = false := by
  cases a <;> cases b <;> cases c <;> cases d <;> decide

theorem triple_any (t : Triple) : t.any = true ↔ t ≠ allOpen := by
  obtain ⟨p, n, r⟩ := t
  cases p <;> cases n <;> cases r <;> decide

/-- PERSISTING of R91 at a channel index. -/
theorem persisting_iff (s : State) (i : Nat) :
    persisting s i = true ↔
      evaluated (live s) i = true ∧ (effective (live s) s.evaluator.profile i).persist ≤ (channelAt s i).counter := by
  simp [persisting]

theorem firstPersisting_isSome (s : State) : (firstPersisting s).isSome = true ↔ ∃ i, i < 480 ∧ persisting s i = true := by
  simp [firstPersisting]

theorem mem_allPositions {p : Nat} : p ∈ allPositions ↔ 1 ≤ p ∧ p ≤ 24 := by
  simp only [allPositions, List.mem_range'_1]
  omega

theorem firstLost_isSome (s : State) : (firstLost s).isSome = true ↔ ∃ p, 1 ≤ p ∧ p ≤ 24 ∧ isLost s p = true := by
  simp [firstLost, mem_allPositions, and_assoc]

theorem firstLost_eq_some {s : State} {p : Nat} (one : 1 ≤ p) (last : p ≤ 24) (lost : isLost s p = true)
    (first : ∀ q, 1 ≤ q → q < p → isLost s q = false) : firstLost s = some p := by
  rw [firstLost, allPositions, List.find?_range'_eq_some]
  exact ⟨lost, List.mem_range'_1.2 ⟨one, by omega⟩, fun j hj hp => by simp [first j hj hp]⟩

/-- The four conditions of CLEAR-TRIP, none failed (R91). -/
theorem failedConditions_eq_zero (s : State) :
    failedConditions s = 0 ↔
      firstPersisting s = none ∧ firstLost s = none ∧ openOrFaulted s = true ∧ s.sequencer.feedback = allOpen := by
  have feedback : s.sequencer.feedback.any = false ↔ s.sequencer.feedback = allOpen := by
    rw [← Bool.not_eq_true, triple_any, Classical.not_not]
  unfold failedConditions
  rw [failedBits_eq_zero, feedback]
  simp

theorem grantClear_of_openOrFaulted {s : State} (h : openOrFaulted s = true) :
    grantClear s = superviseFeedback
      { s with
        protection.state := .normal
        protection.record := none
        evaluator.channels := remap (fun _ c => { c with tripped := false }) s.evaluator.channels
        sequencer.state := .opened } := by
  have opened : (if s.sequencer.state = .faulted then .opened else s.sequencer.state) = ContactorState.opened := by
    cases e : s.sequencer.state <;> simp_all [openOrFaulted]
  rw [grantClear, opened]

/-- Settles O16: the four conditions one by one; the lowest failing index is what the search finds. -/
theorem clearTripTestsFourConditions : Obligations.ClearTripTestsFourConditions := by
  intro s h persists lost away contact idle
  have persists_iff (i : Nat) : persists i ↔ i < 480 ∧ persisting (closed s) i = true := by
    rw [persisting_iff]
    rfl
  have somePersists : (firstPersisting (closed s)).isSome = true ↔ ∃ i, persists i := by
    simp only [firstPersisting_isSome, persists_iff]
  have someLost : (firstLost (closed s)).isSome = true ↔ ∃ p, lost p := firstLost_isSome _
  have noPersists : firstPersisting (closed s) = none ↔ ∀ i, ¬ persists i := by
    rw [← Option.not_isSome_iff_eq_none, somePersists, not_exists]
  have noLost : firstLost (closed s) = none ↔ ∀ p, ¬ lost p := by
    rw [← Option.not_isSome_iff_eq_none, someLost, not_exists]
  have met : failedConditions (closed s) = 0 ↔ (∀ i, ¬ persists i) ∧ (∀ p, ¬ lost p) ∧ ¬ away ∧ ¬ contact := by
    rw [failedConditions_eq_zero, noPersists, noLost, openOrFaulted_closed, Bool.not_eq_false, Classical.not_not]
    rfl
  refine ⟨fun clear => ?_, fun tripped noP noL near calm => ?_, fun tripped fails => ?_⟩
  · exact exec_replied h rfl (by decide) (if_pos clear)
  · refine exec_replied h rfl (by decide) ((if_neg tripped).trans ((if_pos (met.2 ⟨noP, noL, near, calm⟩)).trans ?_))
    rw [grantClear_of_openOrFaulted (s := closed s) ((Bool.not_eq_false _).mp near)]
    rfl
  · have unmet : failedConditions (closed s) ≠ 0 := by
      rw [Ne, met]
      rintro ⟨noP, noL, near, calm⟩
      rcases fails with ⟨i, p⟩ | ⟨p, l⟩ | a | c
      · exact noP i p
      · exact noL p l
      · exact near a
      · exact calm c
    obtain ⟨bit0, bit1, bit2, bit3, rest⟩ := failedBits (firstPersisting (closed s)).isSome (firstLost (closed s)).isSome
      (!openOrFaulted (closed s)) (closed s).sequencer.feedback.any
    refine ⟨failedConditions (closed s), halfOf ((firstPersisting (closed s)).getD 0xFFFF), byteOf ((firstLost (closed s)).getD 0),
      exec_replied h rfl (by decide) ((if_neg tripped).trans (if_neg unmet)), ?_, ?_, ?_, ?_, rest, ?_, ?_, ?_, ?_⟩
    · exact (Bool.eq_iff_iff.1 bit0).trans somePersists
    · exact (Bool.eq_iff_iff.1 bit1).trans someLost
    · exact (Bool.eq_iff_iff.1 bit2).trans (by rw [Bool.not_eq_true']; rfl)
    · exact (Bool.eq_iff_iff.1 bit3).trans (triple_any _)
    · intro i p first
      have found := (firstPersisting_eq_some (closed s) i).2
        ⟨(persists_iff i).1 p, fun j hj persisting => first j hj ((persists_iff j).2 persisting)⟩
      rw [found]
      rfl
    · intro noP
      rw [noPersists.2 noP]
      rfl
    · intro p l first
      have below (q : Nat) (one : 1 ≤ q) (hq : q < p) : isLost (closed s) q = false := by
        have quiet := first q hq
        exact Bool.not_eq_true _ |>.mp fun lit => quiet ⟨one, by omega, lit⟩
      rw [firstLost_eq_some (s := closed s) l.1 l.2.1 l.2.2 below]
      rfl
    · intro noL
      rw [noLost.2 noL]
      rfl

end Sys2Proof.Machine
end

section
/-! Sweeps and activations (O17 to O21). -/

namespace Sys2Proof.Machine

/-! ### Slots (R10 to R17) -/

theorem executesIn_iff (g : SweepSlot) (n : Word) : executesIn g n = true ↔ n.toNat % g.divider.toNat = 0 := by simp [executesIn]

theorem passSlot_of_idle {s : State} (h : ¬ s.sweep.number.toNat % (sweepSlot (live s) s.sweep.slotsPassed).divider.toNat = 0) :
    passSlot s = { s with sweep.slotsPassed := s.sweep.slotsPassed + 1 } :=
  if_neg fun e => h ((executesIn_iff _ _).1 e)

theorem passSlot_of_acts {s : State} (h : s.sweep.number.toNat % (sweepSlot (live s) s.sweep.slotsPassed).divider.toNat = 0) :
    passSlot s = actSlot s.sweep.slotsPassed { s with sweep.slotsPassed := s.sweep.slotsPassed + 1 } :=
  if_pos ((executesIn_iff _ _).2 h)

theorem inQuietWindow_iff (img : Image) (tick : Nat) :
    inQuietWindow img tick = true ↔
      quietEnabled img = true ∧ img.sweepHeader.quietStart.toNat ≤ tick ∧ tick ≤ img.sweepHeader.quietEnd.toNat := by
  simp [inQuietWindow, and_assoc]

/-- A read joins a list that does not hold it (R17). -/
def withRead (l : List ReadEntry) (e : ReadEntry) : List ReadEntry := if e ∈ l then l else l ++ [e]

theorem addRead_eq (s : State) (e : ReadEntry) : addRead s e = { s with sweep.reads := withRead s.sweep.reads e } := by
  unfold addRead withRead
  split <;> rfl

theorem foldl_addRead (kind : ReadKind) (ps : List Nat) (s : State) :
    ps.foldl (fun s p => addRead s { position := p, kind := kind }) s =
      { s with sweep.reads := (ps.map fun p => ⟨p, kind⟩).foldl withRead s.sweep.reads } := by
  rw [foldReads_eq, List.foldl_map]
  rfl

/-- A READ_CELLS or READ_AUX slot acts: its reads join the list and its pointer moves (R15, R16). -/
theorem readDue_eq (i : Nat) (g : SweepSlot) (kind : ReadKind) (s : State) :
    readDue i g kind s =
      { s with
        sweep.reads :=
          (((fixedPositions g ++ rotatingPositions g (look s.sweep.rotation 0 i)).filter (isMonitor (live s))).map
            fun p => ⟨p, kind⟩).foldl withRead s.sweep.reads
        sweep.rotation :=
          if g.rotCount = 0 then s.sweep.rotation
          else put s.sweep.rotation i (rotate g (look s.sweep.rotation 0 i) g.rotCount.toNat) } := by
  unfold readDue
  dsimp only
  rw [foldl_addRead]
  split <;> rfl

theorem senseDue_eq (s : State) :
    senseDue s =
      { s with
        sweep.reads := match packPosition (live s) with
          | some p => withRead s.sweep.reads ⟨p, .sense⟩
          | none => s.sweep.reads } := by
  unfold senseDue
  cases packPosition (live s) with
  | none => rfl
  | some p => exact addRead_eq s _

theorem actSlot_convert {i : Nat} {s : State} (kind : (sweepSlot (live s) i).kind = 0) :
    actSlot i s =
      if inQuietWindow (live s) (sweepSlot (live s) i).offset.toNat then deferSlot i s else convertDue i s :=
  if_pos kind

theorem actSlot_sense {i : Nat} {s : State} (kind : (sweepSlot (live s) i).kind = 1) :
    actSlot i s = if inQuietWindow (live s) (sweepSlot (live s) i).offset.toNat then deferSlot i s else senseDue s := by
  simp only [actSlot, kind]
  rfl

theorem actSlot_cells {i : Nat} {s : State} (kind : (sweepSlot (live s) i).kind = 2) :
    actSlot i s = readDue i (sweepSlot (live s) i) .cells s := by
  simp only [actSlot, kind]
  rfl

theorem actSlot_aux {i : Nat} {s : State} (kind : (sweepSlot (live s) i).kind = 3) :
    actSlot i s = readDue i (sweepSlot (live s) i) .aux s := by
  simp only [actSlot, kind]
  rfl

/-- A CONVERT or SENSE slot in the quiet window is deferred (R13). -/
theorem actSlot_deferred {i : Nat} {s : State} (kind : (sweepSlot (live s) i).kind.toNat < 2)
    (quiet : inQuietWindow (live s) (sweepSlot (live s) i).offset.toNat = true) : actSlot i s = deferSlot i s := by
  have zeroOrOne : (sweepSlot (live s) i).kind = 0 ∨ (sweepSlot (live s) i).kind = 1 := by
    revert kind
    generalize (sweepSlot (live s) i).kind = k
    intro low
    have small : k.toNat = 0 ∨ k.toNat = 1 := by omega
    exact small.imp BitVec.eq_of_toNat_eq BitVec.eq_of_toNat_eq
  rcases zeroOrOne with convert | sense
  · rw [actSlot_convert convert, if_pos quiet]
  · rw [actSlot_sense sense, if_pos quiet]

theorem convertDue_ready {i : Nat} {s : State} (h : s.sweep.reads = []) :
    convertDue i s = { s with sweep.triggers := insertTrigger { slot := i, held := false } s.sweep.triggers } := by
  simp only [convertDue, h]
  rfl

theorem convertDue_held {i : Nat} {s : State} (h : s.sweep.reads ≠ []) :
    convertDue i s =
      markSweep (fun f => { f with convertHeld := true })
        { s with sweep.triggers := insertTrigger { slot := i, held := true } s.sweep.triggers } := by
  have waits : (!s.sweep.reads.isEmpty) = true := by simpa using h
  simp only [convertDue, waits, if_true]

/-- Settles O18: when a slot is reached, whether it acts, and what each kind does. -/
theorem slotsActAtTheirOffsets : Obligations.SlotsActAtTheirOffsets := by
  intro s i g h due acts u quiet add q first size positions read
  have reached : slotReached s = true ↔ due := slotReached_iff s
  have window : inQuietWindow (live u) g.offset.toNat = true ↔ quiet := inQuietWindow_iff _ _
  have added (l : List ReadEntry) (e : ReadEntry) : add l e = withRead l e := rfl
  have rotation (k : Nat) : rotate g q k = first + (q - first + k) % size := rfl
  refine ⟨fun early => ?_, fun late => ?_, fun idle => passSlot_of_idle idle, fun act => ?_⟩
  · exact congrArg Host.Outcome.next (if_neg (mt reached.1 early))
  · exact congrArg Host.Outcome.next (if_pos (reached.2 late))
  have pass : passSlot s = actSlot i u := passSlot_of_acts act
  refine ⟨fun low inside => ?_, fun kind outside empty => ?_, fun kind outside busy => ?_, fun kind outside => ?_,
    fun kind => ?_, fun kind => ?_⟩
  · exact pass.trans (actSlot_deferred (s := u) low (window.2 inside))
  · exact pass.trans ((actSlot_convert (s := u) kind).trans ((if_neg (mt window.1 outside)).trans (convertDue_ready empty)))
  · exact pass.trans ((actSlot_convert (s := u) kind).trans ((if_neg (mt window.1 outside)).trans (convertDue_held busy)))
  · exact pass.trans ((actSlot_sense (s := u) kind).trans ((if_neg (mt window.1 outside)).trans (senseDue_eq u)))
  · exact pass.trans ((actSlot_cells (s := u) kind).trans (readDue_eq i g .cells u))
  · exact pass.trans ((actSlot_aux (s := u) kind).trans (readDue_eq i g .aux u))

/-! ### The beginning of a sweep (R6, R8) -/

/-- What a sweep that begins opens, before a slot at offset 0 acts (R6 steps 3 to 6). -/
def openedSweep (lost : Bool) (u : State) : State :=
  { u with
    sweep :=
      { u.sweep with
        engine := .running, number := u.sweep.number + 1, counter := 0, slotsPassed := 0, deferredSlots := [], quiet := .before
        record := some
          { number := u.sweep.number + 1, generation := (live u).generation, profile := u.evaluator.profile
            flags := ⟨false, false, false, false, false, lost, false, false⟩ } }
    evaluator :=
      { u.evaluator with
        channels := remap (fun _ c => { c with status := if c.status = .fresh then .held else c.status }) u.evaluator.channels
        pack := { u.evaluator.pack with status := if u.evaluator.pack.status = .fresh then .held else u.evaluator.pack.status }
        matchedVPack := none } }

theorem heldStatus_eq (x : Status) : heldStatus x = if x = .fresh then .held else x := by cases x <;> rfl

theorem startSweep_eq (lost : Bool) (u : State) :
    startSweep lost u = if slotReached (openedSweep lost u) then passSlot (openedSweep lost u) else openedSweep lost u := by
  have opened : holdRecords
      { u with
        sweep :=
          { u.sweep with
            engine := .running, number := u.sweep.number + 1, counter := 0, slotsPassed := 0, deferredSlots := [], quiet := .before
            record := some
              { number := u.sweep.number + 1, generation := (live u).generation, profile := u.evaluator.profile
                flags := ⟨false, false, false, false, false, lost, false, false⟩ } } } = openedSweep lost u := by
    simp only [holdRecords, heldStatus_eq]
    rfl
  rw [← opened]
  rfl

/-- At the beginning of a sweep a slot is reached that has the offset 0 (R6 step 7). -/
theorem slotReached_openedSweep {lost : Bool} {u : State} (slots : slotCount (live u) ≠ 0) :
    slotReached (openedSweep lost u) = true ↔ (sweepSlot (live u) 0).offset = 0 := by
  rw [slotReached_iff]
  constructor
  · rintro ⟨-, -, offset, -⟩
    exact BitVec.eq_of_toNat_eq (Nat.le_zero.1 offset)
  · intro zero
    have offset : (sweepSlot (live (openedSweep lost u)) 0).offset.toNat = 0 := congrArg BitVec.toNat zero
    exact ⟨.inl rfl, Nat.pos_of_ne_zero slots, Nat.le_of_eq offset, fun _ behind => absurd behind (by
      show ¬ _ < (sweepSlot (live (openedSweep lost u)) 0).offset.toNat
      omega)⟩

theorem cannotSweep_iff (s : State) : cannotSweep s = true ↔ s.chain.state ≠ .numbered ∨ slotCount (live s) = 0 := by
  simp [cannotSweep]

theorem beginSweep_of_cannot {lost : Bool} {s : State} (h : cannotSweep (atBoundary s) = true) :
    beginSweep lost s = { atBoundary s with sweep.engine := .stopped } := if_pos h

theorem beginSweep_of_can {lost : Bool} {s : State} (h : ¬ cannotSweep (atBoundary s) = true) :
    beginSweep lost s = startSweep lost (atBoundary s) := if_neg h

/-- Settles O17: the boundary first, then whether a sweep can begin and a slot stands at 0. -/
theorem sweepBeginsAndTheWaitEnds : Obligations.SweepBeginsAndTheWaitEnds := by
  refine ⟨fun lost s => ?_, fun s => ⟨fun away => ⟨?_, ?_⟩, fun waits => ⟨?_, fun early => ?_, fun late => ?_⟩⟩⟩
  · intro u v
    have can (numbered : u.chain.state = .numbered) (slots : slotCount (live u) ≠ 0) : ¬ cannotSweep u = true := by
      rw [cannotSweep_iff]
      rintro (e | e)
      · exact e numbered
      · exact slots e
    refine ⟨fun stuck => beginSweep_of_cannot ((cannotSweep_iff u).2 stuck), fun numbered slots later => ?_,
      fun numbered slots zero => ?_⟩
    · rw [beginSweep_of_can (can numbered slots), startSweep_eq, if_neg (mt (slotReached_openedSweep slots).1 later)]
      rfl
    · rw [beginSweep_of_can (can numbered slots), startSweep_eq, if_pos ((slotReached_openedSweep slots).2 zero)]
      rfl
  · exact congrArg Host.Outcome.next (if_neg (by simpa [waitingSync] using away))
  · exact congrArg Host.Outcome.next (if_neg fun e => away ((waitOver_iff s).1 e).1)
  · have edge : exec .syncIn s = .next (syncEdge s) := congrArg Host.Outcome.next (if_pos (by simpa [waitingSync] using waits))
    intro b length
    refine ⟨fun runs => edge.trans ?_, fun stops => edge.trans ?_⟩
    · exact congrArg (fun t => Host.Outcome.next (arbitrate t)) (if_pos runs)
    · exact congrArg (fun t => Host.Outcome.next (arbitrate t)) (if_neg stops)
  · exact congrArg Host.Outcome.next (if_neg fun e => absurd ((waitOver_iff s).1 e).2 (by omega))
  · have expires : exec .syncWaitExpiry s = .next (syncLost s) := congrArg Host.Outcome.next (if_pos ((waitOver_iff s).2 ⟨waits, late⟩))
    intro b
    refine ⟨fun runs => expires.trans ?_, fun stops => expires.trans ?_⟩
    · exact congrArg (fun t => Host.Outcome.next (arbitrate t)) (if_pos runs)
    · exact congrArg (fun t => Host.Outcome.next (arbitrate t)) (if_neg stops)

/-! ### The quiet window (R13) -/

/-- Slots deferred one after another: DEFERRED is set once. -/
theorem foldl_deferSlot_markSweep (slots : List Nat) (s : State) :
    slots.foldl (fun s i => deferSlot i s) (markSweep (fun f => { f with deferred := true }) s) =
      markSweep (fun f => { f with deferred := true })
        { s with sweep.deferredSlots := slots.foldl (fun l i => insertSlot i l) s.sweep.deferredSlots } := by
  induction slots generalizing s with
  | nil => rfl
  | cons i slots ih =>
    have again : deferSlot i (markSweep (fun f => { f with deferred := true }) s) =
        markSweep (fun f => { f with deferred := true }) { s with sweep.deferredSlots := insertSlot i s.sweep.deferredSlots } := by
      simp only [deferSlot, markSweep, Option.map_map]
      rfl
    rw [List.foldl_cons, again, ih, List.foldl_cons]

theorem deferTriggers_nil {s : State} (h : s.sweep.triggers = []) : deferTriggers s = s := by
  have same : { s with sweep.triggers := [] } = s := by rw [← h]
  simp only [deferTriggers, h, List.map_nil, List.foldl_nil, same]

theorem deferTriggers_cons {s : State} (h : s.sweep.triggers ≠ []) :
    deferTriggers s =
      markSweep (fun f => { f with deferred := true })
        { s with
          sweep.triggers := []
          sweep.deferredSlots := s.sweep.triggers.foldl (fun l e => insertSlot e.slot l) s.sweep.deferredSlots } := by
  obtain ⟨e, es, triggers⟩ := List.exists_cons_of_ne_nil h
  simp only [deferTriggers, triggers, List.map_cons, List.foldl_cons]
  rw [deferSlot, foldl_deferSlot_markSweep, List.foldl_map]

/-- Settles O19: the two instants of the window and what each makes of triggers and deferred slots. -/
theorem theQuietWindow : Obligations.TheQuietWindow := by
  intro s sweeps starts ends
  have reached : quietReached s = true ↔ starts := quietReached_iff s
  have over' : quietOver s = true ↔ ends := quietOver_iff s
  have enters (h : starts) : exec .quietWindowStart s = .next (enterQuiet s) := congrArg Host.Outcome.next (if_pos (reached.2 h))
  refine ⟨fun h none => (enters h).trans ?_, fun h some => (enters h).trans ?_,
    fun h => congrArg Host.Outcome.next (if_neg (mt reached.1 h)), fun h => congrArg Host.Outcome.next (if_pos (over'.2 h)),
    fun h => congrArg Host.Outcome.next (if_neg (mt over'.1 h))⟩
  · rw [enterQuiet, deferTriggers_nil (s := { s with sweep.quiet := .inside }) none]
  · rw [enterQuiet, deferTriggers_cons (s := { s with sweep.quiet := .inside }) some]

/-! ### The end of a sweep (R7, R20, R70) -/

/-- Work is left of the sweep that ends (R20). -/
def workLeft (s : State) : Bool := !s.sweep.reads.isEmpty || !s.sweep.triggers.isEmpty || sweepReadInFlight s

theorem abandonWork_eq {s : State} {r : SweepRecord} (record : s.sweep.record = some r) :
    abandonWork s =
      { (if workLeft s then raise .sweepOverrun s else s) with
        chain.inFlight :=
          if sweepReadInFlight s then s.chain.inFlight.map fun t => { t with discard := true } else s.chain.inFlight
        sweep.reads := []
        sweep.triggers := []
        sweep.record := some { r with flags := { r.flags with overrun := r.flags.overrun || workLeft s } } } := by
  cases left : workLeft s with
  | true =>
    have any : (!s.sweep.reads.isEmpty || !s.sweep.triggers.isEmpty || sweepReadInFlight s) = true := left
    simp only [abandonWork, any, if_true, markSweep, record, Option.map_some, Bool.or_true]
    rfl
  | false =>
    have none : (!s.sweep.reads.isEmpty || !s.sweep.triggers.isEmpty || sweepReadInFlight s) = false := left
    simp only [abandonWork, none, Bool.false_eq_true, if_false, Bool.or_false, record]

/-- The sum check finds the sum beyond its tolerance (R70, R71). -/
def sumWrong (s : State) : Bool :=
  match s.evaluator.matchedVPack with
  | some v => allCellsFresh s && decide ((live s).sweepHeader.sumTolerance.toNat < (cellSum20 s - (v.toNat : Int)).natAbs)
  | none => false

theorem sumCheck_eq {s : State} {r : SweepRecord} (record : s.sweep.record = some r) :
    sumCheck s =
      { (if sumWrong s then raise .sumMismatch s else s) with
        sweep.record := some
          { r with
            flags :=
              { r.flags with
                sumChecked := r.flags.sumChecked || (s.evaluator.matchedVPack.isSome && allCellsFresh s)
                sumMismatch := r.flags.sumMismatch || sumWrong s } } } := by
  have kept : { s with sweep.record := some r } = s := by rw [← record]
  cases matched : s.evaluator.matchedVPack with
  | none => simp only [sumCheck, sumWrong, matched, Option.isSome_none, Bool.false_and, Bool.or_false, Bool.false_eq_true, if_false, kept]
  | some v =>
    cases fresh : allCellsFresh s with
    | false => simp only [sumCheck, sumWrong, matched, fresh, Bool.and_false, Bool.false_and, Bool.or_false, Bool.false_eq_true, if_false, kept]
    | true =>
      have run : sumCheck s =
          if (live s).sweepHeader.sumTolerance.toNat < (cellSum20 s - (v.toNat : Int)).natAbs then
            raise .sumMismatch (markSweep (fun f => { f with sumMismatch := true }) (markSweep (fun f => { f with sumChecked := true }) s))
          else markSweep (fun f => { f with sumChecked := true }) s := by
        simp only [sumCheck, matched, fresh, if_true]
        rfl
      rw [run]
      by_cases far : (live s).sweepHeader.sumTolerance.toNat < (cellSum20 s - (v.toNat : Int)).natAbs
      · simp only [far, if_true, sumWrong, matched, fresh, Option.isSome_some, Bool.true_and, decide_true, Bool.or_true, markSweep, record,
          Option.map_some]
        rfl
      · simp only [far, if_false, sumWrong, matched, fresh, Option.isSome_some, Bool.true_and, decide_false, Bool.or_true, Bool.or_false,
          Bool.false_eq_true, markSweep, record, Option.map_some]

theorem allCellsFresh_congr {s t : State} (evaluator : t.evaluator = s.evaluator) (tables : t.tables = s.tables)
    (number : t.sweep.number = s.sweep.number) : allCellsFresh t = allCellsFresh s := by
  simp only [allCellsFresh, channelAt, live, evaluator, tables, number]

theorem sumWrong_congr {s t : State} (evaluator : t.evaluator = s.evaluator) (tables : t.tables = s.tables)
    (number : t.sweep.number = s.sweep.number) : sumWrong t = sumWrong s := by
  have sum : cellSum20 t = cellSum20 s := by simp only [cellSum20, channelAt, live, evaluator, tables]
  have image : live t = live s := congrArg TableStore.live tables
  rw [sumWrong, sumWrong, allCellsFresh_congr evaluator tables number, sum, image, evaluator]

theorem endSweep_of_stopping {s : State} (h : s.sweep.engine = .stopping) :
    endSweep s = enterStopped (completeRecord (sumCheck (abandonWork s))) := by
  simp [endSweep, h]

theorem endSweep_of_locked {s : State} (h : s.sweep.engine = .running) (locked : lockedMode (live s) = true) :
    endSweep s =
      switchPoint { completeRecord (sumCheck (abandonWork s)) with sweep.engine := .waitingSync, sweep.waitCount := 0 } := by
  simp [endSweep, h, locked]

theorem endSweep_of_free {s : State} (h : s.sweep.engine = .running) (free : lockedMode (live s) = false) :
    endSweep s = beginSweep false (completeRecord (sumCheck (abandonWork s))) := by
  simp [endSweep, h, free]

/-- Settles O20: the work abandoned, the sum checked and the record completed, then the engine. -/
theorem sweepEndsAtThePeriod : Obligations.SweepEndsAtThePeriod := by
  intro s done
  have over' : sweepOver s = true ↔ done := sweepOver_iff s
  refine ⟨fun early => congrArg Host.Outcome.next (if_neg (mt over'.1 early)), fun r late record => ?_⟩
  intro flying left sum fresh checked wrong a b u
  have abandoned := abandonWork_eq record
  have number : (abandonWork s).sweep.number = s.sweep.number := by
    rw [abandoned]
    split <;> rfl
  have sameFresh : allCellsFresh (abandonWork s) = fresh :=
    allCellsFresh_congr (s := s) (abandonWork_evaluator s) (abandonWork_tables s) number
  have sameWrong : sumWrong (abandonWork s) = wrong :=
    sumWrong_congr (s := s) (abandonWork_evaluator s) (abandonWork_tables s) number
  have ended : completeRecord (sumCheck (abandonWork s)) = u := by
    rw [sumCheck_eq (r := { r with flags := { r.flags with overrun := r.flags.overrun || left } }) (by rw [abandoned]; rfl), sameFresh,
      sameWrong, abandonWork_evaluator, abandoned]
    have any : workLeft s = left := rfl
    rw [any]
    dsimp only [u, b, a]
    cases left <;> cases wrong <;> rfl
  have run : exec .sweepEnd s = .next (arbitrate (endSweep s)) := congrArg Host.Outcome.next (if_pos (over'.2 late))
  refine ⟨fun stops => run.trans ?_, fun runs locked => run.trans ?_, fun runs free => run.trans ?_⟩
  · rw [endSweep_of_stopping stops, ended]
    rfl
  · rw [endSweep_of_locked runs locked, ended]
  · rw [endSweep_of_free runs free, ended]

/-! ### Pending changes (R9, R179) -/

theorem retick_eq (s : State) :
    retick s =
      { s with
        sweep.tickSpan := if s.sweep.tickLeft = s.sweep.tickSpan then tickLength (live s) else s.sweep.tickSpan
        sweep.tickLeft := if s.sweep.tickLeft = s.sweep.tickSpan then tickLength (live s) else s.sweep.tickLeft } := by
  unfold retick
  by_cases begins : s.sweep.tickLeft = s.sweep.tickSpan
  · simp only [if_pos begins]
    rfl
  · simp only [if_neg begins]

theorem rejudgeChain_eq (s : State) :
    rejudgeChain s =
      { s with
        chain :=
          { s.chain with
            misses := remap (fun i n => if positionKind (live s) (i + 1) = 0 then 0 else n) s.chain.misses
            lost := remap (fun i b => if positionKind (live s) (i + 1) = 0 then false else b) s.chain.lost
            state :=
              if s.chain.state = .numbered ∨ s.chain.state = .mismatch then
                (if enumMatches s.chain.enumRecord (live s) then .numbered else .mismatch)
              else s.chain.state } } := by
  cases e : s.chain.state <;> simp [rejudgeChain, e]

theorem highClasses_eq (h : ChainHeader) : highClasses h = ([0, 2, 4, 6].filter fun i => h.classes.getLsbD i).length := by
  simp only [highClasses, competitors, List.filter, classHigh]
  generalize h.classes.getLsbD 0 = a
  generalize h.classes.getLsbD 2 = b
  generalize h.classes.getLsbD 4 = c
  generalize h.classes.getLsbD 6 = d
  revert a b c d
  decide

theorem reclassArbiter_eq (s : State) :
    reclassArbiter s =
      { s with
        arbiter :=
          if highClasses (live s).chainHeader ≤ s.arbiter.highCount then
            { s.arbiter with highCount := highClasses (live s).chainHeader, lowTurnDue := true }
          else s.arbiter } := by
  unfold reclassArbiter
  dsimp only
  split <;> rfl

/-- The swap of an ARMED activation, every block at once (R2, R9, R27, R38, R50, R179). -/
theorem swapImage_armed {s : State} {g : Stage} {img : Image} (armed : s.update.state = .armed) (stage : s.update.stage = some g)
    (commit : s.update.commit = some img) :
    swapImage s =
      { s with
        tables := { s.tables with live := img, liveSlot := s.update.target }
        update :=
          { s.update with
            state := .idle, stage := none, window := none, openWrite := none, tag := none, target := none, commit := none
            commitTampered := false, lastResult := .activated, rejected := none }
        notice := (raise .updateResult s).notice
        sweep :=
          { s.sweep with
            rotation := if holds g.set .sweep then freshRotation img else s.sweep.rotation
            tickSpan := if s.sweep.tickLeft = s.sweep.tickSpan then tickLength img else s.sweep.tickSpan
            tickLeft := if s.sweep.tickLeft = s.sweep.tickSpan then tickLength img else s.sweep.tickLeft }
        evaluator :=
          { s.evaluator with
            channels := remap (fun i c => if evaluated (live s) i && !evaluated img i then Channel.empty else c) s.evaluator.channels }
        chain := if holds g.set .chainMap then (rejudgeChain { s with tables.live := img }).chain else s.chain
        arbiter := if holds g.set .chainMap then (reclassArbiter { s with tables.live := img }).arbiter else s.arbiter } := by
  cases sweep : holds g.set .sweep <;> cases map : holds g.set .chainMap <;>
    simp only [swapImage, armed, stage, commit, sweep, map, retick_eq, rejudgeChain_eq, reclassArbiter_eq, if_true, Bool.false_eq_true,
      if_false] <;> rfl

theorem swapImage_pendingProfile (s : State) : (swapImage s).evaluator.pendingProfile = s.evaluator.pendingProfile := by
  unfold swapImage
  split
  · next armed stage commit =>
    have run := swapImage_armed armed stage commit
    simp only [swapImage, armed, stage, commit] at run
    rw [run]
  · rfl

/-- Settles O21: the swap block by block, then the order of the changes and the offer. -/
theorem pendingChangesTakeEffect : Obligations.PendingChangesTakeEffect := by
  intro s
  refine ⟨fun away => ?_, fun g img armed stage commit => ?_, ?_⟩
  · unfold swapImage
    split
    · next e _ _ => exact absurd e away
    · rfl
  · rw [swapImage_armed armed stage commit]
    refine ⟨rfl, rfl, rfl, rfl, rfl, fun other => ⟨?_, ?_⟩, fun map => ⟨?_, ?_⟩, rfl, rfl, rfl, rfl, rfl, rfl, rfl, rfl⟩
    · simp only [other, Bool.false_eq_true, if_false]
    · simp only [other, Bool.false_eq_true, if_false]
    · simp only [map, if_true, rejudgeChain_eq]
      rfl
    · simp only [map, if_true, reclassArbiter_eq, highClasses_eq]
      rfl
  · intro t spent contended after offered
    have contends : swapContended s = true ↔ contended := by
      simp only [swapContended, Bool.and_eq_true, decide_eq_true_eq, and_assoc, contended]
      refine and_congr_right fun _ => and_congr_right fun armed => ?_
      cases stage : s.update.stage <;> simp [safetyActivation, armed, stage]
    have offers : boundaryOffered s = true ↔ offered := by
      simp only [boundaryOffered, Bool.or_eq_true, cannotSweep_iff, Bool.not_eq_true', or_assoc]
      rfl
    have chosen (c : contended) : pendingThenOffer s =
        if Config.choice s.choices then applyPending (switchPoint spent) else switchPoint (applyPending spent) :=
      if_pos (contends.2 c)
    refine ⟨?_, fun calm => if_neg (mt contends.1 calm), fun c first => (chosen c).trans (if_pos first), fun c last => ?_,
      fun h => if_pos (offers.2 h), fun h => if_neg (mt offers.1 h)⟩
    · have profile : t.evaluator.pendingProfile = s.evaluator.pendingProfile := swapImage_pendingProfile s
      rw [applyPending, applyProfile, profile] <;> rfl
    · rw [chosen c, last]
      rfl

end Sys2Proof.Machine
end

section
/-! The Chain Arbiter: its choice and its grants (O22, O23). -/

namespace Sys2Proof.Machine

/-! ### The round-robin search (R45) -/

/-- A competing requester's place in round-robin order (section 2.5). -/
def seat : Requester → Nat
  | .forward => 0
  | .sweep => 1
  | .capture => 2
  | .watch => 3
  | .enumerate => 0

/-- A requester's turn in the search that begins after the pointer (R45). -/
def turn (pointer : Option Requester) (q : Requester) : Nat :=
  match pointer with
  | none => seat q
  | some .enumerate => seat q
  | some r => (seat q + 3 - seat r) % 4

theorem searchOrder_sorted (pointer : Option Requester) : (searchOrder pointer).Pairwise fun q r => turn pointer q < turn pointer r := by
  rcases pointer with _ | _ | _ | _ | _ | _ <;> decide

theorem mem_searchOrder (pointer : Option Requester) (q : Requester) : q ∈ searchOrder pointer ↔ q ≠ .enumerate := by
  rcases pointer with _ | _ | _ | _ | _ | _ <;> cases q <;> decide

/-- A search through a list whose members come in the order of a measure finds the member of least measure. -/
theorem find?_of_least {α : Type} {l : List α} {p : α → Bool} {measure : α → Nat} (sorted : l.Pairwise fun a b => measure a < measure b)
    {a : α} (mem : a ∈ l) (pa : p a = true) (least : ∀ b ∈ l, p b = true → measure a ≤ measure b) : l.find? p = some a := by
  induction sorted with
  | nil => cases mem
  | @cons b l first rest ih =>
    by_cases same : a = b
    · rw [← same, List.find?_cons_of_pos pa]
    · have inside : a ∈ l := (List.mem_cons.1 mem).resolve_left same
      have skip : ¬ p b = true := fun pb =>
        Nat.not_le_of_lt (first a inside) (least b List.mem_cons_self pb)
      rw [List.find?_cons_of_neg skip]
      exact ih inside fun c hc => least c (List.mem_cons_of_mem b hc)

/-- The requester that the search after the pointer finds (R45). -/
theorem search_eq_some {pointer : Option Requester} {p : Requester → Bool} {q : Requester} (competes : q ≠ .enumerate) (hq : p q = true)
    (least : ∀ r, r ≠ .enumerate → p r = true → turn pointer q ≤ turn pointer r) : (searchOrder pointer).find? p = some q :=
  find?_of_least (searchOrder_sorted pointer) ((mem_searchOrder pointer q).2 competes) hq fun r hr =>
    least r ((mem_searchOrder pointer r).1 hr)

theorem search_eq_none {pointer : Option Requester} {p : Requester → Bool} (h : ∀ r, r ≠ .enumerate → p r = false) :
    (searchOrder pointer).find? p = none :=
  List.find?_eq_none.2 fun r hr => by simp [h r ((mem_searchOrder pointer r).1 hr)]

theorem grantable_iff (s : State) (q : Requester) : grantable s q = true ↔ raised s q = true ∧ masked s q = false := by simp [grantable]

theorem heldGrant_eq_some {s : State} {q : Requester} (last : s.arbiter.lastGranted = some q) (hold : holdOn (live s).chainHeader q = true)
    (may : grantable s q = true) : heldGrant s = some q := by
  simp [heldGrant, last, hold, may]

theorem heldGrant_eq_none {s : State}
    (h : ∀ q, s.arbiter.lastGranted = some q → ¬ (holdOn (live s).chainHeader q = true ∧ grantable s q = true)) : heldGrant s = none := by
  unfold heldGrant
  cases last : s.arbiter.lastGranted with
  | none => rfl
  | some q => exact if_neg (by simpa using h q last)

/-- ENUMERATE has no hold setting (R45). -/
theorem ne_enumerate_of_holdOn {h : ChainHeader} {q : Requester} (hold : holdOn h q = true) : q ≠ .enumerate := by
  rintro rfl
  exact Bool.false_ne_true hold

/-- Settles O22: the four steps in turn, each search finding the least turn after its pointer. -/
theorem grantFollowsTheFourSteps : Obligations.GrantFollowsTheFourSteps := by
  intro s may high place competes
  have sameTurn (pointer : Option Requester) (q : Requester) : place pointer q = turn pointer q := by
    rcases pointer with _ | _ | _ | _ | _ | _ <;> rfl
  have able (q : Requester) : grantable s q = true ↔ may q := grantable_iff s q
  have low (q : Requester) : (!isHigh s q && grantable s q) = true ↔ ¬ high q ∧ may q := by
    rw [Bool.and_eq_true, Bool.not_eq_true', ← Bool.not_eq_true, able]
    rfl
  have top (q : Requester) : (isHigh s q && grantable s q) = true ↔ high q ∧ may q := by
    rw [Bool.and_eq_true, able]
    rfl
  have noLow (h : ∀ r, competes r → high r) : lowGrant s = none :=
    search_eq_none fun r hr => Bool.not_eq_true _ |>.mp fun hit => ((low r).1 hit).1 (h r ⟨hr, ((low r).1 hit).2⟩)
  have noTop (h : ∀ r, competes r → ¬ high r) : highGrant s = none :=
    search_eq_none fun r hr => Bool.not_eq_true _ |>.mp fun hit => h r ⟨hr, ((top r).1 hit).2⟩ ((top r).1 hit).1
  refine ⟨fun numbering => if_pos numbering, fun other => ?_⟩
  have steps : chooseGrant s = fourSteps s := if_neg other
  rw [steps]
  have freed (h : ∀ q, s.arbiter.lastGranted = some q → q ≠ .enumerate → ¬ (holdOn (live s).chainHeader q = true ∧ may q)) :
      heldGrant s = none :=
    heldGrant_eq_none fun q last both => h q last (ne_enumerate_of_holdOn both.1) ⟨both.1, (able q).1 both.2⟩
  refine ⟨fun q last competing hold may => ?_, fun unheld => ⟨fun q c calm due least => ?_, fun q c strong due least => ?_⟩, fun idle => ?_⟩
  · simp only [fourSteps, heldGrant_eq_some last hold ((able q).2 may)]
  · have released := freed unheld
    have found : lowGrant s = some q := search_eq_some c.1 ((low q).2 ⟨calm, c.2⟩) fun r hr hit => by
      rw [← sameTurn, ← sameTurn]
      exact least r ⟨hr, ((low r).1 hit).2⟩ ((low r).1 hit).1
    rcases due with due | alone
    · simp [fourSteps, released, due, found]
    · simp [fourSteps, released, noTop alone, found]
  · have released := freed unheld
    have found : highGrant s = some q := search_eq_some c.1 ((top q).2 ⟨strong, c.2⟩) fun r hr hit => by
      rw [← sameTurn, ← sameTurn]
      exact least r ⟨hr, ((top r).1 hit).2⟩ ((top r).1 hit).1
    rcases due with due | alone
    · simp [fourSteps, released, due, found]
    · simp [fourSteps, released, noLow alone, found]
  · have released := freed fun q _ competing both => idle q ⟨competing, both.2⟩
    have none' (q : Requester) : ¬ competes q := idle q
    simp [fourSteps, released, noTop fun r c => absurd c (none' r), noLow fun r c => absurd c (none' r)]

/-! ### Grants (R43 to R46) -/

/-- A grant's record touches the arbiter alone. -/
theorem recordGrant_arbiter (q : Requester) (s : State) : ∃ a, recordGrant q s = { s with arbiter := a } := by
  unfold recordGrant
  dsimp only
  split
  · exact ⟨s.arbiter, rfl⟩
  · split <;> exact ⟨_, rfl⟩

theorem arbitrateN_of_rest {s : State} (h : s.chain.inFlight ≠ none ∨ s.chain.linkPowered = false ∨ chooseGrant s = none) (n : Nat) :
    arbitrateN n s = s := by
  cases n with
  | zero => rfl
  | succ n =>
    unfold arbitrateN
    split
    next free =>
      have idle : chooseGrant s = none := by
        simp only [chainFree, Bool.and_eq_true, Option.isNone_iff_eq_none] at free
        rcases h with busy | dark | none
        · exact absurd free.1 busy
        · exact absurd free.2 (by simp [dark])
        · exact none
      rw [idle]
    · rfl

theorem arbitrateN_of_grant {s : State} {q : Requester} (free : s.chain.inFlight = none) (powered : s.chain.linkPowered = true)
    (choice : chooseGrant s = some q) (n : Nat) : arbitrateN (n + 1) s = arbitrateN n (grant q s) := by
  have able : chainFree s = true := by simp [chainFree, free, powered]
  rw [arbitrateN, if_pos able, choice]

theorem sweepWork_of_quiet {s : State} (quiet : (sweeping s && inQuietWindow (live s) s.sweep.counter) = true) :
    sweepWork s = (s.sweep.reads.find? fun e => e.kind != .sense).map .read :=
  if_pos quiet

theorem sweepWork_of_open {s : State} (loud : ¬ (sweeping s && inQuietWindow (live s) s.sweep.counter) = true) :
    sweepWork s =
      match s.sweep.triggers.find? fun t => !t.held with
      | some t => some (.trigger t.slot)
      | none => s.sweep.reads.head?.map .read :=
  if_neg loud

/-- A read taken from the list leaves the held triggers ready when it was the last (R12, R17). -/
theorem takeSweepWork_read (e : ReadEntry) (s : State) :
    takeSweepWork (.read e) s =
      { s with
        sweep.reads := s.sweep.reads.erase e
        sweep.triggers :=
          if s.sweep.reads.erase e = [] then s.sweep.triggers.map fun t => { t with held := false } else s.sweep.triggers } := by
  unfold takeSweepWork readyTriggers
  dsimp only
  generalize s.sweep.reads.erase e = left
  cases left <;> rfl

/-- Settles O23: who asks, what a grant records, and what each requester sends. -/
theorem grantsAreRecordedAndSent : Obligations.GrantsAreRecordedAndSent := by
  refine ⟨fun h => ⟨rfl, rfl⟩, fun s => ?_⟩
  intro h n broadcast addressed quiet ready granted read
  have window : (sweeping s && inQuietWindow (live s) s.sweep.counter) = true ↔ quiet := by
    rw [Bool.and_eq_true, sweeping_iff, inQuietWindow_iff]
  have sends (e : ReadEntry) (work : sweepWork s = some (.read e)) : grant .sweep s = read e := by
    obtain ⟨arbiter, recorded⟩ := recordGrant_arbiter .sweep s
    have work' : sweepWork { s with arbiter := arbiter } = some (.read e) := work
    simp only [grant, recorded, grantSweep, work', takeSweepWork_read, read, granted, addressed]
    cases e.kind <;> rfl
  refine ⟨?_, ?_, ?_, ?_, rfl, fun rest => arbitrateN_of_rest rest 16, fun q free powered choice rest => ?_, fun q competing high => ?_,
    fun q competing low => ?_, rfl, fun f rest queue => ?_, fun inside e found => ?_, fun outside t found => ?_,
    fun outside none e head => ?_, fun f rest frames => ?_, fun zero => ?_, fun k => ?_⟩
  · simp [raised]
  · show (sweepWork s).isSome = true ↔ _
    by_cases inside : quiet
    · rw [if_pos inside, sweepWork_of_quiet (window.2 inside)]
      simp
    · rw [if_neg inside, sweepWork_of_open (mt window.1 inside)]
      cases found : s.sweep.triggers.find? fun t => !t.held with
      | some t => simp [ready, found]
      | none =>
        have unready : ready = none := found
        cases reads : s.sweep.reads <;> simp [unready]
  · show captureRaised s = true ↔ _
    cases stack : s.capture.stack <;> simp [captureRaised, stack]
  · simp [raised]
  · rw [arbitrate, arbitrateN_of_grant free powered choice]
    exact arbitrateN_of_rest (rest.imp_right .inr) 15
  · have classed : isHigh s q = true := high
    simp only [recordGrant, if_neg competing, classed, if_true, highClasses_eq]
    rfl
  · have classed : isHigh s q = false := low
    simp only [recordGrant, if_neg competing, classed, Bool.false_eq_true, if_false]
  · obtain ⟨arbiter, recorded⟩ := recordGrant_arbiter .forward s
    simp only [grant, recorded, grantForward, queue, granted]
    rfl
  · exact sends e (by rw [sweepWork_of_quiet (window.2 inside), found]; rfl)
  · obtain ⟨arbiter, recorded⟩ := recordGrant_arbiter .sweep s
    have work : sweepWork { s with arbiter := arbiter } = some (.trigger t.slot) :=
      (sweepWork_of_open (s := s) (mt window.1 outside)).trans (by
        have first : (s.sweep.triggers.find? fun t => !t.held) = some t := found
        rw [first])
    simp only [grant, recorded, grantSweep, work, granted]
    rfl
  · exact sends e (by
      have unready : (s.sweep.triggers.find? fun t => !t.held) = Option.none := none
      rw [sweepWork_of_open (mt window.1 outside), unready, head]
      rfl)
  · obtain ⟨arbiter, recorded⟩ := recordGrant_arbiter .watch s
    intro v
    simp only [grant, recorded, grantWatch, frames, v, granted]
    cases f <;> rfl
  · obtain ⟨arbiter, recorded⟩ := recordGrant_arbiter .enumerate s
    exact if_pos zero
  · exact if_neg k

end Sys2Proof.Machine
end

section
/-! Outcomes of chain transactions (O24 to O27). -/

namespace Sys2Proof.Machine

/-! ### The end of an addressed transaction (R28 to R32) -/

theorem exec_answerReceived {s : State} {t : Transaction} {p : Nat} (awaits : awaiting s = some (t, p)) {rx : List Byte} {f : Frame}
    {c : Half} (whole : wholeFrame? rx = some (f, c)) :
    exec (.answerReceived rx) s = .next (finish t p (judgeAnswer t.expect p f c) s) := by
  show execAnswerReceived rx s = _
  rw [execAnswerReceived, awaits, whole]

theorem exec_responseWindowClose {s : State} {t : Transaction} {p : Nat} (awaits : awaiting s = some (t, p)) (begun : Bool) :
    exec (.responseWindowClose begun) s = .next (finish t p (if begun then .badAnswer else .noAnswer) s) := by
  show execResponseWindowClose begun s = _
  rw [execResponseWindowClose, awaits]

theorem exec_answerLengthBad {s : State} {t : Transaction} {p : Nat} (awaits : awaiting s = some (t, p)) {n : Byte} (long : 32 < n.toNat) :
    exec (.answerLengthBad n) s = .next (finish t p .badAnswer s) := by
  show execAnswerLengthBad n s = _
  rw [execAnswerLengthBad, awaits]
  exact congrArg Host.Outcome.next (if_pos long)

/-- The four tests of a good answer that is expected (R31). -/
theorem goodAnswer_some (kind : Byte) (p : Nat) (f : Frame) (c : Half) :
    goodAnswer (some kind) p f c = true ↔
      check f.body = c ∧ f.address = byteOf p ∧ f.kind = kind ∧ f.payload.length = answerLength kind := by
  simp [goodAnswer, and_assoc]

/-- The tests of a good answer to a forwarded frame (R31). -/
theorem goodAnswer_none (p : Nat) (f : Frame) (c : Half) :
    goodAnswer none p f c = true ↔ check f.body = c ∧ f.address = byteOf p ∧ 1 ≤ f.kind.toNat ∧ f.kind.toNat ≤ 31 := by
  simp [goodAnswer, chainSide, and_assoc]

theorem judgeAnswer_good {expect : Option Byte} {p : Nat} {f : Frame} {c : Half} (h : goodAnswer expect p f c = true) :
    judgeAnswer expect p f c = .answered f := if_pos h

theorem judgeAnswer_bad {expect : Option Byte} {p : Nat} {f : Frame} {c : Half} (h : ¬ goodAnswer expect p f c = true) :
    judgeAnswer expect p f c = .badAnswer := if_neg h

/-! ### Forwarded transactions (R192) -/

theorem taint_eq (s : State) : taint s = if s.protection.state = .safeOpen then 0x80 else 0 := by
  by_cases h : s.protection.state = .safeOpen <;> simp [taint, h, bitAt, byteOf]

/-- Settles O24: the three endings, each put in the reservation. -/
theorem forwardedOutcomeGoesUp : Obligations.ForwardedOutcomeGoesUp := by
  intro s t p flight forward target expect free up
  have awaits := awaiting_eq flight target
  refine ⟨fun dropped => ?_, fun kept => ?_⟩
  · have ends (e : Ending) : finish t p e s = arbitrate free := by
      rw [finish_forward t p e s forward, if_pos dropped]
    refine ⟨fun rx f c whole => ?_, fun begun => ?_, fun n long => ?_⟩
    · rw [exec_answerReceived awaits whole, ends]
    · rw [exec_responseWindowClose awaits, ends]
    · rw [exec_answerLengthBad awaits long, ends]
  · have ends (e : Ending) : finish t p e s = arbitrate (handForward p e free) := by
      rw [finish_forward t p e s forward, kept]
      rfl
    have answered (f : Frame) : Host.Outcome.next (finish t p (.answered f) s) = up f.kind 0 f.payload := by
      have flags : (taint free ||| 0 : Byte) = taint free := BitVec.or_zero
      rw [ends, handForward, chainAnswer, ← flags, taint_eq]
      rfl
    have unanswered : Host.Outcome.next (finish t p .noAnswer s) = up 0 0x20 [] := by
      rw [ends, handForward, chainAnswer, taint_eq]
      rfl
    have wrong : Host.Outcome.next (finish t p .badAnswer s) = up 0 0x10 [] := by
      rw [ends, handForward, chainAnswer, taint_eq]
      rfl
    refine ⟨fun rx f c whole => ⟨fun good => ?_, fun bad => ?_⟩, ?_, ?_, fun n long => ?_⟩
    · rw [exec_answerReceived awaits whole, expect, judgeAnswer_good ((goodAnswer_none p f c).2 good), answered]
    · rw [exec_answerReceived awaits whole, expect, judgeAnswer_bad (mt (goodAnswer_none p f c).1 bad), wrong]
    · rw [exec_responseWindowClose awaits, ← unanswered]
      rfl
    · rw [exec_responseWindowClose awaits, ← wrong]
      rfl
    · rw [exec_answerLengthBad awaits long, wrong]

/-! ### Broadcasts (R28, R144, R149) -/

theorem exec_broadcastSent {s : State} {t : Transaction} (flight : s.chain.inFlight = some t) (broadcast : t.target = none) :
    exec .broadcastSent s = .next (broadcastEnd t s) := by
  show execBroadcastSent s = _
  simp [execBroadcastSent, flight, broadcast]

theorem awaiting_eq_none {s : State} (h : s.chain.inFlight = none ∨ ∃ t, s.chain.inFlight = some t ∧ t.target = none) :
    awaiting s = none := by
  rcases h with flight | ⟨t, flight, target⟩
  · simp [awaiting, flight]
  · simp [awaiting, flight, target]

/-- With nothing awaited no answer, window or length ends anything (R33, log 3). -/
theorem exec_unawaited {s : State} (h : awaiting s = none) :
    (∀ rx, exec (.answerReceived rx) s = .next s) ∧ (∀ begun, exec (.responseWindowClose begun) s = .next s) ∧
      ∀ n, exec (.answerLengthBad n) s = .next s := by
  refine ⟨fun rx => ?_, fun begun => ?_, fun n => ?_⟩
  · show execAnswerReceived rx s = _
    simp [execAnswerReceived, h]
  · show execResponseWindowClose begun s = _
    simp [execResponseWindowClose, h]
  · show execAnswerLengthBad n s = _
    simp [execAnswerLengthBad, h]

/-- Settles O25: the requester's part by its case, the Power Manager's by the kind of its frame. -/
theorem broadcastsEndAndStraysDoNothing : Obligations.BroadcastsEndAndStraysDoNothing := by
  intro s
  refine ⟨fun t flight broadcast => ?_, fun t p flight target => ?_, fun idle => ?_, fun rx => rfl⟩
  · intro free woken interval timer kept asleep
    have run := exec_broadcastSent flight broadcast
    have watch (q : t.requester = .watch) : exec .broadcastSent s = .next (arbitrate (watchBroadcastEnd t.frame.kind free)) := by
      rw [run, broadcastEnd, q]
    have keeps : (s.power.cycle && s.power.wakeKept) = true ↔ kept := Bool.and_eq_true_iff
    have onward (h : ¬ kept) (kind : Byte) : watchBroadcastEnd kind free =
        if kind = 0x0E then
          if s.power.cycle || waking s then { free with power.settleTimer := after free (ms 2) } else free
        else if kind = 0x0D then
          if s.power.power = .chainSleep then enterDeepSleep free
          else if s.power.cycle then endCycle free
          else free
        else free := if_neg (mt keeps.1 h)
    have unawaited := exec_unawaited (awaiting_eq_none (.inr ⟨t, flight, broadcast⟩))
    refine ⟨fun q => ?_, fun q => ?_, fun q h => ?_, fun q h => ⟨fun kind => ?_, fun kind => ?_, fun kind sleep => ?_,
      fun kind wake cycle => ?_, fun kind wake cycle => ?_⟩, unawaited⟩
    · rw [run, broadcastEnd, q]
    · rcases q with q | q | q <;> rw [run, broadcastEnd, q]
    · rw [watch q]
      exact congrArg (fun u => Host.Outcome.next (arbitrate u)) (if_pos (keeps.2 h))
    · rw [watch q, onward h, if_pos kind]
      by_cases settles : s.power.cycle = true ∨ waking s = true
      · rw [if_pos (by simpa using settles), if_pos settles]
        rfl
      · rw [if_neg (by simpa using settles), if_neg settles]
    · rw [watch q, onward h, kind]
      rfl
    · rw [watch q, onward h, kind]
      have down : enterDeepSleep free = if s.power.wakeKept then woken asleep else asleep := rfl
      exact congrArg (fun u => Host.Outcome.next (arbitrate u)) ((if_pos sleep).trans down)
    · rw [watch q, onward h, kind]
      exact congrArg (fun u => Host.Outcome.next (arbitrate u)) ((if_neg wake).trans (if_pos cycle))
    · rw [watch q, onward h, kind]
      exact congrArg (fun u => Host.Outcome.next (arbitrate u)) ((if_neg wake).trans (if_neg (by simp [cycle])))
  · show execBroadcastSent s = _
    simp [execBroadcastSent, flight, target]
  · refine ⟨?_, exec_unawaited (awaiting_eq_none (.inl idle))⟩
    show execBroadcastSent s = _
    simp [execBroadcastSent, idle]

/-! ### ASSIGN (R41, R42) -/

theorem enumMatches_iff (r : EnumRecord) (img : Image) :
    enumMatches r img = true ↔
      r.faulty = false ∧ r.count = (allPositions.filter fun p => positionKind img p != 0).length ∧
        ∀ j, j < r.count → r.kinds.getD j 0 = positionKind img (j + 1) := by
  simp [enumMatches, and_assoc]

theorem endEnumeration_eq (faulty : Bool) (s : State) (same : Prop) [Decidable same]
    (h : enumMatches { count := s.chain.enumKinds.length, kinds := s.chain.enumKinds, faulty := faulty } (live s) = true ↔ same) :
    endEnumeration faulty s =
      raise .chainResult
        { s with
          chain.enumRecord := { count := s.chain.enumKinds.length, kinds := s.chain.enumKinds, faulty := faulty }
          chain.state := if same then .numbered else .mismatch } := by
  unfold endEnumeration
  dsimp only
  by_cases c : same
  · rw [if_pos (h.2 c), if_pos c]
  · rw [if_neg (mt h.1 c), if_neg c]

/-- Settles O26: the outcomes of ASSIGN(k), each handed to the enumeration. -/
theorem enumerationEndsAndIsJudged : Obligations.EnumerationEndsAndIsJudged := by
  intro s t k flight enumerate target expect one last ended free
  have awaits := awaiting_eq flight target
  have ends (e : Ending) : finish t k e s = arbitrate (handEnumerate k e free) := finish_enumerate t k e s enumerate
  have closes (faulty : Bool) (v : State) (image : live v = live s) : endEnumeration faulty v = ended v.chain.enumKinds faulty v :=
    endEnumeration_eq faulty v _ (by rw [enumMatches_iff, image])
  have bad : finish t k .badAnswer s = arbitrate (ended s.chain.enumKinds true free) :=
    (ends _).trans (congrArg arbitrate (closes true free rfl))
  refine ⟨?_, ?_, fun m long => ?_, fun rx f c whole => ?_⟩
  · rw [exec_responseWindowClose awaits]
    exact congrArg Host.Outcome.next ((ends _).trans (congrArg arbitrate (closes false free rfl)))
  · rw [exec_responseWindowClose awaits]
    exact congrArg Host.Outcome.next bad
  · rw [exec_answerLengthBad awaits long, bad]
  · intro kinds v good
    have judged : goodAnswer t.expect k f c = true ↔ good := by rw [expect, goodAnswer_some]; rfl
    have answered : handEnumerate k (.answered f) free =
        if k = 24 then endEnumeration false v else { v with chain.enumNext := k + 1 } := rfl
    refine ⟨fun h more => ?_, fun h final => ?_, fun h => ?_⟩
    · rw [exec_answerReceived awaits whole, judgeAnswer_good (judged.2 h), ends, answered, if_neg (Nat.ne_of_lt more)]
    · rw [exec_answerReceived awaits whole, judgeAnswer_good (judged.2 h), ends, answered, if_pos final, closes false v rfl]
    · rw [exec_answerReceived awaits whole, judgeAnswer_bad (mt judged.1 h), bad]

/-! ### Misses (R35, R36) -/

theorem staleStatus_eq (x : Status) : staleStatus x = if x = .none then .none else .stale := by cases x <;> rfl

theorem markStale_eq (p : Nat) (s : State) :
    markStale p s =
      { s with
        evaluator.channels :=
          remap (fun i c => if i / 20 + 1 = p then { c with status := if c.status = .none then .none else .stale } else c)
            s.evaluator.channels
        evaluator.pack.status :=
          if packPosition (live s) = some p ∧ s.evaluator.pack.status ≠ .none then .stale else s.evaluator.pack.status } := by
  have pack : (if packPosition (live s) = some p then staleStatus s.evaluator.pack.status else s.evaluator.pack.status) =
      if packPosition (live s) = some p ∧ s.evaluator.pack.status ≠ .none then .stale else s.evaluator.pack.status := by
    by_cases here : packPosition (live s) = some p
    · cases s.evaluator.pack.status <;> simp [here, staleStatus]
    · simp [here]
  rw [markStale, pack]
  simp only [staleStatus_eq]
  rfl

theorem answerLength_of_mem {kind : Byte} {length : Nat} (h : (kind, length) ∈ [((0x11 : Byte), 32), (0x12, 8), (0x13, 7)]) :
    answerLength kind = length := by
  simp only [List.mem_cons, Prod.mk.injEq, List.not_mem_nil, or_false] at h
  rcases h with ⟨rfl, rfl⟩ | ⟨rfl, rfl⟩ | ⟨rfl, rfl⟩ <;> rfl

/-- The state with a miss counted at a position (R35). -/
def withMiss (p : Nat) (s : State) : State :=
  { s with chain.misses := s.chain.misses.setIfInBounds (p - 1) (min 7 (look s.chain.misses 0 (p - 1) + 1)) }

/-- The state in which a position has just become LOST (R36, R60). -/
def withLost (p : Nat) (s : State) : State :=
  { s with
    chain.lost := s.chain.lost.setIfInBounds (p - 1) true
    evaluator.channels :=
      remap (fun i c => if i / 20 + 1 = p then { c with status := if c.status = .none then .none else .stale } else c)
        s.evaluator.channels
    evaluator.pack.status :=
      if packPosition (live s) = some p ∧ s.evaluator.pack.status ≠ .none then .stale else s.evaluator.pack.status }

/-- A miss below the lost threshold, or at a position LOST already, is counted alone; another makes the position LOST (R35, R36). -/
theorem countMiss_eq {p : Nat} (one : 1 ≤ p) (stamp : Stamp) (s : State) :
    countMiss p stamp s =
      if look s.chain.lost false (p - 1) = true ∨
          min 7 (look s.chain.misses 0 (p - 1) + 1) < (live s).chainHeader.lostThreshold.toNat then
        withMiss p s
      else
        raise .monitorLost (takeOutsideTrip
          { cause := .monitorLost, position := some p, channel := none, value := none, stamp := stamp
            generation := (live s).generation, profile := s.evaluator.profile } (withLost p (withMiss p s))) := by
  have lost : isLost (withMiss p s) p = look s.chain.lost false (p - 1) := if_neg (by omega)
  have judged :
      (!isLost (withMiss p s) p && decide ((live s).chainHeader.lostThreshold.toNat ≤ min 7 (look s.chain.misses 0 (p - 1) + 1))) = true ↔
        ¬ (look s.chain.lost false (p - 1) = true ∨
          min 7 (look s.chain.misses 0 (p - 1) + 1) < (live s).chainHeader.lostThreshold.toNat) := by
    rw [lost, Bool.and_eq_true, Bool.not_eq_true', decide_eq_true_eq, not_or, Bool.not_eq_true, Nat.not_lt]
  have run : countMiss p stamp s =
      if !isLost (withMiss p s) p && decide ((live s).chainHeader.lostThreshold.toNat ≤ min 7 (look s.chain.misses 0 (p - 1) + 1)) then
        becomeLost p stamp (withMiss p s)
      else withMiss p s := rfl
  have stale : markStale p { withMiss p s with chain.lost := put (withMiss p s).chain.lost (p - 1) true } = withLost p (withMiss p s) := by
    rw [markStale_eq]
    rfl
  rw [run]
  by_cases below : look s.chain.lost false (p - 1) = true ∨
      min 7 (look s.chain.misses 0 (p - 1) + 1) < (live s).chainHeader.lostThreshold.toNat
  · rw [if_pos below, if_neg fun e => judged.1 e below]
  · rw [if_neg below, if_pos (judged.2 below), becomeLost, stale]
    rfl

/-- Settles O27: a miss is counted, and the position becomes LOST at its threshold. -/
theorem missesMakeAPositionLost : Obligations.MissesMakeAPositionLost := by
  intro s t p length kind flight sweep target one last expect listed n u marked missed
  have awaits := awaiting_eq flight target
  have counted := countMiss_eq one (.sweep s.sweep.number) { s with chain.inFlight := none }
  have ends (e : Ending) (missing : e = .noAnswer ∨ e = .badAnswer) : Host.Outcome.next (finish t p e s) = missed := by
    rcases missing with rfl | rfl <;> simp only [finish, applyMiss, sweep, counted, handOn, handSweep, Ending.payload?, ite_self] <;> rfl
  refine ⟨fun begun => ?_, fun m long => ?_, fun rx f c whole bad => ?_⟩
  · rw [exec_responseWindowClose awaits]
    exact ends _ (by cases begun <;> simp)
  · rw [exec_answerLengthBad awaits long]
    exact ends _ (.inr rfl)
  · rw [exec_answerReceived awaits whole, judgeAnswer_bad]
    · exact ends _ (.inr rfl)
    · rw [expect, goodAnswer_some, answerLength_of_mem listed]
      exact bad

/-! ### Good answers of the sweep (R19, R62, R69) -/

theorem goodFrame_whole {rx : List Byte} {f : Frame} (h : goodFrame? rx = some f) : wholeFrame? rx = some (f, check f.body) := by
  unfold goodFrame? at h
  split at h
  next g c whole =>
    split at h
    next good =>
      cases h
      rw [whole, good]
    · cases h
  · cases h

/-- A good answer to a sweep read clears the misses and is handed on unless it is to be discarded (R19, R37). -/
theorem exec_goodAnswer_sweep {s : State} {t : Transaction} {p length : Nat} {kind : Byte} {rx : List Byte} {f : Frame}
    (flight : s.chain.inFlight = some t) (sweep : t.requester = .sweep) (target : t.target = some p) (expect : t.expect = some kind)
    (arrived : goodFrame? rx = some f) (address : f.address = byteOf p) (fkind : f.kind = kind) (size : f.payload.length = length)
    (listed : (kind, length) ∈ [((0x11 : Byte), 32), (0x12, 8), (0x13, 7)]) :
    exec (.answerReceived rx) s =
      .next (arbitrate
        (if t.discard then clearMisses p { s with chain.inFlight := none }
        else handSweep p (readOf t.frame.kind) (.answered f) (clearMisses p { s with chain.inFlight := none }))) := by
  have good : goodAnswer t.expect p f (check f.body) = true := by
    rw [expect, goodAnswer_some, answerLength_of_mem listed]
    exact ⟨rfl, address, fkind, size⟩
  rw [exec_answerReceived (awaiting_eq flight target) (goodFrame_whole arrived), judgeAnswer_good good]
  simp only [finish, applyMiss, sweep, handOn]

theorem codesOf_zipIdx (n first : Nat) (payload : List Byte) :
    (codesOf n payload).zipIdx first = (List.range n).map fun k => (halfAt payload (2 * k), first + k) := by
  apply List.ext_getElem <;> simp [codesOf]

theorem eachChannel_range (f : Nat → Nat → Half → State → State) (p : Nat) (kind : ReadKind) (payload : List Byte) (s : State) :
    eachChannel f p kind payload s =
      (List.range (channelsOf kind).2).foldl (fun v k => f p ((channelsOf kind).1 + k) (halfAt payload (2 * k)) v) s := by
  rw [eachChannel_eq, codesOf_zipIdx, List.foldl_map]

/-- A SENSE answer of the sweep: the record, the matched V_PACK, the Sequencer's judging and the mirror (R69, R72). -/
theorem evaluateSense_eq (p : Nat) (payload : List Byte) (s : State) :
    evaluateSense p payload s =
      let v := judgeRecord
        { updatePack false (.sweep s.sweep.number) (isLost s p) payload s with
          evaluator.matchedVPack :=
            if payload.getD 6 0 = s.sweep.number.extractLsb' 0 8 then some (halfAt payload 0) else s.evaluator.matchedVPack }
      if mirrorEnabled (live v) then offerMirror (senseMirror p payload v) v else v := by
  have trigger : matchesSweep payload (updatePack false (.sweep s.sweep.number) (isLost s p) payload s) = true ↔
      payload.getD 6 0 = s.sweep.number.extractLsb' 0 8 := beq_iff_eq
  unfold evaluateSense
  dsimp only
  by_cases same : payload.getD 6 0 = s.sweep.number.extractLsb' 0 8
  · rw [if_pos (trigger.2 same), if_pos same]
  · rw [if_neg (mt trigger.1 same), if_neg same]
    rfl

/-- Settles O28: what a good answer hands on, by its kind. -/
theorem sweepAnswersAreEvaluated : Obligations.SweepAnswersAreEvaluated := by
  refine ⟨fun s t p rx f flight sweep target kept arrived address => ?_,
    fun s t p length kind rx f flight sweep target discarded expect listed arrived address fkind size => ?_,
    fun s t p rx f a b c d e g h flight sweep target kept request expect arrived address fkind payload => ?_⟩
  · intro u code
    refine ⟨fun request expect fkind size => ?_, fun request expect fkind size => ?_⟩
    · rw [exec_goodAnswer_sweep flight sweep target expect arrived address fkind size (by simp), kept, request]
      simp only [Bool.false_eq_true, if_false]
      have handed : handSweep p (readOf 0x09) (.answered f) u = mirrorAnswer p .cells (eachChannel evaluateChannel p .cells f.payload u) :=
        rfl
      rw [eachChannel_range] at handed
      simp only [channelsOf, Nat.zero_add] at handed
      exact congrArg (fun v => Host.Outcome.next (arbitrate v)) handed
    · rw [exec_goodAnswer_sweep flight sweep target expect arrived address fkind size (by simp), kept, request]
      simp only [Bool.false_eq_true, if_false]
      have handed : handSweep p (readOf 0x0A) (.answered f) u = mirrorAnswer p .aux (eachChannel evaluateChannel p .aux f.payload u) :=
        rfl
      rw [eachChannel_range] at handed
      exact congrArg (fun v => Host.Outcome.next (arbitrate v)) handed
  · rw [exec_goodAnswer_sweep flight sweep target expect arrived address fkind size listed, discarded]
    rfl
  · intro low u v
    rw [exec_goodAnswer_sweep flight sweep target expect arrived (length := 7) address fkind (by simp [payload]) (by simp), kept, request]
    simp only [Bool.false_eq_true, if_false]
    have matched : { updatePack false (.sweep s.sweep.number) (isLost s p) [a, b, c, d, e, g, h]
          (clearMisses p { s with chain.inFlight := none }) with
        evaluator.matchedVPack := if h = low then some (a ++ b) else s.evaluator.matchedVPack } = u := rfl
    have run : handSweep p (readOf 0x0B) (.answered f) (clearMisses p { s with chain.inFlight := none }) =
        evaluateSense p f.payload (clearMisses p { s with chain.inFlight := none }) := rfl
    have handed : evaluateSense p [a, b, c, d, e, g, h] (clearMisses p { s with chain.inFlight := none }) =
        if mirrorEnabled (live v) then offerMirror (senseMirror p [a, b, c, d, e, g, h] v) v else v := by
      rw [evaluateSense_eq]
      rfl
    have mirror : senseMirror p [a, b, c, d, e, g, h] v =
        [byteOf p, 2] ++ wordBytes v.sweep.number ++ [a, b, c, d, e, g, h] ++ [if h = v.sweep.number.extractLsb' 0 8 then 1 else 0] := by
      by_cases same : h = v.sweep.number.extractLsb' 0 8 <;> simp [senseMirror, matchesSweep, same, bitAt, byteOf]
    rw [run, payload, handed, mirror]
    rfl

end Sys2Proof.Machine
end

section
/-! Watch reads (O29). -/

namespace Sys2Proof.Machine

theorem isAux_iff (i : Nat) : isAux (channelOf i) = true ↔ 16 ≤ i % 20 := decide_eq_true_iff

theorem rawCode_eq (i : Nat) (code : Half) : rawCode i code = if 16 ≤ i % 20 then halfOf (ratioCode code) else code := by
  simp only [rawCode, isAux_iff]

theorem storeWatchChannel_eq {p c : Nat} {code : Half} {s : State} (known : evaluated (live s) (channelIndex p c) = true) :
    storeWatchChannel p c code s =
      setChannel (channelIndex p c)
        (storeReading (channelAt s (channelIndex p c)) (readingOf (live s) (channelIndex p c) code) (rawCode (channelIndex p c) code)
          (.watch s.power.watchCount))
        (raiseNewFault (channelAt s (channelIndex p c)).status (readingOf (live s) (channelIndex p c) code) s) := by
  simp [storeWatchChannel, known]

theorem raiseNewFault_fault (before : Status) (s : State) :
    raiseNewFault before .fault s = if before = .fault then s else raise .limitWarn s := by
  by_cases old : before = .fault <;> simp [raiseNewFault, old]

theorem raiseNewFault_value (before : Status) (v : Int) (clamped : Bool) (s : State) : raiseNewFault before (.value v clamped) s = s := by
  simp [raiseNewFault]

/-- The floor's own trip thresholds of a channel, over and under (R52, R65). -/
theorem effective_floor (img : Image) (q : Fin 4) (i : Nat) :
    (effective img q i).floorOver =
        (if 16 ≤ i % 20 then (floorRecord img (classOf (cellEntry img i))).otTrip.toInt
        else (floorRecord img (classOf (cellEntry img i))).ovTrip.toNat) ∧
      (effective img q i).floorUnder =
        if 16 ≤ i % 20 then (floorRecord img (classOf (cellEntry img i))).utTrip.toInt
        else (floorRecord img (classOf (cellEntry img i))).uvTrip.toNat := by
  unfold effective
  dsimp only
  by_cases aux : 16 ≤ i % 20
  · simp only [(isAux_iff i).2 aux, aux, if_true, and_self]
  · simp only [mt (isAux_iff i).1 aux, aux, if_false, Bool.false_eq_true, and_self]

theorem watchThresholds_eq (img : Image) (i : Nat) :
    watchThresholds img i =
      (min (if 16 ≤ i % 20 then img.watch.ot.toInt else img.watch.ov.toNat)
          (if 16 ≤ i % 20 then (floorRecord img (classOf (cellEntry img i))).otTrip.toInt
          else (floorRecord img (classOf (cellEntry img i))).ovTrip.toNat),
        max (if 16 ≤ i % 20 then img.watch.ut.toInt else img.watch.uv.toNat)
          (if 16 ≤ i % 20 then (floorRecord img (classOf (cellEntry img i))).utTrip.toInt
          else (floorRecord img (classOf (cellEntry img i))).uvTrip.toNat)) := by
  unfold watchThresholds
  dsimp only
  by_cases aux : 16 ≤ i % 20
  · simp only [(isAux_iff i).2 aux, aux, if_true]
  · simp only [mt (isAux_iff i).1 aux, aux, if_false, Bool.false_eq_true]

theorem beyondWatch_iff (img : Image) (i : Nat) (c : Channel) :
    beyondWatch img i c = true ↔ c.status = .fault ∨ (watchThresholds img i).1 < c.value ∨ c.value < (watchThresholds img i).2 := by
  simp [beyondWatch, or_assoc]

theorem watchBeyondFloor_iff (img : Image) (i : Nat) (c : Channel) :
    watchBeyondFloor img i c = true ↔
      c.status ≠ .fault ∧ ((effective img 0 i).floorOver < c.value ∨ c.value < (effective img 0 i).floorUnder) := by
  simp [watchBeyondFloor, beyondFloor]

/-- The watch counter of a channel after its record is judged (R150). -/
def watchCountAfter (s : State) (i : Nat) : Nat :=
  if beyondWatch (live s) i (channelAt s i) then min 3 (watchCounter s i + 1) else 0

/-- The trip that a watched channel raises (R151). -/
def watchTrip (p c : Nat) (s : State) : Trip where
  cause := if watchBeyondFloor (live s) (channelIndex p c) (channelAt s (channelIndex p c)) then .limitFloor else .watchLimit
  position := some p
  channel := some c
  value := some (channelAt s (channelIndex p c)).value
  stamp := .watch s.power.watchCount
  generation := (live s).generation
  profile := s.evaluator.profile

theorem judgeWatchChannel_eq (tripped : Bool) {p c : Nat} {s : State} (known : evaluated (live s) (channelIndex p c) = true) :
    judgeWatchChannel p c (tripped, s) =
      if watchCounter s (channelIndex p c) < (live s).watch.persistence.toNat ∧
          (live s).watch.persistence.toNat ≤ watchCountAfter s (channelIndex p c) then
        (true, raise .limitTrip (takeOutsideTrip (watchTrip p c s)
          { s with power.persistence := put s.power.persistence (channelIndex p c) (watchCountAfter s (channelIndex p c)) }))
      else (tripped, { s with power.persistence := put s.power.persistence (channelIndex p c) (watchCountAfter s (channelIndex p c)) }) :=
  if_neg (by rw [known]; decide)

/-! ### A watch read's end (R150, R152) -/

/-- A kept wake source ends the cycle at the end of a watch read (R152). -/
def keptEnds (s : State) : State := if s.power.cycle && s.power.wakeKept then enterWaking s else s

theorem watchReadEnd_cells (p : Nat) (answer : Option (List Byte)) (s : State) :
    watchReadEnd p .cells answer s =
      keptEnds (match answer with
        | some payload => watchAnswered p .cells payload { s with power.cellsAnswered := true }
        | none => { s with power.cellsAnswered := false }) := by
  cases answer <;> rfl

theorem watchReadEnd_aux (p : Nat) (answer : Option (List Byte)) (s : State) :
    watchReadEnd p .aux answer s =
      keptEnds (match answer with
        | some payload => judgeNoAnswer p true (watchAnswered p .aux payload s)
        | none => judgeNoAnswer p false s) := by
  cases answer <;> rfl

theorem judgeWatch_range (p : Nat) (kind : ReadKind) (s : State) :
    judgeWatch p kind s =
      (List.range (channelsOf kind).2).foldl (fun a k => judgeWatchChannel p ((channelsOf kind).1 + k) a) (false, s) := by
  rw [judgeWatch_eq, List.range'_eq_map_range, List.foldl_map]

theorem finish_watch {t : Transaction} (h : t.requester = .watch) (p : Nat) (e : Ending) (s : State) :
    finish t p e s =
      arbitrate (watchReadEnd p (readOf t.frame.kind) e.payload? (applyMiss .watch p e { s with chain.inFlight := none })) := by
  simp only [finish, h, handOn]

/-- Settles O29: the write, the judging, and the two kinds of read with their endings. -/
theorem watchReadsAreJudged : Obligations.WatchReadsAreJudged := by
  refine ⟨fun p c code s => ?_, fun p c tripped s => ?_, fun s t p flight watch target one last => ?_⟩
  · intro i old raw write
    have kept : rawCode i code = raw := rawCode_eq i code
    refine ⟨fun off => ?_, fun known reading => ?_, fun v clamped known reading => ?_⟩
    · have off' : evaluated (live s) (channelIndex p c) = false := off
      simp [storeWatchChannel, off']
    · rw [storeWatchChannel_eq (p := p) (c := c) known, show readingOf (live s) (channelIndex p c) code = .fault from reading, raiseNewFault_fault, show rawCode (channelIndex p c) code = raw from kept]
      have stored (u : State) (same : u = s ∨ u = raise .limitWarn s) :
          setChannel i { old with raw := raw, stamp := .watch s.power.watchCount, status := .fault } u =
            write { old with raw := raw, stamp := .watch s.power.watchCount, status := .fault } u := by
        rcases same with rfl | rfl <;> rfl
      exact stored _ (ite_left_or_right _ _ _)
    · rw [storeWatchChannel_eq (p := p) (c := c) known, show readingOf (live s) (channelIndex p c) code = .value v clamped from reading, raiseNewFault_value, show rawCode (channelIndex p c) code = raw from kept]
      rfl
  · intro i r w f aux floorOver floorUnder above under before count u
    have index : channelIndex p c = i := rfl
    have thresholds : watchThresholds (live s) i = (above, under) := watchThresholds_eq (live s) i
    have beyond : beyondWatch (live s) i r = true ↔ r.status = .fault ∨ above < r.value ∨ r.value < under := by
      rw [beyondWatch_iff, thresholds]
    have floor : watchBeyondFloor (live s) i r = true ↔ r.status ≠ .fault ∧ (floorOver < r.value ∨ r.value < floorUnder) := by
      rw [watchBeyondFloor_iff, (effective_floor (live s) 0 i).1, (effective_floor (live s) 0 i).2]
    have counts : watchCountAfter s i = count := by
      rw [watchCountAfter]
      by_cases far : r.status = .fault ∨ above < r.value ∨ r.value < under
      · rw [if_pos (beyond.2 far)]
        exact (if_pos far).symm
      · rw [if_neg (mt beyond.1 far)]
        exact (if_neg far).symm
    refine ⟨fun off => ?_, fun known calm => ?_, fun known low reached => ?_⟩
    · exact if_pos (by rw [index, off]; rfl)
    · rw [judgeWatchChannel_eq tripped (p := p) (c := c) known, index, counts]
      exact if_neg calm
    · rw [judgeWatchChannel_eq tripped (p := p) (c := c) known, index, counts]
      have cause : (watchTrip p c s).cause =
          if r.status ≠ .fault ∧ (floorOver < r.value ∨ r.value < floorUnder) then .limitFloor else .watchLimit := by
        by_cases far : r.status ≠ .fault ∧ (floorOver < r.value ∨ r.value < floorUnder)
        · rw [if_pos far]
          exact if_pos (floor.2 far)
        · rw [if_neg far]
          exact if_neg (mt floor.1 far)
      rw [← cause]
      exact if_pos ⟨low, reached⟩
  · intro free n counted cleared missed silent heard ended judged
    have awaits := awaiting_eq flight target
    have miss : countMiss p (.watch s.power.watchCount) free = missed := countMiss_eq one _ free
    have closes (v : State) : Host.Outcome.next (arbitrate (keptEnds v)) = ended v := by
      have ends : (v.power.cycle && v.power.wakeKept) = true ↔ v.power.cycle = true ∧ v.power.wakeKept = true := Bool.and_eq_true_iff
      by_cases h : v.power.cycle = true ∧ v.power.wakeKept = true
      · rw [keptEnds, if_pos (ends.2 h)]
        exact congrArg (fun u => Host.Outcome.next (arbitrate u)) (if_pos h).symm
      · rw [keptEnds, if_neg (mt ends.1 h)]
        exact congrArg (fun u => Host.Outcome.next (arbitrate u)) (if_neg h).symm
    have judges (kind : ReadKind) (f : Frame) (v : State) :
        watchAnswered p kind f.payload v = judged (channelsOf kind).1 (channelsOf kind).2 f v := by
      rw [watchAnswered_eq, judgeWatch_range, eachChannel_range]
      rfl
    have quiet (v : State) : judgeNoAnswer p false v = if v.power.cellsAnswered then heard v else silent v := by
      rw [judgeNoAnswer, Bool.or_false]
      rfl
    have loud (v : State) : judgeNoAnswer p true v = heard v := if_pos (Bool.or_true _)
    have misses (e : Ending) (missing : e = .noAnswer ∨ e = .badAnswer) :
        applyMiss .watch p e free = missed ∧ e.payload? = none := by
      rcases missing with rfl | rfl <;> exact ⟨miss, rfl⟩
    refine ⟨fun request expect => ?_, fun request expect => ?_⟩
    · intro lost
      have fails (e : Ending) (missing : e = .noAnswer ∨ e = .badAnswer) : Host.Outcome.next (finish t p e s) = lost := by
        rw [finish_watch watch, request, (misses e missing).1, (misses e missing).2]
        exact (congrArg (fun v => Host.Outcome.next (arbitrate v)) (watchReadEnd_cells p none missed)).trans (closes _)
      refine ⟨fun begun => ?_, fun m long => ?_, fun rx f c whole => ?_⟩
      · rw [exec_responseWindowClose awaits]
        exact fails _ (by cases begun <;> simp)
      · rw [exec_answerLengthBad awaits long]
        exact fails _ (.inr rfl)
      · intro good
        have tests : goodAnswer t.expect p f c = true ↔ good := by rw [expect, goodAnswer_some]; rfl
        refine ⟨fun bad => ?_, fun h => ?_⟩
        · rw [exec_answerReceived awaits whole, judgeAnswer_bad (mt tests.1 bad)]
          exact fails _ (.inr rfl)
        · rw [exec_answerReceived awaits whole, judgeAnswer_good (tests.2 h), finish_watch watch, request]
          exact (congrArg (fun v => Host.Outcome.next (arbitrate v))
            ((watchReadEnd_cells p (some f.payload) cleared).trans (congrArg keptEnds (judges .cells f _)))).trans (closes _)
    · intro lost
      have fails (e : Ending) (missing : e = .noAnswer ∨ e = .badAnswer) : Host.Outcome.next (finish t p e s) = lost := by
        rw [finish_watch watch, request, (misses e missing).1, (misses e missing).2]
        exact (congrArg (fun v => Host.Outcome.next (arbitrate v))
          ((watchReadEnd_aux p none missed).trans (congrArg keptEnds (quiet missed)))).trans (closes _)
      refine ⟨fun begun => ?_, fun m long => ?_, fun rx f c whole => ?_⟩
      · rw [exec_responseWindowClose awaits]
        exact fails _ (by cases begun <;> simp)
      · rw [exec_answerLengthBad awaits long]
        exact fails _ (.inr rfl)
      · intro good
        have tests : goodAnswer t.expect p f c = true ↔ good := by rw [expect, goodAnswer_some]; rfl
        refine ⟨fun bad => ?_, fun h => ?_⟩
        · rw [exec_answerReceived awaits whole, judgeAnswer_bad (mt tests.1 bad)]
          exact fails _ (.inr rfl)
        · rw [exec_answerReceived awaits whole, judgeAnswer_good (tests.2 h), finish_watch watch, request]
          exact (congrArg (fun v => Host.Outcome.next (arbitrate v)) ((watchReadEnd_aux p (some f.payload) cleared).trans
            (congrArg keptEnds ((congrArg (judgeNoAnswer p true) (judges .aux f cleared)).trans (loud _))))).trans (closes _)

end Sys2Proof.Machine
end

section
/-! The steps of capture runs (O30). -/

namespace Sys2Proof.Machine

theorem contextOf_of_find {s : State} {id : Half} {c : Context} (h : (s.capture.stack.find? fun x => x.id == id) = some c) :
    contextOf id s = some c := h

theorem recordStep_none {s : State} {id : Half} {c : Context} (h : contextOf id s = some c) :
    recordStep id none s = writeCapture (missedRecord c c.flightStep c.flightOffset) s := by
  simp only [recordStep, h]

theorem recordStep_some {s : State} {id : Half} {c : Context} (h : contextOf id s = some c) (payload : List Byte) :
    recordStep id (some payload) s =
      writeCapture
        { missedRecord c c.flightStep c.flightOffset with
          vPack := halfAt payload 0, vLink := halfAt payload 2, iPack := halfAt payload 4, missed := false } s := by
  simp only [recordStep, h]

/-- The top of the stack after its step's record is in its place (R128 steps 2 to 4). -/
def stepDone (c : Context) : Context := { c with step := if c.waiting then .due else .none, waiting := false }

section

variable {s : State} {c : Context} {above below : List Context}

/-- The run of an id that no other run has, with its step done. -/
theorem updateContext_of_stack (stack : s.capture.stack = above ++ c :: below) (others : ∀ x ∈ above ++ below, x.id ≠ c.id)
    (f : Context → Context) : updateContext c.id f s = { s with capture.stack := above ++ f c :: below } := by
  have keep (l : List Context) (h : ∀ x ∈ l, x.id ≠ c.id) : l.map (fun x => if x.id = c.id then f x else x) = l := by
    exact (List.map_congr_left (g := id) fun x hx => if_neg (h x hx)).trans (List.map_id l)
  rw [updateContext, stack, List.map_append, List.map_cons, keep above fun x hx => others x (List.mem_append_left _ hx),
    keep below fun x hx => others x (List.mem_append_right _ hx), if_pos rfl]

theorem contextOf_of_stack (stack : s.capture.stack = above ++ c :: below) (others : ∀ x ∈ above ++ below, x.id ≠ c.id) :
    contextOf c.id s = some c := by
  have skip : above.find? (fun x => x.id == c.id) = none :=
    List.find?_eq_none.2 fun x hx => by simpa using others x (List.mem_append_left _ hx)
  rw [contextOf, stack, List.find?_append, skip]
  simp

theorem isTop_of_stack (stack : s.capture.stack = above ++ c :: below) (others : ∀ x ∈ above ++ below, x.id ≠ c.id) :
    isTop c.id s = true ↔ above = [] := by
  unfold isTop
  rw [stack]
  cases above with
  | nil => simp
  | cons a above => simpa using others a (by simp)

theorem erase_of_stack (stack : s.capture.stack = above ++ c :: below) (others : ∀ x ∈ above ++ below, x.id ≠ c.id) :
    (s.capture.stack.eraseP fun x => x.id == c.id) = above ++ below := by
  rw [stack, List.eraseP_append_right _ fun x hx => by simpa using others x (List.mem_append_left _ hx)]
  simp

/-- What follows the record of a step, by the run it belongs to (R128, R130, R133, log 16). -/
theorem finishStep_of_stack (stack : s.capture.stack = above ++ c :: below) (others : ∀ x ∈ above ++ below, x.id ≠ c.id) :
    finishStep c.id s =
      let u : State := { s with capture.stack := above ++ stepDone c :: below }
      if c.ended then if isTop c.id u && leavesNow u then popTop u else u
      else if c.nextStep = c.count ∧ (stepDone c).step = .none then popComplete c.id u
      else u := by
  have found : contextOf c.id { s with capture.stack := above ++ stepDone c :: below } = some (stepDone c) :=
    contextOf_of_stack (c := stepDone c) (s := { s with capture.stack := above ++ stepDone c :: below }) rfl others
  unfold finishStep
  rw [updateContext_of_stack stack others]
  simp only [← stepDone.eq_1, found]
  rfl

theorem leavesNow_stepDone (h : s.capture.stack = stepDone c :: below) :
    leavesNow s = true ↔ c.ended = true ∧ (c.ticksRemaining = 0 ∨ c.leaving = true) := by
  rw [leavesNow, h]
  cases waits : c.waiting <;> simp [stepDone, waits]

end

/-- Settles O30: the grant, the ends of the step read, and what its record is followed by. -/
theorem captureStepsEnd : Obligations.CaptureStepsEnd := by
  unfold Obligations.CaptureStepsEnd
  intro room missed
  refine ⟨fun s c below stack => ?_, fun s t p id c flight capture target context expect found => ?_, fun s c above below stack others => ?_⟩
  · intro k v
    have granted : grant .capture s = grantCapture v := rfl
    obtain ⟨arbiter, recorded⟩ := recordGrant_arbiter .capture s
    refine ⟨fun p position numbered => ?_, fun unread => ?_⟩
    · have position' : packPosition (live { s with arbiter := arbiter }) = some p := position
      simp only [granted, v, recorded, grantCapture, stack, position']
      exact if_pos numbered
    · have missing : grantCapture v = finishStep c.id (recordStep c.id none { v with capture.stack := k :: below }) := by
        simp only [v, recorded, grantCapture, stack]
        cases position : packPosition (live { s with arbiter := arbiter }) with
        | none => rfl
        | some p =>
          have other : ¬ s.chain.state = .numbered := unread.resolve_left fun e => by
            rw [show packPosition (live s) = some p from position] at e
            cases e
          exact if_neg other
      rw [granted, missing, recordStep_none (c := k) (by simp [contextOf, k])]
      simp only [v, recorded]
      rfl
  · intro free failed
    have awaits := awaiting_eq flight target
    have ends (e : Ending) : finish t p e s = arbitrate (handCapture p id e free) := by
      simp only [finish, applyMiss, capture, handOn, context]
      rfl
    have known : contextOf id free = some c := found
    have misses (e : Ending) (missing : e.payload? = none) : Host.Outcome.next (finish t p e s) = failed := by
      simp only [ends, handCapture, missing, recordStep_none known]
      rfl
    refine ⟨fun begun => ?_, fun m long => ?_, fun rx f k whole => ?_⟩
    · rw [exec_responseWindowClose awaits]
      exact misses _ (by cases begun <;> rfl)
    · rw [exec_answerLengthBad awaits long]
      exact misses _ rfl
    · intro good
      have tests : goodAnswer t.expect p f k = true ↔ good ∧ f.payload.length = 7 := by
        rw [expect, goodAnswer_some]
        simp only [good, and_assoc]
        rfl
      refine ⟨fun bad => ?_, fun v1 v2 l1 l2 i1 i2 trigger h payload => ?_⟩
      · rw [exec_answerReceived awaits whole, judgeAnswer_bad (mt tests.1 bad)]
        exact misses _ rfl
      · rw [exec_answerReceived awaits whole, judgeAnswer_good (tests.2 ⟨h, by simp [payload]⟩), ends]
        have handed : handCapture p id (.answered f) free = finishStep id (judgeRecord
            (updatePack true (.capture id (flightStepOf id (recordStep id (some f.payload) free))) (isLost s p) f.payload
              (recordStep id (some f.payload) free))) := by
          have lost : isLost (recordStep id (some f.payload) free) p = isLost s p := by
            rw [recordStep_some known]
            rfl
          rw [← lost]
          rfl
        have step : flightStepOf id (recordStep id (some f.payload) free) = c.flightStep := by
          have still : contextOf id (recordStep id (some f.payload) free) = some c := by
            rw [recordStep_some known]
            exact known
          simp only [flightStepOf, still]
        rw [handed, step, recordStep_some known, payload]
        rfl
  · intro u gone leaves complete
    have run := finishStep_of_stack stack others
    have top : isTop c.id u = true ↔ above = [] := isTop_of_stack (c := stepDone c) (s := u) rfl others
    have erased : (u.capture.stack.eraseP fun x => x.id == c.id) = above ++ below :=
      erase_of_stack (c := stepDone c) (s := u) rfl others
    have departs (ended : c.ended = true) : (isTop c.id u && leavesNow u) = true ↔ leaves := by
      rw [Bool.and_eq_true, top]
      refine and_congr_right fun first => ?_
      have stack' : u.capture.stack = stepDone c :: below := by simp only [u, first]; rfl
      rw [leavesNow_stepDone stack', and_iff_right ended]
    have finished : c.nextStep = c.count ∧ (stepDone c).step = .none ↔ complete := by
      refine and_congr_right fun _ => ?_
      cases waits : c.waiting <;> simp [stepDone, waits]
    have completes : popComplete c.id u = if isTop c.id u then servePop ((above ++ below).length + 1) (raise .captureDone gone)
        else (servePending pendingOrder (raise .captureDone gone)).2 := by
      rw [popComplete, erased]
      rfl
    refine ⟨fun ended h => ?_, fun ended h => ?_, fun alive h first => ?_, fun alive h under => ?_, fun alive h => ?_⟩
    · have popped : popTop u = servePop (below.length + 1) gone := by
        simp only [popTop, u, gone, h.1]
        rfl
      rw [run, ← popped]
      exact (if_pos ended).trans (if_pos ((departs ended).2 h))
    · rw [run]
      exact (if_pos ended).trans (if_neg (mt (departs ended).1 h))
    · rw [run]
      refine (if_neg (by simp [alive])).trans ((if_pos (finished.2 h)).trans ?_)
      refine completes.trans ((if_pos (top.2 first)).trans ?_)
      rw [first]
      rfl
    · rw [run]
      refine (if_neg (by simp [alive])).trans ((if_pos (finished.2 h)).trans ?_)
      exact completes.trans (if_neg (mt top.1 under))
    · rw [run]
      exact (if_neg (by simp [alive])).trans (if_neg (mt finished.1 h))

end Sys2Proof.Machine
end

section
/-! Correction and judging of samples (O31, O32). -/

namespace Sys2Proof.Machine

/-! ### Correction (R55 to R58) -/

theorem correctCell_eq {r : Nat} {g o c : Int} (low : 1000000 * (c - o) ≤ r * (1000000 + g) + 500000)
    (high : r * (1000000 + g) + 500000 < 1000000 * (c - o + 1)) :
    correctCell r g o = if c < 0 then .value 0 true else if 65535 < c then .value 65535 true else .value c false := by
  have corrected : (r * (1000000 + g) + 500000) / 1000000 + o = c := by omega
  simp only [correctCell, corrected]

theorem roundAway_of_nonpos {n m d : Nat} (low : 2 * d * m ≤ 2 * n + d) (high : 2 * n + d < 2 * d * (m + 1)) :
    roundAway (-(n : Int)) d = -(m : Int) := by
  have positive : 0 < d := by
    rcases Nat.eq_zero_or_pos d with rfl | h
    · simp at high
    · exact h
  have quotient : (2 * n + d) / (2 * d) = m :=
    Nat.div_eq_of_lt_le (by rw [Nat.mul_comm m]; exact low) (by rw [Nat.mul_comm (m + 1)]; exact high)
  have size : (-(n : Int)).natAbs = n := by omega
  simp only [roundAway, size, quotient]
  by_cases zero : n = 0
  · subst zero
    have none : m = 0 := by
      rcases Nat.eq_zero_or_pos m with none | some
      · exact none
      · have large : 2 * d * 1 ≤ 2 * d * m := Nat.mul_le_mul_left _ some
        omega
    simp [none]
  · rw [if_pos (by omega)]

/-- A curve whose breakpoints pass their tests (R172). -/
structure GoodCurve (img : Image) : Prop where
  inside : ∀ i, i < 9 → 1 ≤ (breakpoint img i).code.toNat ∧ (breakpoint img i).code.toNat ≤ 4094
  rises : ∀ i j, i < j → j < 9 → (breakpoint img i).code.toNat < (breakpoint img j).code.toNat
  falls : ∀ i, i < 8 → (breakpoint img (i + 1)).temp.toInt < (breakpoint img i).temp.toInt

theorem goodCurve_of_tests {img : Image} (h : ∀ i, i < 9 → goodBreakpoint img i = true) : GoodCurve img := by
  have tests (i : Nat) (hi : i < 9) :
      (1 ≤ (breakpoint img i).code.toNat ∧ (breakpoint img i).code.toNat ≤ 4094) ∧
        (i = 0 ∨ (breakpoint img (i - 1)).code.toNat < (breakpoint img i).code.toNat ∧
          (breakpoint img i).temp.toInt < (breakpoint img (i - 1)).temp.toInt) := by
    have good := h i hi
    simp only [goodBreakpoint, between, Bool.and_eq_true, Bool.or_eq_true, decide_eq_true_eq, beq_iff_eq] at good
    exact ⟨good.1.1, good.2⟩
  have next (i : Nat) (hi : i < 8) : (breakpoint img i).code.toNat < (breakpoint img (i + 1)).code.toNat ∧
      (breakpoint img (i + 1)).temp.toInt < (breakpoint img i).temp.toInt :=
    (tests (i + 1) (by omega)).2.resolve_left (by omega)
  refine ⟨fun i hi => (tests i hi).1, fun i j less hj => ?_, fun i hi => (next i hi).2⟩
  induction less with
  | refl => exact (next i (by omega)).1
  | @step j less ih => exact Nat.lt_trans (ih (by omega)) (next j (Nat.lt_of_succ_lt_succ hj)).1

section

variable {img : Image} (curve : GoodCurve img)
include curve

/-- The segment of a code between two breakpoints (R58). -/
theorem segment_eq {i r : Nat} (hi : i < 8) (low : (breakpoint img i).code.toNat ≤ r) (high : r < (breakpoint img (i + 1)).code.toNat) :
    segment img r = i := by
  have before (j : Nat) (hj : j < i) : ¬ r < (breakpoint img (j + 1)).code.toNat := by
    rcases Nat.eq_or_lt_of_le (Nat.succ_le_of_lt hj) with same | less
    · rw [show j + 1 = i from same]
      omega
    · have := curve.rises (j + 1) i less (by omega)
      omega
  unfold segment
  rcases Nat.eq_or_lt_of_le (Nat.le_of_lt_succ hi) with last | inside
  · have none : ((List.range 7).find? fun i => decide (r < (breakpoint img (i + 1)).code.toNat)) = none :=
      List.find?_eq_none.2 fun j hj => by
        have := before j (by have := List.mem_range.1 hj; omega)
        simpa using this
    rw [none, last]
    rfl
  · have found : ((List.range 7).find? fun i => decide (r < (breakpoint img (i + 1)).code.toNat)) = some i := by
      rw [List.find?_range_eq_some]
      exact ⟨by simpa using high, List.mem_range.2 inside, fun j hj => by simpa using before j hj⟩
    rw [found]
    rfl

/-- A code above the first breakpoint's and below the last one's lies inside the curve (R58). -/
theorem correctAux_inside {r : Nat} {o : Int} (low : (breakpoint img 0).code.toNat < r) (high : r < (breakpoint img 8).code.toNat) :
    correctAux img r o =
      if (breakpoint img 0).temp.toInt < interpolate img r + o then .value (breakpoint img 0).temp.toInt true
      else if interpolate img r + o < (breakpoint img 8).temp.toInt then .value (breakpoint img 8).temp.toInt true
      else .value (interpolate img r + o) false := by
  have last := (curve.inside 8 (by omega)).2
  have sound : ¬ (r = 0 ∨ r = 4095) := by omega
  simp only [correctAux, if_neg sound, if_neg (Nat.not_le.2 low), if_neg (Nat.not_le.2 high)]

theorem correctAux_low {r : Nat} {o : Int} (some : 0 < r) (low : r ≤ (breakpoint img 0).code.toNat) :
    correctAux img r o =
      if (breakpoint img 0).temp.toInt < (breakpoint img 0).temp.toInt + o then .value (breakpoint img 0).temp.toInt true
      else if (breakpoint img 0).temp.toInt + o < (breakpoint img 8).temp.toInt then .value (breakpoint img 8).temp.toInt true
      else .value ((breakpoint img 0).temp.toInt + o) true := by
  have first := (curve.inside 0 (by omega)).2
  have sound : ¬ (r = 0 ∨ r = 4095) := by omega
  simp only [correctAux, if_neg sound, if_pos low]

theorem correctAux_high {r : Nat} {o : Int} (high : (breakpoint img 8).code.toNat ≤ r) (below : r < 4095) :
    correctAux img r o =
      if (breakpoint img 0).temp.toInt < (breakpoint img 8).temp.toInt + o then .value (breakpoint img 0).temp.toInt true
      else if (breakpoint img 8).temp.toInt + o < (breakpoint img 8).temp.toInt then .value (breakpoint img 8).temp.toInt true
      else .value ((breakpoint img 8).temp.toInt + o) true := by
  have first := curve.inside 0 (by omega)
  have rises := curve.rises 0 8 (by omega) (by omega)
  have sound : ¬ (r = 0 ∨ r = 4095) := by omega
  have above : ¬ r ≤ (breakpoint img 0).code.toNat := by omega
  simp only [correctAux, if_neg sound, if_neg above, if_pos high]

/-- Inside the curve the quotient is rounded to the nearest integer, halves away from zero (R58). -/
theorem interpolate_eq {i r m : Nat} (hi : i < 8) (low : (breakpoint img i).code.toNat ≤ r)
    (high : r < (breakpoint img (i + 1)).code.toNat)
    (least : 2 * ((breakpoint img (i + 1)).code.toNat - (breakpoint img i).code.toNat) * m ≤
      2 * ((r - (breakpoint img i).code.toNat) * ((breakpoint img i).temp.toInt - (breakpoint img (i + 1)).temp.toInt).toNat) +
        ((breakpoint img (i + 1)).code.toNat - (breakpoint img i).code.toNat))
    (most : 2 * ((r - (breakpoint img i).code.toNat) * ((breakpoint img i).temp.toInt - (breakpoint img (i + 1)).temp.toInt).toNat) +
        ((breakpoint img (i + 1)).code.toNat - (breakpoint img i).code.toNat) <
      2 * ((breakpoint img (i + 1)).code.toNat - (breakpoint img i).code.toNat) * (m + 1)) :
    interpolate img r = (breakpoint img i).temp.toInt - m := by
  have falls := curve.falls i hi
  have product : ((r : Int) - (breakpoint img i).code.toNat) * ((breakpoint img (i + 1)).temp.toInt - (breakpoint img i).temp.toInt) =
      -(((r - (breakpoint img i).code.toNat) * ((breakpoint img i).temp.toInt - (breakpoint img (i + 1)).temp.toInt).toNat : Nat) : Int) := by
    rw [Int.natCast_mul, Int.natCast_sub low, Int.toNat_of_nonneg (by omega), ← Int.mul_neg, Int.neg_sub]
  simp only [interpolate, segment_eq curve hi low high]
  rw [product, roundAway_of_nonpos least most]
  omega

end

/-- Settles O31: the cell correction by its quotient, the thermistor by the place of the code. -/
theorem readingsAreCorrected : Obligations.ReadingsAreCorrected := by
  refine ⟨fun r g o c => correctCell_eq, fun img o good => ?_⟩
  have curve := goodCurve_of_tests good
  intro code temp bounded
  refine ⟨rfl, rfl, fun r some low => correctAux_low curve some low, fun r high below => correctAux_high curve high below,
    fun i r m hi above low high => ?_⟩
  intro d n least most
  have below : r < code 8 := by
    rcases Nat.eq_or_lt_of_le (Nat.succ_le_of_lt hi) with last | inside
    · rw [← last]
      exact high
    · exact Nat.lt_trans high (curve.rises (i + 1) 8 inside (by omega))
  rw [correctAux_inside curve above below, interpolate_eq curve hi low high least most]

/-! ### Judging of a sample (R62 to R65) -/

/-- The record of a sample with its counter and mark, and its trip, after the events of its warn state (R64, R65). -/
def sampleJudged (p c : Nat) (e : Effective) (old new : Channel) (beyond floor : Bool) (value : Option Int) (a : State) : State :=
  let n := if beyond then min 15 (old.counter + 1) else 0
  let mark := beyond && old.tripped
  let trips := decide (e.persist ≤ n) && !mark
  let b := setChannel (channelIndex p c) { new with counter := n, tripped := mark || trips } a
  if trips then
    raise .limitTrip (takeOutsideTrip
      { cause := if floor then .limitFloor else .limitProfile, position := some p, channel := some c, value := value
        stamp := .sweep a.sweep.number, generation := sweepGeneration a, profile := sweepProfile a } b)
  else b

theorem countSample_eq (c : Channel) (beyond : Bool) :
    countSample c beyond =
      { c with counter := if beyond then min 15 (c.counter + 1) else 0, tripped := beyond && c.tripped } := by
  cases beyond <;> simp [countSample]

/-- The warn state after a reading: a sensor fault leaves it (R63). -/
def warnNext (e : Effective) (before : Warn) : Reading → Warn
  | .fault => before
  | .value v _ => warnAfter before v e.overWarn e.underWarn e.hyst

/-- The events of a reading: a new sensor fault, then a warn state entered (R57, R63). -/
def sampleNoted (before : Status) (reading : Reading) (was now : Warn) (s : State) : State :=
  if warnRaises was now then raise .limitWarn (raiseNewFault before reading s) else raiseNewFault before reading s

/-- The order of a sample's effects (R62 to R65). -/
theorem evaluateChannel_eq {p c : Nat} {code : Half} {s : State} {reading : Reading}
    (known : evaluated (live s) (channelIndex p c) = true) (read : readingOf (live s) (channelIndex p c) code = reading) :
    evaluateChannel p c code s =
      let e := effective (live s) (sweepProfile s) (channelIndex p c)
      let old := channelAt s (channelIndex p c)
      sampleJudged p c e old
        { storeReading old reading (rawCode (channelIndex p c) code) (.sweep s.sweep.number) with warn := warnNext e old.warn reading }
        (beyondTrip e reading) (beyondFloor e reading) (tripValue reading)
        (sampleNoted old.status reading old.warn (warnNext e old.warn reading) s) := by
  subst read
  have guard : (!evaluated (live s) (channelIndex p c)) = false := by rw [known]; rfl
  cases reading : readingOf (live s) (channelIndex p c) code with
  | fault =>
    simp only [evaluateChannel, guard, reading, countSample_eq, Bool.false_eq_true, if_false]
    rfl
  | value v clamped =>
    simp only [evaluateChannel, guard, reading, countSample_eq, Bool.false_eq_true, if_false]
    rfl

/-- The warn table (R63). -/
theorem warnAfter_of_table {before w : Warn} {v above under hyst : Int}
    (table : before = .clear ∧ (above < v ∧ w = .high ∨ v ≤ above ∧ v < under ∧ w = .low ∨ under ≤ v ∧ v ≤ above ∧ w = .clear) ∨
      before = .high ∧ (v < under ∧ w = .low ∨ under ≤ v ∧ v ≤ above - hyst ∧ w = .clear ∨ under ≤ v ∧ above - hyst < v ∧ w = .high) ∨
      before = .low ∧ (above < v ∧ w = .high ∨ under + hyst ≤ v ∧ v ≤ above ∧ w = .clear ∨ v ≤ above ∧ v < under + hyst ∧ w = .low)) :
    warnAfter before v above under hyst = w := by
  rcases table with ⟨rfl, row⟩ | ⟨rfl, row⟩ | ⟨rfl, row⟩
  · rcases row with ⟨h, rfl⟩ | ⟨h, k, rfl⟩ | ⟨h, k, rfl⟩
    · exact if_pos h
    · exact (if_neg (by omega)).trans (if_pos k)
    · exact (if_neg (by omega)).trans (if_neg (by omega))
  · rcases row with ⟨h, rfl⟩ | ⟨h, k, rfl⟩ | ⟨h, k, rfl⟩
    · exact if_pos h
    · exact (if_neg (by omega)).trans (if_pos k)
    · exact (if_neg (by omega)).trans (if_neg (by omega))
  · rcases row with ⟨h, rfl⟩ | ⟨h, k, rfl⟩ | ⟨h, k, rfl⟩
    · exact if_pos h
    · exact (if_neg (by omega)).trans (if_pos h)
    · exact (if_neg (by omega)).trans (if_neg (by omega))

/-- Settles O32: a sensor fault and a value, each with its warn state and events. -/
theorem sampleIsJudged : Obligations.SampleIsJudged := by
  intro p c code s i e old raw record
  have kept : rawCode i code = raw := rawCode_eq i code
  have judged (new : Channel) (warns beyond floor : Bool) (value : Option Int) :
      sampleJudged p c e old new beyond floor value (if warns then raise .limitWarn s else s) = record new warns beyond floor value := by
    cases warns <;> rfl
  refine ⟨fun off => ?_, fun known reading => ?_, fun v clamped w known reading table => ?_⟩
  · exact if_pos (by rw [show evaluated (live s) (channelIndex p c) = false from off]; rfl)
  · have noted : sampleNoted old.status .fault old.warn old.warn s = if old.status != .fault then raise .limitWarn s else s := by
      have same : warnRaises old.warn old.warn = false := by cases old.warn <;> rfl
      rw [sampleNoted, same, raiseNewFault_fault]
      by_cases was : old.status = .fault <;> simp [was]
    rw [evaluateChannel_eq known reading, ← judged, ← noted, ← kept]
    rfl
  · have moved : warnNext e old.warn (.value v clamped) = w := warnAfter_of_table table
    have noted : sampleNoted old.status (.value v clamped) old.warn w s =
        if w != .clear && w != old.warn then raise .limitWarn s else s := by
      rw [sampleNoted, raiseNewFault_value]
      rfl
    rw [evaluateChannel_eq known reading, ← judged, ← noted, ← kept]
    dsimp only
    rw [show warnNext e old.warn (.value v clamped) = w from moved]
    rfl

end Sys2Proof.Machine
end

section
/-! The Contactor Sequencer (O34 to O40). -/

namespace Sys2Proof.Machine

/-! ### Supervision (R113) -/

/-- A disagreement timer after supervision: stopped in FAULTED and outside ACTIVE (R113). -/
def supervised (s : State) (timer : Option Nat) (agrees : Bool) : Option Nat :=
  if s.sequencer.state = .faulted ∨ s.power.power ≠ .active then none
  else disagreeAfter timer agrees (s.now + (live s).contactor.feedbackTime.toNat * 100)

theorem superviseFeedback_eq (s : State) :
    superviseFeedback s =
      { s with
        sequencer.disagreePos := supervised s s.sequencer.disagreePos (s.sequencer.drive.pos == s.sequencer.feedback.pos)
        sequencer.disagreeNeg := supervised s s.sequencer.disagreeNeg (s.sequencer.drive.neg == s.sequencer.feedback.neg)
        sequencer.disagreePre := supervised s s.sequencer.disagreePre (s.sequencer.drive.pre == s.sequencer.feedback.pre) } := by
  unfold superviseFeedback supervised
  dsimp only
  by_cases off : s.sequencer.state = .faulted ∨ s.power.power ≠ .active
  · simp only [if_pos off]
  · simp only [if_neg off]
    rfl

/-- Supervision after a change of state that leaves the drives changes nothing (R113). -/
theorem superviseFeedback_twice {s : State} (state : ContactorState) (weld : Option Nat) (sound : s.sequencer.state ≠ .faulted)
    (sound' : state ≠ .faulted) :
    superviseFeedback { superviseFeedback s with sequencer.state := state, sequencer.weldTimer := weld } =
      superviseFeedback { s with sequencer.state := state, sequencer.weldTimer := weld } := by
  rw [superviseFeedback_eq s]
  simp only [superviseFeedback_eq, supervised, sound, sound', false_or, live]
  by_cases off : s.power.power ≠ .active
  · simp only [if_pos off]
  · simp only [if_neg off, disagreeAfter_idem]

/-! ### CLOSE and OPEN (R101, R107) -/

theorem packSenseUsable_iff (s : State) : packSenseUsable s = true ↔ ∃ p, packPosition (live s) = some p ∧ isLost s p = false := by
  unfold packSenseUsable
  cases packPosition (live s) <;> simp

theorem currentBreakable_iff (s : State) :
    currentBreakable s = true ↔
      (s.evaluator.pack.status = .fresh ∨ s.evaluator.pack.status = .held) ∧
        s.evaluator.pack.iPack.toInt.natAbs ≤ (live s).contactor.breakLimit.toNat := by
  simp [currentBreakable]

/-- PRECHARGING begins (R103). -/
theorem beginPrecharge_eq (s : State) :
    beginPrecharge s =
      captureEvent .precharge false
        { superviseFeedback { s with sequencer.drive := ⟨false, true, true⟩ } with
          sequencer.state := .precharging
          sequencer.prechargeTimer := some (s.now + (live s).contactor.preTimeout.toNat * 100)
          sequencer.silenceTimer := some (s.now + (live s).contactor.silenceLimit.toNat * 1000)
          sequencer.prechargeStart := s.now
          sequencer.prechargeMs := none
          sequencer.qualifying := 0 } := by
  unfold beginPrecharge
  simp only [setDrives, superviseFeedback_eq, after, ms, live, Nat.mul_assoc, Nat.reduceMul]

/-- The tests of a pending close (R103). -/
theorem closeAllowed_iff (s : State) :
    closeAllowed s = true ↔
      s.protection.state ≠ .safeOpen ∧ s.power.power = .active ∧ s.chain.state = .numbered ∧ packSenseUsable s = true ∧
        safetyActivation s = false := by
  simp [closeAllowed, and_assoc]

theorem sweeping_of_still {s : State} (h : s.sweep.engine = .stopped ∨ s.sweep.engine = .waitingSync) : sweeping s = false := by
  unfold sweeping
  rcases h with e | e <;> rw [e]

theorem not_enteringSleep_of_active {s : State} (h : s.power.power = .active) : enteringSleep s = false := by
  unfold enteringSleep
  rw [h]

/-- Settles O34: the checks of CLOSE in their order. -/
theorem closeChecksAndBegins : Obligations.CloseChecksAndBegins := by
  intro s h calm awake q usable
  have wakeful := not_enteringSleep_of_active awake
  have answers {r : Reply} {t : State} (e : cmdClose (closed s) = (r, t)) : exec .closeContactors s = .next (replied 0x0F r t) :=
    exec_replied h rfl (by decide) e
  have pack : packSenseUsable (closed s) = true ↔ usable := packSenseUsable_iff s
  have begins (numbered : s.chain.state = .numbered) (sees : usable) (idle : safetyActivation (closed s) = false) (state : q.state = .opened)
      (free : q.closePending = false) : cmdClose (closed s) = (.accepted, serveRequest { closed s with sequencer.closePending := true }) := by
    simp [cmdClose, calm, wakeful, show s.sequencer.state = _ from state, show s.sequencer.closePending = _ from free, numbered,
      pack.2 sees, idle]
  refine ⟨fun state => answers ?_, fun state => answers ?_, fun state => answers ?_, fun state pending => answers ?_,
    fun state free => ⟨fun other => answers ?_, fun numbered blind => answers ?_, fun numbered sees busy => answers ?_,
      fun numbered sees idle => ⟨fun sweeps => answers ?_, fun still => answers ?_⟩⟩⟩
  · simp [cmdClose, calm, wakeful, show s.sequencer.state = _ from state]
  · rcases state with e | e | e <;> simp [cmdClose, calm, wakeful, show s.sequencer.state = _ from e]
  · rcases state with e | e <;> simp [cmdClose, calm, wakeful, show s.sequencer.state = _ from e]
  · simp [cmdClose, calm, wakeful, show s.sequencer.state = _ from state, show s.sequencer.closePending = _ from pending]
  · simp [cmdClose, calm, wakeful, show s.sequencer.state = _ from state, show s.sequencer.closePending = _ from free, other]
  · have blind' : packSenseUsable (closed s) = false := Bool.not_eq_true _ |>.mp (mt pack.1 blind)
    simp [cmdClose, calm, wakeful, show s.sequencer.state = _ from state, show s.sequencer.closePending = _ from free, numbered, blind']
  · have busy' : safetyActivation (closed s) = true := busy
    simp [cmdClose, calm, wakeful, show s.sequencer.state = _ from state, show s.sequencer.closePending = _ from free, numbered, pack.2 sees, busy']
  · have idle' : safetyActivation (closed s) = false := idle
    have sweeps' : sweeping (closed s) = true := (sweeping_iff s).2 sweeps
    rw [begins numbered sees idle' state free]
    exact congrArg (Prod.mk _) (if_pos sweeps')
  · have idle' : safetyActivation (closed s) = false := idle
    have still' : sweeping (closed s) = false := sweeping_of_still (s := s) still
    have allowed : closeAllowed { closed s with sequencer.closePending := true } = true :=
      (closeAllowed_iff _).2 ⟨calm, awake, numbered, pack.2 sees, idle⟩
    have serve : serveRequest { closed s with sequencer.closePending := true } =
        arbitrate (beginPrecharge { closed s with sequencer.closePending := false }) :=
      (if_neg (by rw [show sweeping { closed s with sequencer.closePending := true } = _ from still']; decide)).trans
        (congrArg arbitrate ((if_pos rfl).trans (if_pos allowed)))
    have off : { closed s with sequencer.closePending := false } = closed s := by
      rw [← show s.sequencer.closePending = false from free]
      rfl
    rw [off, beginPrecharge_eq] at serve
    rw [begins numbered sees idle' state free, serve]
    rfl

/-- The common end of a close that is broken off (R105, R111). -/
theorem breakOffClose_eq (r : CloseResult) (cause : OpenCause) {s : State} (sound : s.sequencer.state ≠ .faulted) :
    breakOffClose r cause s =
      let broken := superviseFeedback
        { s with
          sequencer.drive := allOpen
          sequencer.prechargeTimer := none
          sequencer.silenceTimer := none
          sequencer.state := .weldCheck
          sequencer.weldTimer := some (s.now + (live s).contactor.weldTime.toNat * 100)
          sequencer.lastClose := some
            { result := r, prechargeMs := if s.sequencer.state = .precharging then none else s.sequencer.prechargeMs
              sweep := s.sweep.number } }
      { captureEvent .opening false (if s.sequencer.state = .precharging then prechargingLeft broken else broken) with
        sequencer.openSequence := some { cause := cause, underLoad := false, deferMs := none } } := by
  have kept : (setDrives allOpen s).sequencer.prechargeMs = s.sequencer.prechargeMs := by simp [setDrives]
  have run : breakOffClose r cause s =
      let w := enterWeldCheck
        (writeClose r
          (if decide (s.sequencer.state = .precharging) then none else (setDrives allOpen s).sequencer.prechargeMs)
          { setDrives allOpen s with sequencer.prechargeTimer := none, sequencer.silenceTimer := none })
      { captureEvent .opening false (if decide (s.sequencer.state = .precharging) then prechargingLeft w else w) with
        sequencer.openSequence := some { cause := cause, underLoad := false, deferMs := none } } := rfl
  rw [run, enterWeldCheck_of_close r _ s sound, kept]
  simp only [decide_eq_true_eq]

/-- A deferral, and the opening under load with a limit of 0 (R108, R109). -/
theorem beginDeferral_eq (s : State) :
    beginDeferral s =
      if (live s).contactor.deferLimit = 0 then beginOpening true (some 0) s
      else
        { s with
          sequencer.deferTimer := some (s.now + (live s).contactor.deferLimit.toNat * 100)
          sequencer.deferStart := s.now } := by
  have zero : (live s).contactor.deferLimit.toNat = 0 ↔ (live s).contactor.deferLimit = 0 :=
    ⟨fun e => BitVec.eq_of_toNat_eq e, fun e => congrArg BitVec.toNat e⟩
  unfold beginDeferral
  simp only [zero]
  rfl

/-- Settles O35: OPEN by the contactor state. -/
theorem openByContactorState : Obligations.OpenByContactorState := by
  intro s h q v broken sequence
  have answers {r : Reply} {t : State} (e : cmdOpen (closed s) = (r, t)) : exec .openContactors s = .next (replied 0x10 r t) :=
    exec_replied h rfl (by decide) e
  have waits (state : q.state = .closed) (unasked : q.openPending = false) (alone : q.deferTimer = none) :
      cmdOpen v = (.accepted, serveRequest { v with sequencer.openPending := true }) := by
    simp [cmdOpen, v, show s.sequencer.state = _ from state, show s.sequencer.openPending = _ from unasked,
      show s.sequencer.deferTimer = _ from alone]
  refine ⟨fun state pending => answers ?_, fun idle => answers ?_, fun state => answers ?_, fun state => answers ?_,
    fun state unasked alone => ⟨fun sweeps => answers ?_, fun still unclosed => ?_⟩⟩
  · simp [cmdOpen, show s.sequencer.state = _ from state, show s.sequencer.closePending = _ from pending, writeClose, v]
  · rcases idle with ⟨e, f⟩ | ⟨e, f⟩ | e | e | e
    · simp [cmdOpen, show s.sequencer.state = _ from e, show s.sequencer.closePending = _ from f, v]
    · rcases f with f | f <;>
        simp [cmdOpen, show s.sequencer.state = _ from e, f, v, q]
    all_goals simp [cmdOpen, show s.sequencer.state = _ from e, v]
  · have run : cmdOpen v = (.accepted, arbitrate (breakOffClose .interrupted .interrupt v)) := by
      simp [cmdOpen, v, show s.sequencer.state = _ from state]
    have precharging : v.sequencer.state = .precharging := state
    rw [run, breakOffClose_eq _ _ (by rw [precharging]; decide)]
    simp only [if_pos precharging]
    rfl
  · have run : cmdOpen v = (.accepted, arbitrate (breakOffClose .interrupted .interrupt v)) := by
      simp [cmdOpen, v, show s.sequencer.state = _ from state]
    have closing : ¬ v.sequencer.state = .precharging := by rw [show v.sequencer.state = .closing from state]; decide
    rw [run, breakOffClose_eq _ _ (by rw [show v.sequencer.state = .closing from state]; decide)]
    simp only [if_neg closing]
    rfl
  · rw [waits state unasked alone]
    exact congrArg (Prod.mk _) (if_pos ((sweeping_iff v).2 sweeps))
  · have still' : sweeping { v with sequencer.openPending := true } = false := sweeping_of_still (s := s) still
    have breakable : currentBreakable { v with sequencer.openPending := false } = true ↔ _ := currentBreakable_iff s
    have off : { v with sequencer.openPending := false } = v := by
      rw [← show s.sequencer.openPending = false from unasked]
      rfl
    have serve : serveRequest { v with sequencer.openPending := true } =
        arbitrate (if currentBreakable { v with sequencer.openPending := false } then beginOpening false none { v with sequencer.openPending := false }
          else beginDeferral { v with sequencer.openPending := false }) :=
      (if_neg (by rw [still']; decide)).trans (congrArg arbitrate ((if_neg (by
        rw [show (v : State).sequencer.closePending = _ from unclosed]; decide)).trans (if_pos rfl)))
    rw [off] at serve breakable
    intro light
    refine ⟨fun h => answers ?_, fun h zero => answers ?_, fun h limit => answers ?_⟩
    · rw [waits state unasked alone, serve, if_pos (breakable.2 h)]
    · rw [waits state unasked alone, serve, if_neg (mt breakable.1 h)]
      exact congrArg (fun u => (Reply.accepted, arbitrate u)) ((beginDeferral_eq v).trans (if_pos zero))
    · rw [waits state unasked alone, serve, if_neg (mt breakable.1 h)]
      exact congrArg (fun u => (Reply.accepted, arbitrate u)) ((beginDeferral_eq v).trans (if_neg limit))

/-! ### Switch points and openings (R22, R103, R108, R110) -/

theorem safetyActivation_iff (s : State) :
    safetyActivation s = true ↔
      ∃ g, (s.update.state = .committing ∨ s.update.state = .armed) ∧ s.update.stage = some g ∧ g.set &&& 0x4F ≠ 0 := by
  cases state : s.update.state <;> cases stage : s.update.stage <;> simp [safetyActivation, state, stage, touchesSafety]

/-- An opening from CLOSED before a dwell of 0 ends (R110). -/
def openingBegun (load : Bool) (deferral : Option Nat) (s : State) : State :=
  captureEvent .opening load
    { superviseFeedback { s with sequencer.drive := { s.sequencer.drive with pos := false } } with
      sequencer.silenceTimer := none
      sequencer.deferTimer := none
      sequencer.dwellTimer := some (s.now + (live s).contactor.openDwell.toNat * 100)
      sequencer.state := .opening
      sequencer.openSequence := some { cause := .request, underLoad := load, deferMs := deferral } }

theorem beginOpening_eq (load : Bool) (deferral : Option Nat) (s : State) :
    beginOpening load deferral s =
      if (live s).contactor.openDwell.toNat = 0 then openNegative (openingBegun load deferral s) else openingBegun load deferral s := by
  unfold beginOpening openingBegun
  simp only [setDrives, superviseFeedback_eq, after, ms, beginOpenSequence]

/-- What an unsettled pending open brings about at a switch point (R108). -/
theorem switchPoint_open {s : State} (closing : s.sequencer.closePending = false) (opening : s.sequencer.openPending = true) :
    switchPoint s =
      if currentBreakable { s with sequencer.openPending := false } then beginOpening false none { s with sequencer.openPending := false }
      else beginDeferral { s with sequencer.openPending := false } := by
  simp only [switchPoint, closing, opening, Bool.false_eq_true, if_false, if_true]

/-- Settles O36: the marks, the opening, and the supervision by its two cases. -/
theorem switchPointsAndOpenings : Obligations.SwitchPointsAndOpenings := by
  refine ⟨fun s => ?_, fun load deferral s => ?_, fun s => ?_⟩
  · intro q t may light v
    have allowed : closeAllowed s = true ↔ may := by
      rw [closeAllowed_iff, packSenseUsable_iff, ← Bool.not_eq_true (safetyActivation s), safetyActivation_iff]
    have breakable : currentBreakable v = true ↔ light := currentBreakable_iff s
    refine ⟨fun closing opening => ?_, fun closing h => ?_, fun closing h => ?_,
      fun closing opening => ⟨fun h => ?_, fun h zero => ?_, fun h limit => ?_⟩⟩
    · simp [switchPoint, show s.sequencer.closePending = _ from closing, show s.sequencer.openPending = _ from opening]
    · have run : switchPoint s = beginPrecharge { s with sequencer.closePending := false } :=
        (if_pos closing).trans (if_pos (allowed.2 h))
      rw [run, beginPrecharge_eq]
      rfl
    · exact (if_pos closing).trans (if_neg (mt allowed.1 h))
    · rw [switchPoint_open closing opening, if_pos (breakable.2 h)]
    · rw [switchPoint_open closing opening, if_neg (mt breakable.1 h)]
      exact (beginDeferral_eq v).trans (if_pos zero)
    · rw [switchPoint_open closing opening, if_neg (mt breakable.1 h)]
      exact (beginDeferral_eq v).trans (if_neg limit)
  · intro opening
    have zero : (live s).contactor.openDwell.toNat = 0 ↔ (live s).contactor.openDwell = 0 :=
      ⟨fun e => BitVec.eq_of_toNat_eq e, fun e => congrArg BitVec.toNat e⟩
    have begun : openingBegun load deferral s = opening := rfl
    rw [beginOpening_eq, begun]
    refine ⟨fun dwells => if_neg (mt zero.1 dwells), fun none => ?_⟩
    rw [if_pos (zero.2 none)]
    have state : opening.sequencer.state = .opening := by simp [opening]
    have ran : expired opening opening.sequencer.dwellTimer = true := by
      simp [opening, expired, none]
    exact congrArg Host.Outcome.next (if_pos ⟨state, ran⟩)
  · intro q timer
    have follows (old : Option Nat) (drive feedback : Bool) :
        disagreeAfter old (drive == feedback) (s.now + (live s).contactor.feedbackTime.toNat * 100) = timer old drive feedback := by
      cases drive <;> cases feedback <;> cases old <;> rfl
    refine ⟨fun off => ?_, fun sound active => ?_⟩
    · have off' : s.sequencer.state = .faulted ∨ s.power.power ≠ .active := off
      rw [superviseFeedback_eq]
      simp only [supervised, if_pos off']
      rfl
    · have on : ¬ (s.sequencer.state = .faulted ∨ s.power.power ≠ .active) := by
        rintro (e | e)
        · exact sound e
        · exact e active
      rw [superviseFeedback_eq]
      simp only [supervised, if_neg on, follows]
      rfl

/-! ### Pack sense records (R104, R109, R112) -/

theorem qualifies_iff (s : State) :
    qualifies s = true ↔
      (s.evaluator.pack.status = .fresh ∨ s.evaluator.pack.status = .held) ∧ 0 < s.evaluator.pack.vPack.toNat ∧
        s.evaluator.pack.vPack.toNat * (live s).contactor.preRatio.toNat ≤ s.evaluator.pack.vLink.toNat * 256 := by
  simp [qualifies, and_assoc]

theorem weldRatioMet_iff (s : State) :
    weldRatioMet s = true ↔
      (s.evaluator.pack.status = .fresh ∨ s.evaluator.pack.status = .held) ∧
        s.evaluator.pack.vLink.toNat * 256 < s.evaluator.pack.vPack.toNat * (live s).contactor.weldRatio.toNat := by
  simp [weldRatioMet]

/-- The second qualifying record, in a state in which POS_DRV may be driven (R104). -/
theorem prechargeComplete_of_may {s : State} (may : s.protection.state ≠ .safeOpen ∧ s.power.power = .active) :
    prechargeComplete s =
      tryClosed (captureEvent .close false (prechargingLeft
        { superviseFeedback { s with sequencer.drive := ⟨true, true, true⟩ } with
          sequencer.prechargeTimer := none
          sequencer.prechargeMs := some ((s.now - s.sequencer.prechargeStart) / 100)
          sequencer.state := .closing })) := by
  unfold prechargeComplete
  rw [if_pos may]
  simp only [setDrives, superviseFeedback_eq]

theorem reachClosed_eq (s : State) :
    reachClosed s =
      raise .contactorDone
        { superviseFeedback { s with sequencer.drive := { s.sequencer.drive with pre := false } } with
          sequencer.state := .closed
          sequencer.lastClose := some { result := .closed, prechargeMs := s.sequencer.prechargeMs, sweep := s.sweep.number } } := by
  unfold reachClosed
  simp only [setDrives, superviseFeedback_eq, writeClose]

theorem writeOpen_none {s : State} (r : OpenResult) (h : s.sequencer.openSequence = none) : writeOpen r s = s := by
  simp only [writeOpen, h]

theorem writeOpen_some {s : State} {o : OpenSequence} (r : OpenResult) (h : s.sequencer.openSequence = some o) :
    writeOpen r s =
      { s with
        sequencer.openSequence := none
        sequencer.lastOpen := some { sequence := o, result := r, sweep := s.sweep.number } } := by
  simp only [writeOpen, h]

theorem judgeRecord_precharging {s : State} (h : s.sequencer.state = .precharging) :
    judgeRecord s =
      if qualifies s then
        if 2 ≤ s.sequencer.qualifying + 1 then prechargeComplete { s with sequencer.qualifying := s.sequencer.qualifying + 1 }
        else { s with sequencer.qualifying := s.sequencer.qualifying + 1 }
      else { s with sequencer.qualifying := 0 } := by
  simp only [judgeRecord, h]

theorem judgeRecord_closed {s : State} (h : s.sequencer.state = .closed) :
    judgeRecord s =
      if s.sequencer.deferTimer.isSome && currentBreakable s then
        beginOpening false (some ((s.now - s.sequencer.deferStart) / 100)) s
      else s := by
  simp only [judgeRecord, h, msSince]

theorem judgeRecord_weldCheck {s : State} (h : s.sequencer.state = .weldCheck) :
    judgeRecord s = if weldRatioMet s then weldPassed s else s := by
  simp only [judgeRecord, h]

/-- Settles O37: the contactor state decides what a record may bring about. -/
theorem packRecordsAreJudged : Obligations.PackRecordsAreJudged := by
  intro s q r t good qualified counted drives closing
  have qualifying : qualifies s = true ↔ qualified := qualifies_iff s
  refine ⟨fun state => ⟨fun h => ?_, fun h once => ?_, fun h twice may => ?_⟩, fun state => ?_, fun state => ?_, fun state => ?_⟩
  · rw [judgeRecord_precharging state, if_neg (mt qualifying.1 h)]
  · rw [judgeRecord_precharging state, if_pos (qualifying.2 h)]
    rcases once with first | cannot
    · exact if_neg (by rw [show s.sequencer.qualifying = 0 from first]; omega)
    · by_cases second : 2 ≤ s.sequencer.qualifying + 1
      · exact (if_pos second).trans (if_neg cannot)
      · exact if_neg second
  · have complete : judgeRecord s = tryClosed closing := by
      have second : 2 ≤ s.sequencer.qualifying + 1 := Nat.succ_le_succ twice
      rw [judgeRecord_precharging state, if_pos (qualifying.2 h), if_pos second,
        prechargeComplete_of_may (s := { s with sequencer.qualifying := s.sequencer.qualifying + 1 }) may]
    have position : closing.sequencer.feedback.pos = q.feedback.pos := by simp [closing, counted, q]
    have drive : closing.sequencer.drive = ⟨true, true, true⟩ := by simp [closing]
    have time : closing.sequencer.prechargeMs = some ((s.now - q.prechargeStart) / 100) := by simp [closing]
    have number : closing.sweep.number = s.sweep.number := by simp [closing, counted]
    rw [complete]
    refine ⟨fun apart => if_neg (by rw [position, apart]; decide), fun shut => (if_pos (position.trans shut)).trans ?_⟩
    rw [reachClosed_eq, drive, time, number]
  · intro ends
    have breaks : (s.sequencer.deferTimer.isSome && currentBreakable s) = true ↔ ends := by
      rw [Bool.and_eq_true, currentBreakable_iff, Option.isSome_iff_ne_none]
    rw [judgeRecord_closed state]
    exact ⟨fun h => if_pos (breaks.2 h), fun h => if_neg (mt breaks.1 h)⟩
  · intro passes opened
    have met : weldRatioMet s = true ↔ passes := weldRatioMet_iff s
    have sequence : opened.sequencer.openSequence = q.openSequence := by simp [opened, q]
    have number : opened.sweep.number = s.sweep.number := by simp [opened]
    have passed (h : passes) : judgeRecord s = raise .contactorDone (writeOpen .opened opened) :=
      (judgeRecord_weldCheck state).trans (if_pos (met.2 h))
    refine ⟨fun h none => ?_, fun o h some => ?_, fun h => (judgeRecord_weldCheck state).trans (if_neg (mt met.1 h))⟩
    · rw [passed h, writeOpen_none _ (sequence.trans none)]
    · rw [passed h, writeOpen_some _ (sequence.trans some), number]
  · have state' : s.sequencer.state = .opened ∨ s.sequencer.state = .closing ∨ s.sequencer.state = .opening ∨ s.sequencer.state = .faulted :=
      state
    rcases state' with e | e | e | e <;> simp only [judgeRecord, e]

/-! ### Timers (R105, R109, R110, R112) -/

/-- What a plain trip carries (R80). -/
theorem plainTrip_congr {s u : State} (cause : TripCause) (number : u.sweep.number = s.sweep.number) (tables : u.tables = s.tables)
    (profile : u.evaluator.profile = s.evaluator.profile) : plainTrip cause u = plainTrip cause s := by
  simp only [plainTrip, live, number, tables, profile]

theorem tripPrecharge_eq {s u : State} (number : u.sweep.number = s.sweep.number) (tables : u.tables = s.tables)
    (profile : u.evaluator.profile = s.evaluator.profile) :
    tripPrecharge u = raise .contactorFault (takeTrip (plainTrip .prechargeTimeout s) u) := by
  rw [tripPrecharge, plainTrip_congr _ number tables profile]

/-- FAULTED stops the weld timer and the disagreement timers (R113, R116). -/
theorem enterFaulted_eq (s : State) :
    enterFaulted s =
      { s with
        sequencer.state := .faulted, sequencer.weldTimer := none, sequencer.disagreePos := none, sequencer.disagreeNeg := none
        sequencer.disagreePre := none } := by
  rw [enterFaulted, superviseFeedback_eq]
  simp only [supervised, true_or, if_true]

theorem enterWeldCheck_eq (s : State) :
    enterWeldCheck s =
      superviseFeedback
        { s with
          sequencer.state := .weldCheck
          sequencer.weldTimer := some (s.now + (live s).contactor.weldTime.toNat * 100) } := rfl

theorem enterWeldCheck_of_same {s u : State} (now : u.now = s.now) (tables : u.tables = s.tables) :
    enterWeldCheck u =
      superviseFeedback
        { u with
          sequencer.state := .weldCheck
          sequencer.weldTimer := some (s.now + (live s).contactor.weldTime.toNat * 100) } := by
  simp only [enterWeldCheck_eq, live, now, tables]

/-- NEG_DRV opens at the end of the dwell, and WELD_CHECK begins with every feedback open (R110). -/
theorem openNegative_eq {s : State} (opening : s.sequencer.state = .opening) :
    openNegative s =
      if s.sequencer.feedback = allOpen then
        superviseFeedback
          { s with
            sequencer.dwellTimer := none
            sequencer.drive := { s.sequencer.drive with neg := false }
            sequencer.state := .weldCheck
            sequencer.weldTimer := some (s.now + (live s).contactor.weldTime.toNat * 100) }
      else
        superviseFeedback { s with sequencer.dwellTimer := none, sequencer.drive := { s.sequencer.drive with neg := false } } := by
  have sound : s.sequencer.state ≠ .faulted := by rw [opening]; decide
  have begun : openNegative s =
      tryWeldCheck (superviseFeedback
        { s with sequencer.dwellTimer := none, sequencer.drive := { s.sequencer.drive with neg := false } }) := rfl
  rw [begun]
  by_cases apart : s.sequencer.feedback = allOpen
  · rw [if_pos apart, ← superviseFeedback_twice
      (s := { s with sequencer.dwellTimer := none, sequencer.drive := { s.sequencer.drive with neg := false } }) .weldCheck _ sound (by decide)]
    refine (if_pos ⟨by simp [opening], by simp, by simp [apart]⟩).trans ?_
    rw [enterWeldCheck_eq]
    simp only [superviseFeedback_now, live, superviseFeedback_tables]
  · rw [if_neg apart]
    exact if_neg fun h => apart (by simpa using h.2.2)

/-- Settles O38: each timer in its state, past its instant. -/
theorem sequenceTimersExpire : Obligations.SequenceTimersExpire := by
  intro s q ran trip
  have past (timer : Option Nat) : expired s timer = true ↔ ran timer := expired_iff s timer
  refine ⟨fun state late => ?_, fun idle => ?_, fun t state timer late => ?_, fun idle => ?_, fun state late => ?_, fun idle => ?_,
    fun state late => ?_, fun idle => ?_⟩
  · intro broken
    have run : exec .prechargeTimeout s = .next (prechargeTimedOut s) := congrArg Host.Outcome.next (if_pos ⟨state, (past _).2 late⟩)
    have sound : s.sequencer.state ≠ .faulted := by rw [show s.sequencer.state = .precharging from state]; decide
    rw [run, prechargeTimedOut, breakOffClose_eq _ _ sound]
    simp only [if_pos (show s.sequencer.state = .precharging from state)]
    exact congrArg (fun u => Host.Outcome.next (arbitrate u)) (tripPrecharge_eq (by simp) (by simp) (by simp))
  · exact congrArg Host.Outcome.next (if_neg fun h => idle.elim (· h.1) (· ((past _).1 h.2)))
  · have run : exec .deferTimerExpiry s = .next (deferTimedOut s) :=
      congrArg Host.Outcome.next (if_pos ⟨state, (past _).2 ⟨t, timer, late⟩⟩)
    have deferral : fullDeferral s = (t - q.deferStart) / 100 := by rw [fullDeferral, show s.sequencer.deferTimer = some t from timer]; rfl
    rw [run, deferTimedOut, deferral]
  · exact congrArg Host.Outcome.next (if_neg fun h => idle.elim (· h.1) (· ((past _).1 h.2)))
  · intro opened
    have run : exec .dwellTimerExpiry s = .next (openNegative s) := congrArg Host.Outcome.next (if_pos ⟨state, (past _).2 late⟩)
    rw [run, openNegative_eq state]
    exact ⟨fun shut => congrArg Host.Outcome.next (if_neg shut), fun apart => congrArg Host.Outcome.next (if_pos apart)⟩
  · exact congrArg Host.Outcome.next (if_neg fun h => idle.elim (· h.1) (· ((past _).1 h.2)))
  · intro ended
    have run : exec .weldTimerExpiry s = .next (arbitrate (weldTimedOut s)) :=
      congrArg Host.Outcome.next (if_pos ⟨state, (past _).2 late⟩)
    refine ⟨fun none => ?_, fun ratio => ?_⟩
    · rw [run, weldTimedOut, if_pos none, weldPassed]
      refine congrArg (fun u => Host.Outcome.next (arbitrate (raise .contactorDone u))) ?_
      cases sequence : s.sequencer.openSequence with
      | none =>
        rw [writeOpen_none _ (by simp [sequence])]
        simp only [ended, q, sequence]
      | some o =>
        rw [writeOpen_some (o := o) _ (by simp [sequence])]
        simp only [ended, q, sequence, superviseFeedback_sweep]
    · rw [run, weldTimedOut, if_neg ratio]
      have faulted : writeOpen .welded (enterFaulted s) = ended .welded
          { s with
            sequencer.state := .faulted, sequencer.weldTimer := none, sequencer.disagreePos := none, sequencer.disagreeNeg := none
            sequencer.disagreePre := none } := by
        rw [enterFaulted_eq]
        cases sequence : s.sequencer.openSequence with
        | none =>
          rw [writeOpen_none _ (by simp [sequence])]
          simp only [ended, q, sequence]
        | some o =>
          rw [writeOpen_some (o := o) _ (by simp [sequence])]
          simp only [ended, q, sequence]
      have same : plainTrip .weld (writeOpen .welded (enterFaulted s)) = trip .weld :=
        plainTrip_congr (s := s) _ (by simp) (by simp) (by simp)
      dsimp only
      rw [same, faulted]
  · exact congrArg Host.Outcome.next (if_neg fun h => idle.elim (· h.1) (· ((past _).1 h.2)))

/-! ### The forced opening (R84, R116) -/

/-- The close record that a forced opening leaves (R100, R116). -/
def forcedClose (s : State) : Option CloseRecord :=
  if s.sequencer.state = .precharging then some { result := .forced, prechargeMs := none, sweep := s.sweep.number }
  else if s.sequencer.state = .closing then some { result := .forced, prechargeMs := s.sequencer.prechargeMs, sweep := s.sweep.number }
  else s.sequencer.lastClose

/-- Every output open, marks and timers cleared, records written (R116 steps 1 to 3). -/
def releasedOutputs (s : State) : State :=
  { superviseFeedback { s with sequencer.drive := allOpen } with
    sequencer.closePending := false
    sequencer.openPending := false
    sequencer.prechargeTimer := none
    sequencer.silenceTimer := none
    sequencer.deferTimer := none
    sequencer.dwellTimer := none
    sequencer.lastClose := forcedClose s
    sweep.record :=
      if s.sweep.engine = .running ∨ s.sweep.engine = .stopping then
        s.sweep.record.map fun r => { r with flags := { r.flags with disturbed := true } }
      else s.sweep.record }

/-- WELD_CHECK, or FAULTED for CONTACTOR_FEEDBACK (R116 step 4). -/
def forcedState (cause : TripCause) (s : State) : State :=
  if cause = .contactorFeedback then
    superviseFeedback { releasedOutputs s with sequencer.state := .faulted, sequencer.weldTimer := none }
  else
    superviseFeedback
      { releasedOutputs s with
        sequencer.state := .weldCheck
        sequencer.weldTimer := some (s.now + (live s).contactor.weldTime.toNat * 100) }

/-- The forced opening with its TRIP event and open sequence (R116 steps 5 and 6). -/
def forcedOpening (cause : TripCause) (s : State) : State :=
  { captureEvent .trip false (if s.sequencer.state = .precharging then prechargingLeft (forcedState cause s) else forcedState cause s) with
    sequencer.openSequence := some { cause := .trip, underLoad := false, deferMs := none } }

theorem reportDisturbed_eq (s : State) :
    reportDisturbed s =
      { s with
        sweep.record :=
          if s.sweep.engine = .running ∨ s.sweep.engine = .stopping then
            s.sweep.record.map fun r => { r with flags := { r.flags with disturbed := true } }
          else s.sweep.record } := by
  unfold reportDisturbed
  by_cases sweeps : s.sweep.engine = .running ∨ s.sweep.engine = .stopping
  · rw [if_pos ((sweeping_iff s).2 sweeps)]
    simp only [if_pos sweeps]
    rfl
  · rw [if_neg (mt (sweeping_iff s).1 sweeps)]
    simp only [if_neg sweeps]

/-- Every output open, marks and timers cleared (R116 steps 1 and 2). -/
def clearedOutputs (s : State) : State :=
  { setDrives allOpen s with
    sequencer.closePending := false
    sequencer.openPending := false
    sequencer.prechargeTimer := none
    sequencer.silenceTimer := none
    sequencer.deferTimer := none
    sequencer.dwellTimer := none }

theorem releasedOutputs_eq (s : State) :
    reportDisturbed
        (match s.sequencer.state with
          | .precharging => writeClose .forced none (clearedOutputs s)
          | .closing => writeClose .forced (clearedOutputs s).sequencer.prechargeMs (clearedOutputs s)
          | .opened | .closed | .opening | .weldCheck | .faulted => clearedOutputs s) =
      releasedOutputs s := by
  rw [reportDisturbed_eq]
  unfold releasedOutputs forcedClose
  cases state : s.sequencer.state <;>
    simp only [clearedOutputs, setDrives, superviseFeedback_eq, writeClose, supervised, reduceCtorEq, if_true, if_false]

theorem forcedState_eq (cause : TripCause) (s : State) :
    (if cause = .contactorFeedback then enterFaulted (releasedOutputs s) else enterWeldCheck (releasedOutputs s)) = forcedState cause s := by
  rw [enterWeldCheck_of_same (s := s) (u := releasedOutputs s) (superviseFeedback_now _) (superviseFeedback_tables _)]
  rfl

theorem forceOpen_eq (cause : TripCause) (s : State) :
    forceOpen cause s =
      if cause = .contactorFeedback then writeOpen .feedbackFault (forcedOpening cause s) else forcedOpening cause s := by
  unfold forcedOpening
  rw [← forcedState_eq, ← releasedOutputs_eq]
  rfl

@[simp] theorem releasedOutputs_number (s : State) : (releasedOutputs s).sweep.number = s.sweep.number := by simp [releasedOutputs]

@[simp] theorem forcedState_number (cause : TripCause) (s : State) : (forcedState cause s).sweep.number = s.sweep.number := by
  unfold forcedState
  split <;> simp

@[simp] theorem forcedOpening_number (cause : TripCause) (s : State) : (forcedOpening cause s).sweep.number = s.sweep.number := by
  unfold forcedOpening
  dsimp only
  split <;> simp

@[simp] theorem forceOpen_number (cause : TripCause) (s : State) : (forceOpen cause s).sweep.number = s.sweep.number := by
  rw [forceOpen_eq]
  split <;> simp

theorem faultIfFeedback_number (cause : TripCause) (s : State) : (faultIfFeedback cause s).sweep.number = s.sweep.number := by
  unfold faultIfFeedback
  split <;> simp [enterFaulted]

theorem openOrder_number (cause : TripCause) (s : State) : (openOrder cause s).sweep.number = s.sweep.number := by
  unfold openOrder
  split
  · rw [faultIfFeedback_number]
    split <;> rfl
  · exact forceOpen_number cause s
  · exact forceOpen_number cause s
  · exact forceOpen_number cause s
  · split
    · exact forceOpen_number cause s
    · exact faultIfFeedback_number cause s
  · exact faultIfFeedback_number cause s
  · rfl

theorem takeTrip_number (t : Trip) (s : State) : (takeTrip t s).sweep.number = s.sweep.number := by
  unfold takeTrip
  dsimp only
  split
  · exact openOrder_number _ _
  · rfl

/-- Settles O40: the open order by the contactor state. -/
theorem hardTripsForceTheOpening : Obligations.HardTripsForceTheOpening := by
  refine ⟨fun t s hard => ?_, fun cause s => ?_⟩
  · refine ⟨{ state := .safeOpen, record := some (recordTrip s.protection.record t .hard s.power.power) }, rfl, ?_⟩
    simp only [takeTrip, hard, if_true]
    rfl
  · intro q weld faulted noted standing forced released entered opened
    have notes (v : State) (number : v.sweep.number = s.sweep.number) : writeOpen .feedbackFault v = noted v := by
      cases sequence : v.sequencer.openSequence with
      | none => simp only [writeOpen_none _ sequence, noted, sequence]
      | some o => simp only [writeOpen_some _ sequence, noted, sequence, number]
    have rests (v : State) (number : v.sweep.number = s.sweep.number) : faultIfFeedback cause v = standing v := by
      unfold faultIfFeedback
      by_cases feedback : cause = .contactorFeedback
      · simp only [standing, if_pos feedback]
        exact notes (faulted v) ((superviseFeedback_sweep _).symm ▸ number)
      · simp only [standing, if_neg feedback]
    have forces : forceOpen cause s = if cause = .contactorFeedback then noted opened else opened := by
      have same : forcedOpening cause s = opened := rfl
      rw [forceOpen_eq, same, notes opened (same ▸ forcedOpening_number cause s)]
    refine ⟨fun driven => ?_, fun state pending => ?_, fun still => ?_, fun state => ?_⟩
    · rcases driven with e | e | e | ⟨e, neg⟩
      · simp only [openOrder, show s.sequencer.state = _ from e, forces]
      · simp only [openOrder, show s.sequencer.state = _ from e, forces]
      · simp only [openOrder, show s.sequencer.state = _ from e, forces]
      · simp only [openOrder, show s.sequencer.state = _ from e, show s.sequencer.drive.neg = _ from neg, if_true, forces]
    · have run : openOrder cause s = faultIfFeedback cause (writeClose .forced none { s with sequencer.closePending := false }) := by
        simp only [openOrder, show s.sequencer.state = _ from state, show s.sequencer.closePending = _ from pending, if_true]
      rw [run, rests (writeClose .forced none { s with sequencer.closePending := false }) rfl]
      rfl
    · have run : openOrder cause s = faultIfFeedback cause s := by
        rcases still with ⟨e, f⟩ | ⟨e, f⟩ | e
        · simp only [openOrder, show s.sequencer.state = _ from e, show s.sequencer.closePending = _ from f, Bool.false_eq_true, if_false]
        · simp only [openOrder, show s.sequencer.state = _ from e, show s.sequencer.drive.neg = _ from f, Bool.false_eq_true, if_false]
        · simp only [openOrder, show s.sequencer.state = _ from e]
      rw [run, rests _ rfl]
    · simp only [openOrder, show s.sequencer.state = _ from state]

/-! ### Feedbacks, disagreement and silence (R97, R106, R114, R115) -/

/-- A number of expired disagreement timers, one of them known (R114, log 39). -/
theorem expiredDisagreements_eq (s : State) :
    expiredDisagreements s =
      (expired s s.sequencer.disagreePos).toNat + (expired s s.sequencer.disagreeNeg).toNat + (expired s s.sequencer.disagreePre).toNat := by
  unfold expiredDisagreements
  simp only [List.filter, disagreeTimer]
  cases expired s s.sequencer.disagreePos <;> cases expired s s.sequencer.disagreeNeg <;> cases expired s s.sequencer.disagreePre <;> rfl

theorem tripFeedback_eq {s u : State} (number : u.sweep.number = s.sweep.number) (tables : u.tables = s.tables)
    (profile : u.evaluator.profile = s.evaluator.profile) :
    tripFeedback u = raise .contactorFault (takeTrip (plainTrip .contactorFeedback s) u) := by
  rw [tripFeedback, plainTrip_congr _ number tables profile]

theorem tripSilence_eq {s u : State} (number : u.sweep.number = s.sweep.number) (tables : u.tables = s.tables)
    (profile : u.evaluator.profile = s.evaluator.profile) :
    tripSilence u = raise .controllerSilence (takeTrip (plainTrip .controllerSilence s) u) := by
  rw [tripSilence, plainTrip_congr _ number tables profile]

/-- One disagreement trip of the instant of `s`, taken in `u` (R114). -/
def feedbackTrip (s u : State) : State := raise .contactorFault (takeTrip (plainTrip .contactorFeedback s) u)

/-- Trips of one instant carry the same sweep number, generation and profile. -/
theorem repeat_tripFeedback (s : State) (n : Nat) {u : State} (number : u.sweep.number = s.sweep.number) (tables : u.tables = s.tables)
    (profile : u.evaluator.profile = s.evaluator.profile) :
    Nat.repeat tripFeedback n u = Nat.repeat (feedbackTrip s) n u ∧ (Nat.repeat tripFeedback n u).sweep.number = s.sweep.number ∧
      (Nat.repeat tripFeedback n u).tables = s.tables ∧ (Nat.repeat tripFeedback n u).evaluator.profile = s.evaluator.profile := by
  induction n with
  | zero => exact ⟨rfl, number, tables, profile⟩
  | succ n ih =>
    obtain ⟨same, number, tables, profile⟩ := ih
    have next : Nat.repeat tripFeedback (n + 1) u = feedbackTrip s (Nat.repeat tripFeedback n u) := tripFeedback_eq number tables profile
    refine ⟨by rw [next, same]; rfl, ?_, ?_, ?_⟩
    · rw [next]
      exact (takeTrip_number _ _).trans number
    · rw [next]
      simpa [feedbackTrip] using tables
    · rw [next]
      simpa [feedbackTrip] using profile

/-- Settles O39: the reading by the contactor state, the timers by how many expire at the instant. -/
theorem feedbacksAndGuards : Obligations.FeedbacksAndGuards := by
  intro c level s q reading u timer stopped trip disagreed ran others
  have past (timer : Option Nat) : expired s timer = true ↔ ran timer := expired_iff s timer
  have taken (active : s.power.power = .active) : exec (.feedbackDebounced c level) s = .next (feedbackEffect u) := by
    have read : s.sequencer.feedback.set c level = reading := by cases c <;> rfl
    refine (congrArg Host.Outcome.next (if_pos active)).trans ?_
    rw [takeReading, read]
  have state : u.sequencer.state = q.state := superviseFeedback_state _
  have drive : u.sequencer.drive = q.drive := superviseFeedback_drive _
  have feedback : u.sequencer.feedback = reading := superviseFeedback_feedback _
  refine ⟨fun asleep => congrArg Host.Outcome.next (if_neg asleep), fun active closing shut => ?_, fun active opening neg apart => ?_,
    fun active open' apart => ?_, fun late => ?_, fun early => ?_, fun late => ?_,
    fun early => congrArg Host.Outcome.next (if_neg (mt (past _).1 early)), fun limit => ?_⟩
  · have run : feedbackEffect u = reachClosed u := by
      simp only [feedbackEffect, state.trans closing, tryClosed, feedback, shut, if_true]
    rw [taken active, run, reachClosed_eq, drive]
    simp only [u, superviseFeedback_prechargeMs, superviseFeedback_sweep, q]
  · have run : feedbackEffect u = enterWeldCheck u := by
      simp only [feedbackEffect, state.trans opening]
      exact if_pos ⟨state.trans opening, by rw [drive, neg], feedback.trans apart⟩
    rw [taken active, run, enterWeldCheck_of_same (s := s) (u := u) (superviseFeedback_now _) (superviseFeedback_tables _)]
  · have run : feedbackEffect u = u := by
      unfold feedbackEffect
      cases e : u.sequencer.state with
      | closing => exact if_neg fun shut => open' ⟨state.symm.trans e, by rwa [feedback] at shut⟩
      | opening => exact if_neg fun h => apart ⟨state.symm.trans e, by rw [← drive]; exact h.2.1, feedback.symm.trans h.2.2⟩
      | opened | precharging | closed | weldCheck | faulted => rfl
    rw [taken active, run]
  · have run : exec (.disagreementTimerExpiry c) s =
        .next (arbitrate (Nat.repeat (feedbackTrip s) (expiredDisagreements s) stopped)) := by
      have its : expired s (disagreeTimer s c) = true := by cases c <;> exact (past _).2 late
      have stops : stopDisagree c s = stopped := by cases c <;> rfl
      have repeats := (repeat_tripFeedback s (expiredDisagreements s) (u := stopped) (by cases c <;> rfl) (by cases c <;> rfl)
        (by cases c <;> rfl)).1
      refine (congrArg Host.Outcome.next (if_pos its)).trans ?_
      rw [disagreeTimedOut, stops, repeats]
    obtain ⟨a, b, pair, count⟩ :
        ∃ a b, others = [a, b] ∧ expiredDisagreements s = 1 + (expired s a).toNat + (expired s b).toNat := by
      have its := (past _).2 late
      rw [expiredDisagreements_eq]
      cases c with
      | pos => exact ⟨q.disagreeNeg, q.disagreePre, rfl, by rw [show expired s s.sequencer.disagreePos = true from its]; rfl⟩
      | neg =>
        exact ⟨q.disagreePos, q.disagreePre, rfl, by
          rw [show expired s s.sequencer.disagreeNeg = true from its, Nat.add_comm (expired s s.sequencer.disagreePos).toNat]
          rfl⟩
      | pre =>
        exact ⟨q.disagreePos, q.disagreeNeg, rfl, by
          rw [show expired s s.sequencer.disagreePre = true from its, Nat.add_comm, ← Nat.add_assoc]
          rfl⟩
    have quiet (timer : Option Nat) (h : ¬ ran timer) : expired s timer = false := Bool.not_eq_true _ |>.mp (mt (past timer).1 h)
    rw [run, pair, count]
    simp only [List.mem_cons, List.not_mem_nil, or_false, forall_eq_or_imp, forall_eq, exists_eq_or_imp, exists_eq_left]
    refine ⟨fun ⟨ha, hb⟩ => ?_, fun some other => ?_, fun ⟨ha, hb⟩ => ?_⟩
    · rw [quiet a ha, quiet b hb]
      rfl
    · rcases some with ha | hb
      · have hb := other.resolve_left (not_not_intro ha)
        rw [(past a).2 ha, quiet b hb]
        rfl
      · have ha := other.resolve_right (not_not_intro hb)
        rw [quiet a ha, (past b).2 hb]
        rfl
    · rw [(past a).2 ha, (past b).2 hb]
      rfl
  · have its : ¬ expired s (disagreeTimer s c) = true := by cases c <;> exact mt (past _).1 early
    exact congrArg Host.Outcome.next (if_neg its)
  · refine (congrArg Host.Outcome.next (if_pos ((past _).2 late))).trans ?_
    rw [silenceTimedOut, tripSilence_eq (s := s) (u := { s with sequencer.silenceTimer := none }) rfl rfl rfl]
    rfl
  · refine congrArg Host.Outcome.next (if_neg ?_)
    have positive : 0 < (live s).contactor.silenceLimit.toNat :=
      Nat.pos_of_ne_zero fun zero => limit (BitVec.eq_of_toNat_eq zero)
    have now : (acceptFrame s).now = s.now := rfl
    rw [expired_iff, now]
    rintro ⟨t, timer, due⟩
    simp only [acceptFrame, after, ms] at timer
    split at timer
    · cases timer
      omega
    · cases timer

end Sys2Proof.Machine
end

section
/-! A trip is taken (O33). -/

namespace Sys2Proof.Machine

theorem responseTo_hard_iff (img : Image) (cause : TripCause) :
    responseTo img cause = .hard ↔
      cause = .limitFloor ∨ cause = .contactorFeedback ∨ cause = .weld ∨ cause = .controllerSilence ∨
        cause = .limitProfile ∧ img.contactor.responseMap.getLsbD 0 = true ∨
        cause = .monitorLost ∧ img.contactor.responseMap.getLsbD 1 = true := by
  cases cause <;> simp [responseTo]

/-- The protection unit after a trip (R78, R87). -/
def protectionOf (t : Trip) (s : State) : ProtectionUnit where
  state := protectionAfter s.protection.state (responseTo (live s) t.cause)
  record := some (recordTrip s.protection.record t (responseTo (live s) t.cause) s.power.power)

theorem takeTrip_of_hard {t : Trip} {s : State} (hard : responseTo (live s) t.cause = .hard) :
    takeTrip t s = openOrder t.cause { s with protection := protectionOf t s } := by
  simp only [takeTrip, hard, if_true, protectionOf]

theorem takeTrip_of_soft {t : Trip} {s : State} (soft : responseTo (live s) t.cause ≠ .hard) :
    takeTrip t s = { s with protection := protectionOf t s } := by
  simp only [takeTrip, if_neg soft, protectionOf]

theorem takeTrip_protection (t : Trip) (s : State) : (takeTrip t s).protection = protectionOf t s := by
  by_cases hard : responseTo (live s) t.cause = .hard
  · rw [takeTrip_of_hard hard, openOrder_protection]
  · rw [takeTrip_of_soft hard]

/-! ### The outputs after the open order (R84, R116) -/

theorem faultIfFeedback_drive (cause : TripCause) (s : State) : (faultIfFeedback cause s).sequencer.drive = s.sequencer.drive := by
  unfold faultIfFeedback writeOpen
  split
  · split <;> simp [enterFaulted]
  · rfl

@[simp] theorem forcedOpening_drive (cause : TripCause) (s : State) : (forcedOpening cause s).sequencer.drive = allOpen := by
  have entered : (forcedState cause s).sequencer.drive = allOpen := by
    unfold forcedState
    split <;> simp [releasedOutputs]
  unfold forcedOpening
  dsimp only
  split <;> simp [entered]

theorem forceOpen_drive (cause : TripCause) (s : State) : (forceOpen cause s).sequencer.drive = allOpen := by
  rw [forceOpen_eq]
  unfold writeOpen
  split
  · split <;> simp
  · simp

/-- After the open order every output is open, where the drives fitted the contactor state (R84, R96). -/
theorem openOrder_drive {cause : TripCause} {s : State} (fit : drivesFit s.sequencer = true) :
    (openOrder cause s).sequencer.drive = allOpen := by
  unfold drivesFit at fit
  unfold openOrder
  cases state : s.sequencer.state <;> simp only [state, beq_iff_eq, Bool.and_eq_true, Bool.not_eq_true'] at fit ⊢
  case opened =>
    rw [faultIfFeedback_drive]
    split <;> exact fit
  case precharging | closing | closed => exact forceOpen_drive cause s
  case opening =>
    split
    · exact forceOpen_drive cause s
    · next neg =>
      rw [faultIfFeedback_drive]
      obtain ⟨pos, pre⟩ := fit
      have off : s.sequencer.drive.neg = false := Bool.not_eq_true _ |>.mp neg
      calc s.sequencer.drive = ⟨s.sequencer.drive.pos, s.sequencer.drive.neg, s.sequencer.drive.pre⟩ := rfl
        _ = allOpen := by rw [pos, off, pre]; rfl
  case weldCheck =>
    rw [faultIfFeedback_drive]
    exact fit
  case faulted => exact fit

theorem faultIfFeedback_state (s : State) : (faultIfFeedback .contactorFeedback s).sequencer.state = .faulted := by
  simp only [faultIfFeedback, if_true, writeOpen]
  split <;> simp [enterFaulted]

theorem forcedOpening_state (cause : TripCause) (s : State) :
    (forcedOpening cause s).sequencer.state = if cause = .contactorFeedback then .faulted else .weldCheck := by
  have entered : (forcedState cause s).sequencer.state = if cause = .contactorFeedback then .faulted else .weldCheck := by
    unfold forcedState
    split <;> simp
  unfold forcedOpening
  dsimp only
  rw [captureEvent_sequencer, ← entered]
  split <;> simp

theorem forceOpen_feedback_state (s : State) : (forceOpen .contactorFeedback s).sequencer.state = .faulted := by
  rw [forceOpen_eq, if_pos rfl, writeOpen]
  split <;> simp [forcedOpening_state]

/-- CONTACTOR_FEEDBACK leads to FAULTED from every contactor state (R116). -/
theorem openOrder_feedback_state (s : State) : (openOrder .contactorFeedback s).sequencer.state = .faulted := by
  unfold openOrder
  split
  · exact faultIfFeedback_state _
  · exact forceOpen_feedback_state s
  · exact forceOpen_feedback_state s
  · exact forceOpen_feedback_state s
  · split
    · exact forceOpen_feedback_state s
    · exact faultIfFeedback_state s
  · exact faultIfFeedback_state s
  · assumption

/-! ### Timers that the order stops (R83, log 41) -/

theorem stoppedExpired_iff (s : State) (before after : Option Nat) :
    stoppedExpired s before after = true ↔ (∃ i, before = some i ∧ i ≤ s.now) ∧ after = none := by
  rw [stoppedExpired, Bool.and_eq_true, expired_iff, Option.isNone_iff_eq_none]

theorem prechargeStopped_iff (was s : State) :
    prechargeStopped was s = true ↔
      was.sequencer.state = .precharging ∧ (∃ i, was.sequencer.prechargeTimer = some i ∧ i ≤ was.now) ∧
        s.sequencer.prechargeTimer = none := by
  rw [prechargeStopped, Bool.and_eq_true, decide_eq_true_eq, stoppedExpired_iff]

theorem disagreementStopped_iff (was s : State) :
    disagreementStopped was s = true ↔
      ((∃ i, was.sequencer.disagreePos = some i ∧ i ≤ was.now) ∧ s.sequencer.disagreePos = none) ∨
        ((∃ i, was.sequencer.disagreeNeg = some i ∧ i ≤ was.now) ∧ s.sequencer.disagreeNeg = none) ∨
        ((∃ i, was.sequencer.disagreePre = some i ∧ i ≤ was.now) ∧ s.sequencer.disagreePre = none) := by
  simp only [disagreementStopped, List.any_cons, List.any_nil, Bool.or_false, Bool.or_eq_true, stoppedExpired_iff, disagreeTimer]

theorem silenceStopped_iff (was s : State) :
    silenceStopped was s = true ↔
      (∃ i, was.sequencer.silenceTimer = some i ∧ i ≤ was.now) ∧ s.sequencer.silenceTimer = none := stoppedExpired_iff _ _ _

/-- A forced opening without a feedback's fault leaves no running silence timer, and WELD_CHECK (R116). -/
theorem forcedOpening_silenceTimer (cause : TripCause) (s : State) : (forcedOpening cause s).sequencer.silenceTimer = none := by
  have entered : (forcedState cause s).sequencer.silenceTimer = none := by
    unfold forcedState
    split <;> simp [superviseFeedback_eq, releasedOutputs]
  unfold forcedOpening
  dsimp only
  rw [captureEvent_sequencer, ← entered]
  split <;> simp

/-- In WELD_CHECK a HARD trip of another cause than CONTACTOR_FEEDBACK finds nothing to open (R116). -/
theorem takeTrip_in_weldCheck {t : Trip} {s : State} (hard : responseTo (live s) t.cause = .hard) (other : t.cause ≠ .contactorFeedback)
    (state : s.sequencer.state = .weldCheck) : takeTrip t s = { s with protection := protectionOf t s } := by
  rw [takeTrip_of_hard hard]
  simp only [openOrder, state, faultIfFeedback, if_neg other]

/-- From CLOSED a HARD trip of another cause than CONTACTOR_FEEDBACK forces the opening (R116). -/
theorem takeTrip_in_closed {t : Trip} {s : State} (hard : responseTo (live s) t.cause = .hard) (other : t.cause ≠ .contactorFeedback)
    (state : s.sequencer.state = .closed) :
    (takeTrip t s).sequencer.state = .weldCheck ∧ (takeTrip t s).sequencer.silenceTimer = none := by
  have run : takeTrip t s = forcedOpening t.cause { s with protection := protectionOf t s } := by
    rw [takeTrip_of_hard hard]
    simp only [openOrder, state]
    rw [forceOpen_eq, if_neg other]
  rw [run, forcedOpening_state, if_neg other, forcedOpening_silenceTimer]
  exact ⟨rfl, rfl⟩

theorem expired_eq_any (s : State) (timer : Option Nat) : expired s timer = timer.any fun i => decide (i ≤ s.now) := by
  cases timer <;> rfl

/-- The disagreement timers that expire at this instant, counted by their instants (R114). -/
theorem expiredDisagreements_eq_length (s : State) :
    expiredDisagreements s =
      ([s.sequencer.disagreePos, s.sequencer.disagreeNeg, s.sequencer.disagreePre].filter
        fun timer => timer.any fun i => decide (i ≤ s.now)).length := by
  have timers : [s.sequencer.disagreePos, s.sequencer.disagreeNeg, s.sequencer.disagreePre] =
      [Contactor.pos, .neg, .pre].map (disagreeTimer s) := rfl
  rw [timers, List.filter_map, List.length_map, expiredDisagreements]
  simp only [Function.comp_def, expired_eq_any]

/-- A trip of another block when no order of it stops a timer at its instant. -/
theorem takeOutsideTrip_of_none {t : Trip} {s : State} (precharge : ¬ prechargeStopped s (takeTrip t s) = true)
    (disagreement : ¬ disagreementStopped s (takeTrip t s) = true) (silence : ¬ silenceStopped s (takeTrip t s) = true) :
    takeOutsideTrip t s = takeTrip t s :=
  (if_neg precharge).trans ((if_neg disagreement).trans (if_neg silence))

theorem recordTrip_later {old : Option TripRecord} (t t' : Trip) (p p' : Power) :
    ((recordTrip (some (recordTrip old t .hard p)) t' .hard p').level = .hard) ∧
      (recordTrip (some (recordTrip old t .hard p)) t' .hard p').laterCount =
        match old with
        | none => 1
        | some o => min 255 (min 255 (o.laterCount + 1) + 1) := by
  cases old <;> exact ⟨rfl, rfl⟩

/-- A HARD trip after the silence expiry of the same instant (R83): it finds WELD_CHECK, and stops no timer. -/
theorem takeOutsideTrip_after_silence {t : Trip} {s w : State} (hard : responseTo (live s) t.cause = .hard)
    (other : t.cause ≠ .contactorFeedback) (closed : s.sequencer.state = .closed)
    (expired : w = arbitrate (tripSilence { s with sequencer.silenceTimer := none })) :
    (takeOutsideTrip t w).protection = protectionOf t w ∧
      w.protection = protectionOf (plainTrip .controllerSilence s) { s with sequencer.silenceTimer := none } := by
  have weld : w.sequencer.state = .weldCheck := by
    rw [expired, arbitrate_sequencer]
    exact (takeTrip_in_closed (t := plainTrip .controllerSilence s) (s := { s with sequencer.silenceTimer := none }) rfl
      (by simp [plainTrip]) closed).1
  have image : live w = live s := by
    rw [expired]
    simp [live, tripSilence]
  have taken : takeTrip t w = { w with protection := protectionOf t w } := takeTrip_in_weldCheck (image ▸ hard) other weld
  have alone : takeOutsideTrip t w = takeTrip t w := by
    apply takeOutsideTrip_of_none
    · rw [prechargeStopped_iff, weld]
      rintro ⟨e, -⟩
      cases e
    · rw [disagreementStopped_iff, taken]
      rintro (⟨⟨i, runs, -⟩, stops⟩ | ⟨⟨i, runs, -⟩, stops⟩ | ⟨⟨i, runs, -⟩, stops⟩) <;> exact absurd (runs.symm.trans stops) (by simp)
    · rw [silenceStopped_iff, taken]
      rintro ⟨⟨i, runs, -⟩, stops⟩
      exact absurd (runs.symm.trans stops) (by simp)
  refine ⟨by rw [alone, takeTrip_protection], ?_⟩
  rw [expired, arbitrate_protection, tripSilence, raise_protection, takeTrip_protection]
  rfl

/-- Settles O33: the record and the response, then the timer's own trip, then the two orders of a HARD trip and a silence expiry. -/
theorem tripIsTaken : Obligations.TripIsTaken := by
  intro t s hard r record u
  have response : responseTo (live s) t.cause = r := by
    by_cases h : hard
    · exact ((responseTo_hard_iff _ _).2 h).trans (if_pos h).symm
    · have soft : responseTo (live s) t.cause ≠ .hard := mt (responseTo_hard_iff _ _).1 h
      refine Eq.trans ?_ (if_neg h).symm
      cases e : responseTo (live s) t.cause with
      | hard => exact absurd e soft
      | soft => rfl
  have hardened : responseTo (live s) t.cause = .hard ↔ hard := responseTo_hard_iff _ _
  have recorded : recordTrip s.protection.record t (responseTo (live s) t.cause) s.power.power = record := by
    rw [response]
    simp only [record, recordTrip]
    cases s.protection.record with
    | none => rfl
    | some o => by_cases h : hard <;> simp [r, h]
  refine ⟨fun soft => ?_, fun h => ?_, ?_⟩
  · have mild : responseTo (live s) t.cause = .soft := response.trans (if_neg soft)
    have run : u = { s with protection := protectionOf t s } := takeTrip_of_soft (by rw [mild]; decide)
    rw [run, protectionOf, recorded, mild]
    cases s.protection.state <;> rfl
  · have firm : responseTo (live s) t.cause = .hard := hardened.2 h
    have run : u = openOrder t.cause { s with protection := protectionOf t s } := takeTrip_of_hard firm
    refine ⟨?_, fun fit => ?_, fun cause => ?_, ?_⟩
    · have after : u.protection = protectionOf t s := takeTrip_protection t s
      rw [after, protectionOf, recorded, firm]
      rfl
    · rw [run]
      exact openOrder_drive (s := { s with protection := protectionOf t s }) fit
    · rw [run, cause]
      exact openOrder_feedback_state _
    · simp [u]
  · intro q o v ran stopped own feedback precharge disagreement silence expiring
    have number : u.sweep.number = s.sweep.number := takeTrip_number t s
    have tables : u.tables = s.tables := takeTrip_tables t s
    have profile : u.evaluator.profile = s.evaluator.profile := congrArg Evaluator.profile (takeTrip_evaluator t s)
    have first : prechargeStopped s u = true ↔ precharge := prechargeStopped_iff s u
    have second : disagreementStopped s u = true ↔ disagreement := disagreementStopped_iff s u
    have third : silenceStopped s u = true ↔ silence := silenceStopped_iff s u
    refine ⟨fun h => ?_, fun no h => ?_, fun no no' h => ?_, fun no no' no'' => ?_, fun w h other closed late calm expires => ?_⟩
    · exact (if_pos (first.2 h)).trans (tripPrecharge_eq number tables profile)
    · have run : v = Nat.repeat (feedbackTrip s) expiring u := by
        have count : expiredDisagreements s = expiring := expiredDisagreements_eq_length s
        rw [← count, ← (repeat_tripFeedback s (expiredDisagreements s) number tables profile).1]
        exact (if_neg (mt first.1 no)).trans (if_pos (second.2 h))
      rw [run]
      exact ⟨fun n => by rw [n]; rfl, fun n => by rw [n]; rfl, fun n => by rw [n]; rfl⟩
    · exact (if_neg (mt first.1 no)).trans ((if_neg (mt second.1 no')).trans
        ((if_pos (third.2 h)).trans (tripSilence_eq number tables profile)))
    · exact takeOutsideTrip_of_none (mt first.1 no) (mt second.1 no') (mt third.1 no'')
    · intro x
      have firm : responseTo (live s) t.cause = .hard := hardened.2 h
      obtain ⟨weld, stops⟩ := takeTrip_in_closed firm other closed
      have apart : ¬ precharge := fun p => absurd (closed.symm.trans p.1) (by decide)
      have silenced : v = raise .controllerSilence { u with protection := protectionOf (plainTrip .controllerSilence s) u } := by
        rw [← takeTrip_in_weldCheck (t := plainTrip .controllerSilence s) rfl (by simp [plainTrip]) weld,
          ← tripSilence_eq number tables profile]
        exact (if_neg (mt first.1 apart)).trans ((if_neg (mt second.1 calm)).trans (if_pos (third.2 ⟨late, stops⟩)))
      have expired : w = arbitrate (tripSilence { s with sequencer.silenceTimer := none }) := by
        have run : exec .silenceTimerExpiry s = .next (silenceTimedOut s) :=
          congrArg Host.Outcome.next (if_pos ((expired_iff _ _).2 late))
        exact (Host.Outcome.next.inj (run.symm.trans expires)).symm
      obtain ⟨outside, before⟩ := takeOutsideTrip_after_silence firm other closed expired
      have image : live w = live s := by
        rw [expired]
        simp [live, tripSilence]
      have here : v.protection = protectionOf (plainTrip .controllerSilence s) u := congrArg State.protection silenced
      have mine : u.protection = protectionOf t s := takeTrip_protection t s
      have ours : responseTo (live u) (plainTrip .controllerSilence s).cause = .hard := rfl
      have theirs : responseTo (live w) t.cause = .hard := image ▸ firm
      have vRecord : v.protection.record = some (recordTrip (some (recordTrip s.protection.record t .hard s.power.power))
          (plainTrip .controllerSilence s) .hard u.power.power) := by
        rw [here, protectionOf, ours, mine, protectionOf, firm]
      have xRecord : x.protection.record = some (recordTrip
          (some (recordTrip s.protection.record (plainTrip .controllerSilence s) .hard s.power.power)) t .hard w.power.power) := by
        rw [show x.protection = protectionOf t w from outside, protectionOf, theirs, before]
        rfl
      refine ⟨congrArg Host.Outcome.next (if_neg ?_), ?_, ?_, ?_⟩
      · have idle : v.sequencer.silenceTimer = none := by
          rw [silenced]
          exact stops
        rw [idle]
        exact Bool.false_ne_true
      · rw [here, show x.protection = protectionOf t w from outside, protectionOf, ours, protectionOf, theirs]
        rfl
      · rw [vRecord, xRecord]
        simp only [Option.map_some, (recordTrip_later _ _ _ _).1]
      · rw [vRecord, xRecord]
        simp only [Option.map_some, (recordTrip_later _ _ _ _).2]

end Sys2Proof.Machine
end

section
/-! The Capture Unit's runs and pops (O41, O42). -/

namespace Sys2Proof.Machine

/-! ### Runs and steps (R123 to R126, R133) -/

/-- A run that has just been pushed: its step 0 is DUE (R125, R126). -/
theorem pushContext_eq (p : Program) (load late : Bool) (s : State) :
    pushContext p load late s =
      { s with
        capture.stack :=
          { program := p, id := s.capture.nextId, count := (programField (live s) p).count.toNat
            interval := (programField (live s) p).interval.toNat, nextStep := 1
            ticksRemaining := if 1 < (programField (live s) p).count.toNat then (programField (live s) p).interval.toNat else 0
            step := .due, waiting := false, started := s.sweep.ticks, late := late, underLoad := load, ended := false, flightStep := 0
            flightOffset := 0, leaving := false } :: s.capture.stack
        capture.nextId := s.capture.nextId + 1
        capture.buffer := s.capture.buffer.filter fun r => r.id != s.capture.nextId } := rfl

/-- A step of the top run falls due, after the one given up (R126, R129). -/
theorem stepFallsDue_eq {s : State} {c : Context} {rest : List Context} (stack : s.capture.stack = c :: rest) :
    stepFallsDue s =
      { (if c.step = .due ∨ c.waiting = true then writeCapture (missedRecord c (c.nextStep - 1) (offsetOf c s)) s else s) with
        capture.stack :=
          { c with
            waiting := c.step == .inFlight
            step := if c.step = .inFlight then .inFlight else .due
            nextStep := c.nextStep + 1
            ticksRemaining := if c.nextStep + 1 < c.count then c.interval else 0 } :: rest } := by
  simp only [stepFallsDue, stack]
  rfl

theorem popTop_eq {s : State} {c : Context} {rest : List Context} (stack : s.capture.stack = c :: rest) :
    popTop s = servePop (rest.length + 1) { s with capture.stack := rest } := by
  simp only [popTop, stack, List.tail_cons]

/-- Settles O41: the event by the count and the stack, the step by what it finds, the leaving by its conditions. -/
theorem captureRunsAndSteps : Obligations.CaptureRunsAndSteps := by
  refine ⟨fun p load s => ?_, fun s => ⟨fun empty => ?_, fun c rest stack => ?_⟩⟩
  · intro f
    refine ⟨fun none => if_pos none, fun some room => ?_, fun some full => ?_⟩
    · exact (if_neg some).trans ((if_pos room).trans (pushContext_eq p load false s))
    · refine (if_neg some).trans ((if_neg (by omega)).trans ?_)
      cases mark : s.capture.pendingSet.get p with
      | none => simp
      | some m => simp [Bool.or_comm]
  · constructor
    · exact congrArg Host.Outcome.next (if_neg (by simp [stepDueNow, empty]))
    · exact congrArg Host.Outcome.next (if_neg (by simp [leavesNow, empty]))
  · intro due next missed room
    have falls : stepDueNow s = true ↔ due := by simp [stepDueNow, stack, due, and_assoc]
    have leaves : leavesNow s = true ↔ c.ended = true ∧ c.step ≠ .inFlight ∧ (c.ticksRemaining = 0 ∨ c.leaving = true) := by
      simp [leavesNow, stack, and_assoc]
    have run (h : due) : exec .captureStepDue s = .next (arbitrate (stepFallsDue s)) := congrArg Host.Outcome.next (if_pos (falls.2 h))
    refine ⟨fun h => congrArg Host.Outcome.next (if_neg (mt falls.1 h)), fun h fresh still => ?_, fun h late => ?_,
      fun ended landed out => ?_, fun h => congrArg Host.Outcome.next (if_neg (mt leaves.1 h))⟩
    · have keeps : ¬ (c.step = .due ∨ c.waiting = true) := by simp [fresh, still]
      rw [run h, stepFallsDue_eq stack, if_neg keeps]
    · rw [run h, stepFallsDue_eq stack, if_pos late]
      rfl
    · refine (congrArg Host.Outcome.next (if_pos (leaves.2 ⟨ended, landed, out⟩))).trans ?_
      rw [popTop_eq stack]

/-! ### Pops (R132, R133) -/

theorem put_none_of_none {set : PendingSet} {q : Program} (h : set.get q = none) : set.put q none = set := by
  cases set
  cases q <;> cases h <;> rfl

/-- An absent program, or one of count 0, is dropped (R132). -/
theorem servePending_drop {q : Program} {s : State} (dropped : s.capture.pendingSet.get q ≠ none → (programField (live s) q).count = 0)
    (rest : List Program) :
    servePending (q :: rest) s = servePending rest { s with capture.pendingSet := s.capture.pendingSet.put q none } := by
  cases entry : s.capture.pendingSet.get q with
  | none =>
    rw [put_none_of_none entry]
    simp only [servePending, entry]
  | some load =>
    have zero := dropped (by simp [entry])
    simp only [servePending, entry]
    exact if_pos zero

/-- The first program that is there with a count is pushed LATE and leaves the set (R132). -/
theorem servePending_push {q : Program} {s : State} {load : Bool} (entry : s.capture.pendingSet.get q = some load)
    (count : (programField (live s) q).count ≠ 0) (rest : List Program) :
    servePending (q :: rest) s =
      (true, pushContext q load true { s with capture.pendingSet := s.capture.pendingSet.put q none }) := by
  simp only [servePending, entry]
  exact if_neg count

/-- The pending set without the programs of a list. -/
def withoutPending (set : PendingSet) (qs : List Program) : PendingSet := qs.foldl (fun set q => set.put q none) set

theorem withoutPending_get (set : PendingSet) (qs : List Program) (q : Program) :
    (withoutPending set qs).get q = if q ∈ qs then none else set.get q := by
  induction qs generalizing set with
  | nil => simp [withoutPending]
  | cons r qs ih =>
    have next : withoutPending set (r :: qs) = withoutPending (set.put r none) qs := rfl
    rw [next, ih, pendingSet_get_put]
    by_cases inside : q ∈ qs <;> by_cases same : q = r <;> simp [inside, same]

/-- Programs that are absent or of count 0 are dropped one after another (R132). -/
theorem servePending_append {before : List Program} (rest : List Program) (s : State)
    (dropped : ∀ q ∈ before, s.capture.pendingSet.get q ≠ none → (programField (live s) q).count = 0) :
    servePending (before ++ rest) s =
      servePending rest { s with capture.pendingSet := withoutPending s.capture.pendingSet before } := by
  induction before generalizing s with
  | nil => rfl
  | cons b before ih =>
    rw [List.cons_append, servePending_drop (dropped b List.mem_cons_self), ih]
    · rfl
    · intro q hq present
      refine dropped q (List.mem_cons_of_mem b hq) fun absent => present ?_
      show (s.capture.pendingSet.put b none).get q = none
      rw [pendingSet_get_put, absent, ite_self]

theorem prechargingLeft_eq (s : State) :
    prechargingLeft s =
      let marked : State := { s with capture.stack := s.capture.stack.map endContext, capture.pendingSet.precharge := none }
      if leavesNow marked then popTop marked else marked := rfl

/-- Settles O42: the pending set in its order, the pop by what it uncovers, and the end of the PRECHARGE runs. -/
theorem popsServeThePendingSet : Obligations.PopsServeThePendingSet := by
  refine ⟨fun s before behind p load order dropped entry count => ?_, fun s dropped => ?_, fun n s t => ⟨fun served => ?_, fun unserved => ?_⟩,
    fun s => ?_⟩
  · intro f
    have absent : p ∉ before := fun inside => count (dropped p inside (by simp [entry]))
    have kept : (withoutPending s.capture.pendingSet before).get p = some load := by rw [withoutPending_get, if_neg absent, entry]
    rw [← order, servePending_append _ s dropped,
      servePending_push (s := { s with capture.pendingSet := withoutPending s.capture.pendingSet before }) kept count, pushContext_eq,
      List.foldl_append]
    rfl
  · have served := servePending_append [] s (before := [.trip, .opening, .close, .precharge]) fun q _ => dropped q
    rw [List.append_nil] at served
    rw [served]
    rfl
  · have run : servePending pendingOrder s = (true, t) := served
    simp only [servePop, run]
  · have run : servePending pendingOrder s = (false, t) := unserved
    refine ⟨fun empty => by simp only [servePop, run, empty], fun c rest stack => ⟨fun alive => ?_, fun ended flying => ?_, fun ended landed => ?_⟩⟩
    · simp only [servePop, run, stack, alive, Bool.not_false, if_true]
    · simp only [servePop, run, stack, ended, Bool.not_true, Bool.false_eq_true, if_false, flying, if_true]
    · simp only [servePop, run, stack, ended, Bool.not_true, Bool.false_eq_true, if_false, landed]
  · intro ended marked
    have same : endContext = ended := by
      funext c
      cases program : c.program <;> cases step : c.step <;> simp [endContext, ended, program, step]
    rw [prechargingLeft_eq, same]
    refine ⟨fun empty => if_neg (by simp [leavesNow, empty]), fun c rest stack => ?_⟩
    intro leaves
    have top : marked.capture.stack = ended c :: rest.map ended := by simp only [marked, stack, List.map_cons]
    have goes : leavesNow marked = true ↔ leaves := by
      have step : (ended c).step ≠ .inFlight ↔ c.step ≠ .inFlight := by
        cases program : c.program <;> cases step : c.step <;> simp [ended, program, step]
      have ticks : (ended c).ticksRemaining = c.ticksRemaining := by cases program : c.program <;> simp [ended, program]
      have leaving : (ended c).leaving = c.leaving := by cases program : c.program <;> simp [ended, program]
      simp only [leavesNow, top, Bool.and_eq_true, Bool.or_eq_true, beq_iff_eq, bne_iff_ne, step, ticks, leaving, leaves, and_assoc]
    refine ⟨fun h => (if_pos (goes.2 h)).trans ?_, fun h => if_neg (mt goes.1 h)⟩
    rw [popTop_eq top, List.length_map]

end Sys2Proof.Machine
end

section
/-! READ-CAPTURE and READ-TABLE (O43). -/

namespace Sys2Proof.Machine

/-! ### READ-CAPTURE (R136, R209) -/

theorem captureParam_eq (a b n : Byte) (rest : List Byte) : captureParam (a :: b :: n :: rest) = some (a ++ b, n.toNat) := rfl

theorem captureParam_short {p : List Byte} (h : p.length < 3) : captureParam p = none := by
  have missing : byteAt? p 2 = none := by simp [byteAt?]; omega
  unfold captureParam
  rw [missing]
  cases halfAt? p 0 <;> rfl

theorem captureReturned_eq (held : List CaptureRecord) :
    captureReturned held =
      match held with
      | r :: next :: _ => if next.step = r.step + 1 then [r, next] else [r]
      | _ => held := by
  match held with
  | [] => rfl
  | [_] => rfl
  | _ :: _ :: _ => rfl

theorem readCapture_of_range {p : List Byte} {id : Half} {first : Nat} {s : State} (param : captureParam p = some (id, first))
    (small : first ≤ 31) :
    cmdReadCapture p s =
      (.done (halfBytes id ++ [runByte id (captureReturned (captureFrom s id first)) s,
          stepByte (captureReturned (captureFrom s id first))] ++
            ((captureReturned (captureFrom s id first)).map captureBytes).flatten)
        (decide ((captureReturned (captureFrom s id first)).length < (captureFrom s id first).length)), s) := by
  rw [cmdReadCapture, param]
  exact if_neg (by omega)

/-- Program code and marks as they stand in the run byte (10.3). -/
theorem programBits (p : Program) :
    p.code <<< 2 = (match p with | .precharge => (0 : Byte) | .close => 4 | .opening => 8 | .trip => 12) := by
  cases p <;> decide

theorem bitAt_eq (b : Bool) (i : Nat) : bitAt b i = if b then byteOf (2 ^ i) else 0 := rfl

/-- The run and step bytes of a reply, by the records it returns (10.3). -/
theorem runAndStep_eq (id : Half) (records : List CaptureRecord) (s : State) :
    [runByte id records s, stepByte records] =
      match records with
      | [] => [standing id s, 0]
      | r :: _ =>
        [standing id s ||| (match r.program with | .precharge => (0 : Byte) | .close => 4 | .opening => 8 | .trip => 12) |||
            (if r.late then 0x10 else 0) ||| (if r.underLoad then 0x20 else 0), byteOf (r.step + 32 * records.length)] := by
  cases records with
  | nil => rfl
  | cons r rest =>
    show [standing id s ||| r.program.code <<< 2 ||| bitAt r.late 4 ||| bitAt r.underLoad 5, _] = _
    rw [programBits]
    rfl

/-! ### READ-TABLE (R184, R209) -/

theorem tableOfCode_code (t : Table) : tableOfCode (byteOf t.code) = some t := by
  cases t <;> rfl

theorem tableOfCode_above {b : Byte} (h : 7 < b.toNat) : tableOfCode b = none :=
  List.getElem?_eq_none h

theorem tableParam_short {p : List Byte} (h : p.length < 6) : tableParam p = none := by
  have missing : byteAt? p 5 = none := by simp [byteAt?]; omega
  unfold tableParam
  rw [missing]
  split
  · contradiction
  · rfl

theorem tableParam_unknown {b : Byte} (h : 7 < b.toNat) (rest : List Byte) : tableParam (b :: rest) = none := by
  have unknown : (byteAt? (b :: rest) 0).bind tableOfCode = none := tableOfCode_above h
  rw [tableParam, unknown]

theorem tableParam_eq (t : Table) (page source a b n : Byte) (rest : List Byte) :
    tableParam (byteOf t.code :: page :: source :: a :: b :: n :: rest) =
      if source = 0 then some (t, page.toNat, false, a.toNat * 256 + b.toNat, n.toNat)
      else if source = 1 then some (t, page.toNat, true, a.toNat * 256 + b.toNat, n.toNat)
      else none := by
  have table : (byteAt? (byteOf t.code :: page :: source :: a :: b :: n :: rest) 0).bind tableOfCode = some t :=
    tableOfCode_code t
  have first : halfAt? (byteOf t.code :: page :: source :: a :: b :: n :: rest) 3 = some (a ++ b) := rfl
  rw [tableParam, table, first, ← append_toNat]
  rfl

theorem tableInRange_iff (t : Table) (page first count : Nat) :
    tableInRange t page first count = true ↔
      0 < count ∧ (t = .limits → page ≤ 4 ∧ first < 16) ∧ (t ≠ .limits → first < t.size) := by
  unfold tableInRange
  split <;> simp [*]

/-- The entries that fit are the longest leading part within the room. -/
theorem fitEntries_eq_take (room : Nat) (entries : List (List Byte)) :
    ∃ k, k ≤ entries.length ∧ fitEntries room entries = entries.take k ∧ (entries.take k).flatten.length ≤ room ∧
      (k < entries.length → room < (entries.take (k + 1)).flatten.length) := by
  induction entries generalizing room with
  | nil => exact ⟨0, Nat.le_refl _, rfl, Nat.zero_le _, fun h => absurd h (Nat.lt_irrefl _)⟩
  | cons e es ih =>
    by_cases fits : e.length ≤ room
    · obtain ⟨k, le, same, within, most⟩ := ih (room - e.length)
      refine ⟨k + 1, Nat.succ_le_succ le, ?_, ?_, fun more => ?_⟩
      · rw [fitEntries, if_pos fits, same, List.take_succ_cons]
      · rw [List.take_succ_cons, List.flatten_cons, List.length_append]
        omega
      · have := most (Nat.lt_of_succ_lt_succ more)
        rw [List.take_succ_cons, List.flatten_cons, List.length_append]
        omega
    · refine ⟨0, Nat.zero_le _, if_neg fits, Nat.zero_le _, fun _ => ?_⟩
      simpa using Nat.lt_of_not_le fits

theorem readTable_of_param {p : List Byte} {t : Table} {page first count : Nat} {stage : Bool} {s : State}
    (param : tableParam p = some (t, page, stage, first, count)) :
    cmdReadTable p s =
      if !tableInRange t page first count then (.refused .range [], s)
      else if stage then
        match s.update.stage with
        | none => (.refused .state [], s)
        | some g => (tableReply g.image t (pageRead t page s) true first count, s)
      else (tableReply (live s) t (pageRead t page s) false first count, s) := by
  rw [cmdReadTable, param] <;> rfl

/-- The indices asked for, written with the page for LIMITS and without it for the rest. -/
theorem entriesAsked_pageRead (t : Table) (page : Byte) (first count : Nat) (s : State) :
    let shown : Nat := if t = .limits then (if page = 4 then s.evaluator.profile.val else page.toNat)
      else (Config.unpagedPage page.toNat).val
    pageRead t page.toNat s = shown ∧
      entriesAsked t shown first count =
        if t = .limits then List.range' (shown * 16 + first) (min count (16 - first))
        else List.range' first (min count (t.size - first)) := by
  intro shown
  refine ⟨?_, rfl⟩
  have four : page.toNat = 4 ↔ page = 4 := ⟨fun h => BitVec.eq_of_toNat_eq h, fun h => by rw [h]; rfl⟩
  unfold pageRead
  simp only [four]
  rfl

/-- READ-TABLE's reply, the number of entries made explicit. -/
theorem tableReply_eq (img : Image) (t : Table) (page : Nat) (stage : Bool) (first count : Nat) :
    ∃ k, k ≤ ((entriesAsked t page first count).map (entryBytes img t)).length ∧
      (((entriesAsked t page first count).map (entryBytes img t)).take k).flatten.length ≤ 22 ∧
      (k < ((entriesAsked t page first count).map (entryBytes img t)).length →
        22 < (((entriesAsked t page first count).map (entryBytes img t)).take (k + 1)).flatten.length) ∧
      tableReply img t page stage first count =
        .done
          ([byteOf t.code, byteOf page ||| bitAt stage 7] ++ wordBytes img.generation ++ halfBytes (halfOf (first * 128 + k)) ++
            (((entriesAsked t page first count).map (entryBytes img t)).take k).flatten) false := by
  obtain ⟨k, le, same, within, most⟩ := fitEntries_eq_take 22 ((entriesAsked t page first count).map (entryBytes img t))
  refine ⟨k, le, within, most, ?_⟩
  have length := List.length_take_of_le le
  simp only [tableReply, firstCountBytes, same, length]

theorem readTable_refused {p : List Byte} {s : State} (h : Accepting s) (param : tableParam p = none) :
    exec (.readTable p) s = .next (replied 0x1B (.refused .range []) (closed s)) :=
  exec_replied h rfl (by decide) (by rw [cmdReadTable, param])

/-- Settles O43: READ-CAPTURE and READ-TABLE by the forms of their parameters. -/
theorem captureAndTableReads : Obligations.CaptureAndTableReads := by
  intro s h
  refine ⟨fun a b n rest => ?_, fun p short => ?_, fun p short => ?_, fun b rest above => ?_,
    fun t page source a b n rest => ?_⟩
  · intro id held two standing' program
    refine ⟨fun large => ?_, fun small => ?_⟩
    · refine exec_replied h rfl (by decide) ?_
      rw [cmdReadCapture, captureParam_eq]
      exact if_pos large
    · have read := readCapture_of_range (s := closed s) (captureParam_eq a b n rest) small
      rw [← halfOf_append, halfBytes_pair, halfOf_append, runAndStep_eq, captureReturned_eq] at read
      exact exec_replied h rfl (by decide) read
  · exact exec_replied h rfl (by decide) (by rw [cmdReadCapture, captureParam_short short])
  · exact readTable_refused h (tableParam_short short)
  · exact readTable_refused h (tableParam_unknown above rest)
  · intro first p ok shown reply
    have param := tableParam_eq t page source a b n rest
    have inRange : tableInRange t page.toNat first n.toNat = true ↔ ok := by
      rw [tableInRange_iff]
      refine and_congr_left' ?_
      rw [Nat.pos_iff_ne_zero]
      exact not_congr ⟨fun h => BitVec.eq_of_toNat_eq h, fun h => by rw [h]; rfl⟩
    obtain ⟨pageShown, asked⟩ := entriesAsked_pageRead t page first n.toNat (closed s)
    have answered : ∀ (img : Image) (stage : Bool),
        cmdReadTable p (closed s) = (tableReply img t shown stage first n.toNat, closed s) → reply img (bitAt stage 7) := by
      intro img stage read
      obtain ⟨k, le, within, most, same⟩ := tableReply_eq img t shown stage first n.toNat
      have entries : entriesAsked t shown first n.toNat = _ := asked
      rw [entries] at le within most same
      exact ⟨k, le, within, most, exec_replied h rfl (by decide) (read.trans (congrArg (·, closed s) same))⟩
    refine ⟨fun refused => ?_, fun fine live => ?_, fun fine staged empty => ?_, fun g fine staged stage => ?_⟩
    · refine exec_replied h rfl (by decide) ?_
      have outside : ∀ stage, tableParam p = some (t, page.toNat, stage, first, n.toNat) → ¬ ok →
          cmdReadTable p (closed s) = (.refused .range [], closed s) := by
        intro stage param notOk
        rw [readTable_of_param param, if_pos (by rw [Bool.not_eq_true', Bool.eq_false_iff]; exact mt inRange.mp notOk)]
      by_cases live : source = 0
      · rw [if_pos live] at param
        exact outside false param (refused.resolve_right (by rw [live]; decide))
      · rw [if_neg live] at param
        by_cases staged : source = 1
        · rw [if_pos staged] at param
          exact outside true param (refused.resolve_right (by rw [staged]; decide))
        · rw [if_neg staged] at param
          rw [cmdReadTable, param]
    · subst live
      refine answered _ false ((readTable_of_param param).trans ?_)
      rw [inRange.mpr fine, pageShown]
      rfl
    · subst staged
      refine exec_replied h rfl (by decide) ((readTable_of_param param).trans ?_)
      rw [inRange.mpr fine]
      show (match s.update.stage with | none => _ | some g => _) = _
      rw [empty]
    · subst staged
      refine answered _ true ((readTable_of_param param).trans ?_)
      rw [inRange.mpr fine, pageShown]
      show (match s.update.stage with | none => _ | some g => _) = _
      rw [stage]
      rfl

end Sys2Proof.Machine
end

section
/-! The Power Manager (O44, O45). -/

namespace Sys2Proof.Machine

/-! ### SLEEP (R140, R141) -/

theorem any_iff_ne_allOpen (t : Triple) : t.any = true ↔ t ≠ allOpen := by
  obtain ⟨pos, neg, pre⟩ := t
  cases pos <;> cases neg <;> cases pre <;> decide

/-- SLEEP is refused with CONTACTORS by a contactor state that is neither OPEN nor FAULTED and by a driven output (R141). -/
theorem sleepAway_iff (s : State) :
    (!openOrFaulted s || s.sequencer.drive.any) = true ↔ openOrFaulted s = false ∨ s.sequencer.drive ≠ allOpen := by
  rw [Bool.or_eq_true, Bool.not_eq_true', any_iff_ne_allOpen]

theorem sleepRefusal_eq (s : State) :
    sleepRefusal s =
      if openOrFaulted s = false ∨ s.sequencer.drive ≠ allOpen then some .contactors
      else if s.sweep.engine ≠ .stopped ∨ s.capture.stack ≠ [] ∨ s.chain.state = .numbering then some .busy
      else if s.update.state = .verifying ∨ s.update.state = .committing ∨ s.update.state = .armed then some .state
      else none := by
  have stack : (!s.capture.stack.isEmpty) = true ↔ s.capture.stack ≠ [] := by simp
  unfold sleepRefusal
  simp only [sleepAway_iff, stack]
  by_cases engine : s.sweep.engine = .stopped
  · by_cases runs : s.capture.stack = []
    · simp only [engine, runs, ne_eq, not_true_eq_false, false_or, if_false]
    · simp only [engine, runs, ne_eq, not_true_eq_false, not_false_eq_true, true_or, or_true, if_true, if_false]
  · simp only [engine, ne_eq, not_false_eq_true, true_or, if_true]

/-- The drain phase as SLEEP begins it, before a pending close is withdrawn (R141). -/
def drainBegun (s : State) : State :=
  { s with
    power.power := .drain
    power.drainTimer := some (s.now + 2000)
    power.watchCount := 0
    power.record := { first := none, cycles := 0, seconds := 0 }
    sequencer.disagreePos := none
    sequencer.disagreeNeg := none
    sequencer.disagreePre := none }

theorem enterDrain_eq (s : State) :
    enterDrain s =
      if s.sequencer.closePending then
        raise .contactorDone
          { drainBegun s with
            sequencer.closePending := false
            sequencer.lastClose := some { result := .withdrawn, prechargeMs := none, sweep := s.sweep.number } }
      else drainBegun s := by
  have stopped (u : State) (timer : Option Nat) (agrees : Bool) (drain : u.power.power = .drain) :
      supervised u timer agrees = none := if_pos (Or.inr (by rw [drain]; decide))
  unfold enterDrain
  dsimp only
  rw [superviseFeedback_eq]
  split <;> (rw [stopped _ _ _ rfl, stopped _ _ _ rfl, stopped _ _ _ rfl]; rfl)

theorem cmdSleep_of_active {s : State} (h : s.power.power = .active) :
    cmdSleep s =
      match sleepRefusal s with
      | some r => (.refused r [], s)
      | none => (.ok, enterDrain s) := by
  rw [cmdSleep, not_enteringSleep_of_active h]
  rfl

theorem cmdSleep_of_refusal {s : State} {r : Reason} (h : s.power.power = .active) (refused : sleepRefusal s = some r) :
    cmdSleep s = (.refused r [], s) := by
  rw [cmdSleep_of_active h, refused]

/-! ### The end of the drain (R142, R143) -/

theorem endDrain_of_idle {s : State} (idle : s.link.exchange = none) :
    endDrain s = { s with power.power := .chainSleep, power.drainTimer := none, power.frames := [.chainSleep] } := by
  unfold endDrain
  have dark : (s.link.exchange.map fun _ => Exchange.dark) = s.link.exchange := by rw [idle]; rfl
  rw [dark]

theorem exec_drainComplete (s : State) : exec .drainComplete s = .next (if drainOver s then arbitrate (endDrain s) else s) := rfl

theorem exec_drainTimerExpiry (s : State) :
    exec .drainTimerExpiry s =
      .next (if s.power.power = .drain ∧ expired s s.power.drainTimer then arbitrate (endDrain (discardDrain s)) else s) := rfl

/-- Settles O44: SLEEP by its checks, and the drain by its two ends. -/
theorem sleepDrainsAndPowersDown : Obligations.SleepDrainsAndPowersDown := by
  refine ⟨fun s h => ?_, fun s => ?_⟩
  · intro away busy working v
    refine ⟨fun drain => ?_, fun active => ?_⟩
    · refine exec_replied h rfl (by decide) (if_pos ?_)
      rw [enteringSleep_closed]
      exact enteringSleep_of_drain drain
    have refusal := sleepRefusal_eq (closed s)
    have active' : (closed s).power.power = .active := active
    have entered (a : ¬ away) (b : ¬ busy) (w : ¬ working) : cmdSleep (closed s) = (.ok, enterDrain (closed s)) := by
      rw [cmdSleep_of_active active', refusal.trans ((if_neg a).trans ((if_neg b).trans (if_neg w)))]
    refine ⟨fun a => ?_, fun a b => ?_, fun a b w => ?_, fun a b w pending => ?_, fun a b w pending => ?_⟩
    · exact exec_replied h rfl (by decide) (cmdSleep_of_refusal active' (refusal.trans (if_pos a)))
    · exact exec_replied h rfl (by decide) (cmdSleep_of_refusal active' (refusal.trans ((if_neg a).trans (if_pos b))))
    · exact exec_replied h rfl (by decide)
        (cmdSleep_of_refusal active' (refusal.trans ((if_neg a).trans ((if_neg b).trans (if_pos w)))))
    · refine exec_replied h rfl (by decide) ((entered a b w).trans ?_)
      rw [enterDrain_eq, if_neg (by simpa using pending)]
      rfl
    · refine exec_replied h rfl (by decide) ((entered a b w).trans ?_)
      exact (congrArg (Reply.ok, ·) (enterDrain_eq (closed s))).trans (congrArg (Reply.ok, ·) (if_pos pending))
  · intro flying done held
    have finished : drainOver s = true ↔ done := by
      rw [drainOver_iff]
      have aloft : (∀ t, s.chain.inFlight = some t → t.requester ≠ .forward) ↔ ¬ flying := by
        simp only [flying, not_exists, not_and]
      rw [aloft]
      grind
    have due : (s.power.power = .drain ∧ expired s s.power.drainTimer = true) ↔
        s.power.power = .drain ∧ ∃ t, s.power.drainTimer = some t ∧ t ≤ s.now := and_congr_right' (expired_iff_ran _ _)
    refine ⟨fun d => ?_, fun d => ?_, fun drain ran => ?_, fun not => ?_⟩
    · rw [exec_drainComplete, if_pos (finished.mpr d), endDrain_of_idle d.2.2.2.2.2.2]
    · rw [exec_drainComplete, if_neg (mt finished.mp d)]
    · rw [exec_drainTimerExpiry, if_pos (due.mpr ⟨drain, ran⟩)]
      rfl
    · rw [exec_drainTimerExpiry, if_neg]
      rw [due, Classical.not_and_iff_not_or_not]
      exact not

/-! ### Wake sources (R152, R153) -/

theorem noteCause_eq (w : WakeSource) (s : State) :
    noteCause w s =
      { s with
        power.record.first := match s.power.record.first with
          | none => some w
          | some x => some x } := by
  unfold noteCause
  cases e : s.power.record.first
  · rfl
  · simp only [← e]

theorem takeWake_awake {w : WakeSource} {s : State}
    (h : s.power.power = .active ∨ s.power.power = .wakingDark ∨ s.power.power = .wakingLit) : takeWake w s = s := by
  unfold takeWake
  rcases h with h | h | h <;> rw [h]

theorem takeWake_entering {w : WakeSource} {s : State} (h : s.power.power = .drain ∨ s.power.power = .chainSleep) :
    takeWake w s = { noteCause w s with power.wakeKept := true } := by
  unfold takeWake
  rcases h with h | h <;> rw [h]

theorem takeWake_asleep {w : WakeSource} {s : State} (h : s.power.power = .deepSleep) :
    takeWake w s =
      if s.power.cycle = true ∧ s.chain.inFlight ≠ none then { noteCause w s with power.wakeKept := true }
      else enterWaking (noteCause w s) := by
  unfold takeWake
  rw [h]
  dsimp only
  have flying : ((noteCause w s).power.cycle && (noteCause w s).chain.inFlight.isSome) = true ↔
      s.power.cycle = true ∧ s.chain.inFlight ≠ none := by
    rw [noteCause_eq, Bool.and_eq_true, Option.isSome_iff_ne_none]
  simp only [flying]

/-! ### The watch cycle and waking up (R148, R149, R154) -/

theorem halfOf_min_succ (x : Half) : halfOf (min 65535 (x.toNat + 1)) = if x = 65535 then 65535 else x + 1 := by
  split
  case isTrue full => rw [full]; rfl
  case isFalse below =>
    have room : x.toNat ≠ 65535 := fun e => below (BitVec.eq_of_toNat_eq e)
    apply BitVec.eq_of_toNat_eq
    have := x.isLt
    rw [halfOf, BitVec.toNat_ofNat, BitVec.toNat_add, Nat.min_eq_right (by omega)]
    rfl

theorem startWatchTimer_eq (s : State) :
    startWatchTimer s =
      { s with
        power.watchTimer := if (live s).watch.interval = 0 then none else some (s.now + (live s).watch.interval.toNat * 100000) } := by
  have zero : (live s).watch.interval.toNat = 0 ↔ (live s).watch.interval = 0 :=
    ⟨fun e => BitVec.eq_of_toNat_eq e, fun e => by rw [e]; rfl⟩
  unfold startWatchTimer
  simp only [zero]
  rfl

theorem exec_watchTimerExpiry (s : State) :
    exec .watchTimerExpiry s =
      .next (if s.power.power = .deepSleep ∧ expired s s.power.watchTimer then arbitrate (watchTimerDue s) else s) := rfl

theorem exec_chainSettleEnd (s : State) :
    exec .chainSettleEnd s = .next (if expired s s.power.settleTimer then arbitrate (settleEnd s) else s) := rfl

theorem exec_oscillatorStarted (s : State) :
    exec .oscillatorStarted s = .next (if s.power.power = .wakingDark then arbitrate (lightUp s) else s) := rfl

/-- Settles O45: a wake source by the power state, and each event of the watch cycle and of waking by its condition. -/
theorem wakesAndWatchCyclesBegin : Obligations.WakesAndWatchCyclesBegin := by
  refine ⟨fun w s => ?_, fun s => ?_⟩
  · intro first flying
    refine ⟨takeWake_awake, fun kept => ?_, fun asleep still => ?_, rfl, fun dark => ?_, fun lit => ?_⟩
    · have entered : takeWake w s = { noteCause w s with power.wakeKept := true } := by
        rcases kept with drain | entering | ⟨asleep, fly⟩
        · exact takeWake_entering (.inl drain)
        · exact takeWake_entering (.inr entering)
        · rw [takeWake_asleep asleep]
          exact if_pos fly
      rw [entered, noteCause_eq] <;> rfl
    · rw [takeWake_asleep asleep, noteCause_eq]
      exact if_neg still
    · exact congrArg Host.Outcome.next (if_neg (by simpa using dark))
    · exact congrArg Host.Outcome.next (if_pos lit)
  · intro w ran count range length
    have due : (s.power.power = .deepSleep ∧ expired s s.power.watchTimer = true) ↔
        s.power.power = .deepSleep ∧ ran s.power.watchTimer := and_congr_right' (expired_iff_ran _ _)
    have settled : expired s s.power.settleTimer = true ↔ ran s.power.settleTimer := expired_iff_ran _ _
    refine ⟨fun asleep out numbered => ?_, fun asleep out other => ?_, fun not => ?_, fun out other => ?_, fun out wakes => ?_,
      fun not => ?_, fun dark => ?_, fun not => ?_⟩
    · rw [exec_watchTimerExpiry, if_pos (due.mpr ⟨asleep, out⟩), watchTimerDue, if_pos numbered, beginCycle, halfOf_min_succ]
      rfl
    · rw [exec_watchTimerExpiry, if_pos (due.mpr ⟨asleep, out⟩), watchTimerDue, if_neg other, startWatchTimer_eq]
    · rw [exec_watchTimerExpiry, if_neg]
      rw [due, Classical.not_and_iff_not_or_not]
      exact not
    · rw [exec_chainSettleEnd, if_pos (settled.mpr out)]
      exact congrArg (fun u => Host.Outcome.next (arbitrate u)) (if_neg (by simpa [waking] using other))
    · rw [exec_chainSettleEnd, if_pos (settled.mpr out)]
      exact congrArg (fun u => Host.Outcome.next (arbitrate u)) (if_pos wakes)
    · rw [exec_chainSettleEnd, if_neg (mt settled.mp not)]
    · rw [exec_oscillatorStarted, if_pos dark]
      rfl
    · rw [exec_oscillatorStarted, if_neg not]

end Sys2Proof.Machine
end

section
/-! UPDATE-BEGIN, UPDATE-WINDOW, UPDATE-SEAL and UPDATE-WRITE (O46, O47). -/

namespace Sys2Proof.Machine

/-! ### UPDATE-BEGIN (R164, R165) -/

/-- The checks of UPDATE-BEGIN when both parameters are there. -/
theorem beginRefusal_whole (set : Byte) (generation : Word) (s : State) :
    beginRefusal (some set) (some generation) s =
      if s.update.mismatches = 3 then some .locked
      else if s.update.tamperLatch = true then some .tamper
      else if generation.toNat ≤ (live s).generation.toNat then some .generation
      else if set.getLsbD 3 = true ∧ s.update.floorLock = true then some .locked
      else if s.update.state ≠ .idle then some .busy
      else if set = 0 then some .range
      else none := by
  have floor : (holds set .floor && s.update.floorLock) = true ↔ set.getLsbD 3 = true ∧ s.update.floorLock = true :=
    Bool.and_eq_true_iff
  simp only [beginRefusal, Option.any_some, decide_eq_true_eq, floor, Option.isNone_some, Bool.false_or, Bool.or_false,
    beq_iff_eq, Option.some.injEq]

/-- The checks of UPDATE-BEGIN without a generation (log 17). -/
theorem beginRefusal_short (set : Option Byte) (s : State) :
    beginRefusal set none s =
      some (if s.update.mismatches = 3 then .locked
        else if s.update.tamperLatch = true then .tamper
        else if (∃ b, set = some b ∧ b.getLsbD 3 = true) ∧ s.update.floorLock = true then .locked
        else if s.update.state ≠ .idle then .busy
        else .range) := by
  have floor : (set.any (fun b => holds b .floor) && s.update.floorLock) = true ↔
      (∃ b, set = some b ∧ b.getLsbD 3 = true) ∧ s.update.floorLock = true := by
    rw [Bool.and_eq_true, Option.any_eq_true]
    rfl
  simp only [beginRefusal, Option.any_none, floor, Bool.false_eq_true, if_false, Option.isNone_none, Bool.or_true, if_true]
  (repeat' split) <;> rfl

theorem wordAt?_short {p : List Byte} (h : p.length < 5) : wordAt? p 1 = none := by
  have missing : p[4]? = none := List.getElem?_eq_none (by omega)
  have tail : halfAt? p 3 = none := by
    unfold halfAt?
    rw [missing]
    cases p[3]? <;> rfl
  unfold wordAt?
  rw [tail]
  cases halfAt? p 1 <;> rfl

/-- What UPDATE-BEGIN answers and leaves by the check that refuses it. -/
def beginAnswer (set : Byte) (generation : Word) (s : State) : Option Reason → Reply × State
  | some r => (.refused r [], s)
  | none =>
    (.ok,
      { s with
        update.state := .staging
        update.stage := some { image := { live s with generation := generation }, set := set } })

theorem cmdUpdateBegin_whole (set : Byte) (a b c d : Byte) (rest : List Byte) (s : State) :
    cmdUpdateBegin (set :: a :: b :: c :: d :: rest) s =
      beginAnswer set ((a ++ b) ++ (c ++ d)) s (beginRefusal (some set) (some ((a ++ b) ++ (c ++ d))) s) := by
  have word : wordAt? (set :: a :: b :: c :: d :: rest) 1 = some ((a ++ b) ++ (c ++ d)) := rfl
  have first : byteAt? (set :: a :: b :: c :: d :: rest) 0 = some set := rfl
  unfold cmdUpdateBegin
  rw [word, first]
  dsimp only
  cases beginRefusal (some set) (some ((a ++ b) ++ (c ++ d))) s <;> rfl

/-- The outcome of an UPDATE-BEGIN that is accepted, by the check that refuses it. -/
def beginOutcome (set : Byte) (generation : Word) (s : State) (refusal : Option Reason) : Host.Outcome State Fault Refusal :=
  .next (replied 0x13 (beginAnswer set generation (closed s) refusal).1 (beginAnswer set generation (closed s) refusal).2)

theorem exec_updateBegin_whole {s : State} (h : Accepting s) (set a b c d : Byte) (rest : List Byte) :
    exec (.updateBegin (set :: a :: b :: c :: d :: rest)) s =
      beginOutcome set ((a ++ b) ++ (c ++ d)) s (beginRefusal (some set) (some ((a ++ b) ++ (c ++ d))) (closed s)) := by
  have row : exec (.updateBegin (set :: a :: b :: c :: d :: rest)) s =
      .next (manage 0x13 (cmdUpdateBegin (set :: a :: b :: c :: d :: rest)) s) := rfl
  rw [row, manage_eq_replied h (by decide), cmdUpdateBegin_whole, beginOutcome]

theorem cmdUpdateBegin_short {p : List Byte} (h : p.length < 5) {s : State} {r : Reason}
    (refused : beginRefusal p.head? none s = some r) : cmdUpdateBegin p s = (.refused r [], s) := by
  have first : byteAt? p 0 = p.head? := List.head?_eq_getElem?.symm
  unfold cmdUpdateBegin
  rw [wordAt?_short h, first]
  dsimp only
  rw [refused]

/-! ### UPDATE-WINDOW and UPDATE-SEAL (R166, R170) -/

theorem windowParam_eq (t : Table) (a b c d : Byte) (rest : List Byte) :
    windowParam (byteOf t.code :: a :: b :: c :: d :: rest) =
      some (t, a.toNat * 256 + b.toNat, c.toNat * 256 + d.toNat) := by
  have table : (byteAt? (byteOf t.code :: a :: b :: c :: d :: rest) 0).bind tableOfCode = some t := tableOfCode_code t
  have first : halfAt? (byteOf t.code :: a :: b :: c :: d :: rest) 1 = some (a ++ b) := rfl
  have last : halfAt? (byteOf t.code :: a :: b :: c :: d :: rest) 3 = some (c ++ d) := rfl
  rw [windowParam, table, first, last, ← append_toNat, ← append_toNat]

theorem windowParam_bad {p : List Byte} (h : p.length < 5 ∨ 7 < (p.getD 0 0).toNat) : windowParam p = none := by
  unfold windowParam
  rcases h with short | above
  · have missing : halfAt? p 3 = none := by
      have none4 : p[4]? = none := List.getElem?_eq_none (by omega)
      unfold halfAt?
      rw [none4]
      cases p[3]? <;> rfl
    rw [missing]
    split
    · contradiction
    · rfl
  · cases p with
    | nil => exact absurd above (by decide)
    | cons b rest =>
      have unknown : (byteAt? (b :: rest) 0).bind tableOfCode = none := tableOfCode_above above
      rw [unknown]

theorem cmdUpdateWindow_staging {p : List Byte} {s : State} (h : s.update.state = .staging) :
    cmdUpdateWindow p s =
      match windowAsked p s with
      | none => (.refused .range [], s)
      | some w => (.ok, { s with update.window := some w }) := by
  rw [cmdUpdateWindow, if_neg (by rw [h]; decide), if_neg (by rw [h]; decide)] <;> rfl

theorem cmdUpdateWindow_refused {p : List Byte} {s : State} (h : s.update.state = .staging) (none : windowAsked p s = none) :
    cmdUpdateWindow p s = (.refused .range [], s) := by
  rw [cmdUpdateWindow_staging h, none]

theorem cmdUpdateSeal_staging {p : List Byte} {s : State} (h : s.update.state = .staging) (active : s.power.power = .active) :
    cmdUpdateSeal p s =
      if 16 ≤ p.length then
        (.accepted,
          { s with
            update.state := .verifying
            update.window := none
            update.openWrite := none
            update.tag := some (BitVec.ofNat 128 (beNat (p.take 16))) })
      else (.refused .range [], s) := by
  rw [cmdUpdateSeal, if_neg (by rw [h]; decide), if_neg (by simp [not_enteringSleep_of_active active]), if_neg (by rw [h]; decide),
    tagParam]
  by_cases long : 16 ≤ p.length
  · rw [if_pos long, if_pos long]
  · rw [if_neg long, if_neg long]

theorem cmdUpdateSeal_state {p : List Byte} {s : State} (unlocked : s.update.state ≠ .locked) (other : s.update.state ≠ .staging) :
    cmdUpdateSeal p s = (.refused .state [], s) := by
  rw [cmdUpdateSeal, if_neg unlocked, if_pos other, ite_self]

/-- Settles O46: each of the three commands by its checks in order. -/
theorem updateBeginWindowAndSeal : Obligations.UpdateBeginWindowAndSeal := by
  refine ⟨fun set a b c d rest s h => ?_, fun p s h short => ?_, fun s h => ?_⟩
  · intro generation reply
    rw [exec_updateBegin_whole h, beginRefusal_whole]
    simp only [apply_ite (beginOutcome set ((a ++ b) ++ (c ++ d)) s)]
    rfl
  · exact exec_replied h rfl (by decide) (cmdUpdateBegin_short short (beginRefusal_short p.head? (closed s)))
  · refine ⟨fun p locked => ⟨?_, ?_⟩, fun p unlocked other => ⟨?_, ?_⟩, fun t a b c d rest g staging stage => ?_,
      fun p staging bad => ?_, fun p staging active => ⟨fun short => ?_, fun long => ?_⟩⟩
    · exact exec_replied h rfl (by decide) (if_pos locked)
    · exact exec_replied h rfl (by decide) (if_pos locked)
    · exact exec_replied h rfl (by decide) ((if_neg unlocked).trans (if_pos other))
    · exact exec_replied h rfl (by decide) (cmdUpdateSeal_state (s := closed s) unlocked other)
    · intro first last ok
      have holding : updateHolds t (closed s) = holds g.set t := by
        show (match s.update.stage with | some g => holds g.set t | none => false) = _
        rw [stage]
      have asked : windowAsked (byteOf t.code :: a :: b :: c :: d :: rest) (closed s) =
          if ok then some { table := t, first := first, last := last, cursor := first } else none := by
        rw [windowAsked, windowParam_eq]
        dsimp only
        rw [holding]
      refine ⟨fun fine => ?_, fun bad => ?_⟩
      · refine exec_replied h rfl (by decide) ((cmdUpdateWindow_staging (s := closed s) staging).trans ?_)
        rw [asked, if_pos fine]
      · exact exec_replied h rfl (by decide) (cmdUpdateWindow_refused (s := closed s) staging (asked.trans (if_neg bad)))
    · refine exec_replied h rfl (by decide) (cmdUpdateWindow_refused (s := closed s) staging ?_)
      rw [windowAsked, windowParam_bad bad]
    · exact exec_replied h rfl (by decide)
        ((cmdUpdateSeal_staging (s := closed s) staging active).trans (if_neg (Nat.not_le_of_lt short)))
    · exact exec_replied h rfl (by decide) ((cmdUpdateSeal_staging (s := closed s) staging active).trans (if_pos long))

end Sys2Proof.Machine
end

section
/-! UPDATE-WRITE (O47). -/

namespace Sys2Proof.Machine

/-! ### The division of the entry part (R209) -/

/-- Entries as long as the layouts of a window from a cursor on. -/
def EntriesFit (w : Window) (cursor : Nat) (entries : List (List Byte)) : Prop :=
  ∀ k e, entries[k]? = some e → e.length = (fieldWidths w.table (min (cursor + k) w.last)).sum

theorem entriesFit_nil (w : Window) (cursor : Nat) : EntriesFit w cursor [] := by
  intro k e h
  simp at h

theorem entriesFit_cons (w : Window) (cursor : Nat) (e : List Byte) (es : List (List Byte)) :
    EntriesFit w cursor (e :: es) ↔
      e.length = (fieldWidths w.table (min cursor w.last)).sum ∧ EntriesFit w (cursor + 1) es := by
  constructor
  · intro fit
    refine ⟨fit 0 e rfl, fun k x h => ?_⟩
    rw [Nat.add_right_comm]
    exact fit (k + 1) x h
  · rintro ⟨head, tail⟩ k x h
    cases k with
    | zero => exact Option.some.inj h ▸ head
    | succ k => exact (tail k x h).trans (by rw [Nat.add_right_comm]; rfl)

/-- The width of the entry at a cursor, as the division reads it. -/
theorem entryWidth_layout (w : Window) (cursor : Nat) :
    entryWidth w.table (layoutIndex w cursor) = (fieldWidths w.table (min cursor w.last)).sum := entryWidth_eq_sum _ _

theorem divideEntries_flatten {w : Window} {n cursor : Nat} {entries : List (List Byte)} (fit : EntriesFit w cursor entries)
    (enough : entries.flatten.length ≤ n) : divideEntries n w cursor entries.flatten = some entries := by
  induction entries generalizing n cursor with
  | nil => cases n <;> rfl
  | cons e es ih =>
    obtain ⟨width, rest⟩ := (entriesFit_cons w cursor e es).mp fit
    have some := fieldWidths_sum_pos w.table (min cursor w.last)
    rw [List.flatten_cons, List.length_append] at enough
    cases e with
    | nil => exact absurd width (by simp only [List.length_nil]; omega)
    | cons b bytes =>
      rw [List.length_cons] at enough width
      cases n with
      | zero => omega
      | succ n =>
        have tail := ih (n := n) rest (by omega)
        rw [List.flatten_cons, List.cons_append, divideEntries, entryWidth_layout, ← width]
        have whole : ¬ (bytes.length + 1 = 0 ∨ (bytes ++ es.flatten).length + 1 < bytes.length + 1) := by
          rw [List.length_append]
          omega
        have first : (b :: (bytes ++ es.flatten)).take (bytes.length + 1) = b :: bytes := by simp
        have after : (b :: (bytes ++ es.flatten)).drop (bytes.length + 1) = es.flatten := by simp
        simp only [if_neg whole, first, after, tail, Option.map_some]

theorem divideEntries_some {w : Window} {n cursor : Nat} {bytes : List Byte} {entries : List (List Byte)}
    (h : divideEntries n w cursor bytes = some entries) : EntriesFit w cursor entries ∧ entries.flatten = bytes := by
  induction n generalizing cursor bytes entries with
  | zero =>
    cases bytes with
    | nil =>
      cases h
      exact ⟨entriesFit_nil w cursor, rfl⟩
    | cons => cases h
  | succ n ih =>
    cases bytes with
    | nil =>
      cases h
      exact ⟨entriesFit_nil w cursor, rfl⟩
    | cons b bytes =>
      rw [divideEntries, entryWidth_layout] at h
      split at h
      · cases h
      next wide =>
        obtain ⟨es, tail, rfl⟩ := Option.map_eq_some_iff.mp h
        obtain ⟨fit, flat⟩ := ih tail
        refine ⟨(entriesFit_cons _ _ _ _).mpr ⟨?_, fit⟩, ?_⟩
        · rw [List.length_take, List.length_cons]
          omega
        · rw [List.flatten_cons, flat, List.take_append_drop]

/-! ### The entries written (R167, R168) -/

theorem mergeFields_eq {select : Half} {old new : List Nat} {n : Nat} (before : old.length = n) (after : new.length = n) :
    mergeFields select old new = (List.range n).map fun k => if select.getLsbD k then new.getD k 0 else old.getD k 0 := by
  subst before
  unfold mergeFields
  apply List.ext_getElem
  · simp [after]
  · intro i h _
    have inOld : i < old.length := by simp [after] at h; exact h
    have inNew : i < new.length := after ▸ inOld
    simp [List.getD_eq_getElem?_getD, inOld, inNew]

/-- An entry put at an index of a window's table, in the mode of the open write. -/
def placeEntry (o : OpenWrite) (w : Window) (img : Image) (i : Nat) (entry : List Byte) : Image :=
  let fields := fieldWidths w.table (min i w.last)
  let new := unpackFields fields entry
  let old := entryFields img w.table i
  setEntry img w.table i
    (if o.merge then (List.range fields.length).map fun k => if o.select.getLsbD k then new.getD k 0 else old.getD k 0 else new)

theorem writeEntry_eq_place (o : OpenWrite) {w : Window} {i : Nat} (inside : i ≤ w.last) (e : List Byte) (img : Image) :
    writeEntry o w.table i e img = placeEntry o w img i e := by
  unfold writeEntry placeEntry
  dsimp only
  rw [Nat.min_eq_left inside, mergeFields_eq (entryFields_length img w.table i) (unpackFields_length _ _)]

theorem writeEntries_eq (o : OpenWrite) (w : Window) (es : List (List Byte)) (img : Image) (cursor written ignored : Nat) :
    writeEntries o w es img cursor written ignored =
      (((es.take (min es.length (w.last + 1 - cursor))).zipIdx cursor).foldl (fun img e => placeEntry o w img e.2 e.1) img,
        cursor + min es.length (w.last + 1 - cursor), written + min es.length (w.last + 1 - cursor),
        ignored + (es.length - min es.length (w.last + 1 - cursor))) := by
  induction es generalizing img cursor written ignored with
  | nil => simp [writeEntries]
  | cons e es ih =>
    rw [writeEntries]
    by_cases inside : cursor ≤ w.last
    · have count : min (e :: es).length (w.last + 1 - cursor) = min es.length (w.last + 1 - (cursor + 1)) + 1 := by
        rw [List.length_cons]
        omega
      rw [if_pos inside, ih, writeEntry_eq_place o inside, count, List.take_succ_cons, List.zipIdx_cons, List.foldl_cons,
        List.length_cons, Nat.add_sub_add_right es.length, Nat.add_assoc cursor, Nat.add_comm 1, Nat.add_assoc written, Nat.add_comm 1]
    · have here : w.last + 1 - cursor = 0 := by omega
      rw [if_neg inside, ih, here]
      simp
      omega

/-- The reply and state of an UPDATE-WRITE whose entry part divides. -/
theorem writeStage_eq (g : Stage) (w : Window) (o : OpenWrite) (entries : List (List Byte)) (s : State) :
    let n := min entries.length (w.last + 1 - w.cursor)
    writeStage g w o entries s =
      (.done ([byteOf n, byteOf (entries.length - n)] ++ halfBytes (halfOf (w.cursor + n))) false,
        { s with
          update.stage := some
            { g with image := ((entries.take n).zipIdx w.cursor).foldl (fun img e => placeEntry o w img e.2 e.1) g.image }
          update.window := some { w with cursor := w.cursor + n }
          update.openWrite := some o }) := by
  intro n
  unfold writeStage
  rw [writeEntries_eq, Nat.zero_add, Nat.zero_add]

/-! ### The command (R167, R169) -/

theorem isContinue_eq (control : Byte) : isContinue control = control.getLsbD 1 := rfl

/-- A START outside REPLACE and MERGE has a control byte out of range (R208). -/
theorem startInRange_of_large (w : Window) {control : Byte} (start : control.getLsbD 1 = false) (large : 1 < control.toNat)
    (select : Half) : startInRange w control select = false := by
  have bits : ∀ c : Byte, c.getLsbD 1 = false → 1 < c.toNat → (c &&& 0xFC == 0) = false := by decide
  rw [startInRange, bits control start large, Bool.false_and]

theorem cmdUpdateWrite_locked {p : List Byte} {s : State} (h : s.update.state = .locked) :
    cmdUpdateWrite p s = refuseWrite .locked s := if_pos h

theorem cmdUpdateWrite_state {p : List Byte} {s : State} (unlocked : s.update.state ≠ .locked) (other : s.update.state ≠ .staging) :
    cmdUpdateWrite p s = refuseWrite .state s := by
  rw [cmdUpdateWrite, if_neg unlocked]
  split
  next staging _ => exact absurd staging other
  · rfl

theorem cmdUpdateWrite_staging {p : List Byte} {s : State} {g : Stage} (staging : s.update.state = .staging)
    (stage : s.update.stage = some g) :
    cmdUpdateWrite p s =
      match s.update.window with
      | none => refuseWrite .sequence s
      | some w =>
        if (byteAt? p 0).any isContinue && s.update.openWrite.isNone then refuseWrite .sequence s
        else match byteAt? p 0, halfAt? p 1 with
          | some control, some select =>
            match writeMode w control select s, divideEntries p.length w w.cursor (p.drop 3) with
            | some o, some entries => writeStage g w o entries s
            | _, _ => refuseWrite .range s
          | _, _ => refuseWrite .range s := by
  rw [cmdUpdateWrite, if_neg (by rw [staging]; decide), staging, stage] <;> rfl

section Staged

variable {s : State} {g : Stage} {w : Window} (staging : s.update.state = .staging) (stage : s.update.stage = some g)
  (window : s.update.window = some w)
include staging stage window

theorem cmdUpdateWrite_noStart {control : Byte} (goesOn : control.getLsbD 1 = true) (shut : s.update.openWrite = none) (p : List Byte) :
    cmdUpdateWrite (control :: p) s = refuseWrite .sequence s := by
  rw [cmdUpdateWrite_staging staging stage, window]
  refine if_pos ?_
  rw [shut]
  exact congrArg (· && true) goesOn

theorem cmdUpdateWrite_short {p : List Byte} (short : p.length < 3)
    (sequenced : (p.getD 0 0).getLsbD 1 = true → s.update.openWrite ≠ none) : cmdUpdateWrite p s = refuseWrite .range s := by
  have missing : halfAt? p 1 = none := by
    have absent : p[2]? = none := List.getElem?_eq_none (by omega)
    unfold halfAt?
    rw [absent]
    cases p[1]? <;> rfl
  rw [cmdUpdateWrite_staging staging stage, window]
  refine (if_neg ?_).trans ?_
  · cases p with
    | nil => exact Bool.false_ne_true
    | cons control rest =>
      simpa [byteAt?, isContinue_eq, Option.isNone_iff_eq_none] using sequenced
  · rw [missing]
    cases byteAt? p 0 <;> rfl

theorem cmdUpdateWrite_whole {control h l : Byte} (sequenced : control.getLsbD 1 = true → s.update.openWrite ≠ none)
    (bytes : List Byte) :
    cmdUpdateWrite (control :: h :: l :: bytes) s =
      match writeMode w control (h ++ l) s, divideEntries (bytes.length + 3) w w.cursor bytes with
      | some o, some entries => writeStage g w o entries s
      | _, _ => refuseWrite .range s := by
  rw [cmdUpdateWrite_staging staging stage, window]
  refine (if_neg ?_).trans rfl
  simpa [byteAt?, isContinue_eq, Option.isNone_iff_eq_none] using sequenced

theorem cmdUpdateWrite_written {control h l : Byte} (sequenced : control.getLsbD 1 = true → s.update.openWrite ≠ none)
    {entries : List (List Byte)} (fit : EntriesFit w w.cursor entries) {o : OpenWrite}
    (mode : writeMode w control (h ++ l) s = some o) :
    cmdUpdateWrite (control :: h :: l :: entries.flatten) s = writeStage g w o entries s := by
  rw [cmdUpdateWrite_whole staging stage window sequenced, mode, divideEntries_flatten fit (Nat.le_add_right _ _)]

theorem cmdUpdateWrite_modeless {control h l : Byte} (sequenced : control.getLsbD 1 = true → s.update.openWrite ≠ none)
    (bytes : List Byte) (mode : writeMode w control (h ++ l) s = none) :
    cmdUpdateWrite (control :: h :: l :: bytes) s = refuseWrite .range s := by
  rw [cmdUpdateWrite_whole staging stage window sequenced, mode]

theorem cmdUpdateWrite_undivided {control h l : Byte} (sequenced : control.getLsbD 1 = true → s.update.openWrite ≠ none)
    {bytes : List Byte} (undivided : ∀ entries, EntriesFit w w.cursor entries → entries.flatten ≠ bytes) :
    cmdUpdateWrite (control :: h :: l :: bytes) s = refuseWrite .range s := by
  have none : divideEntries (bytes.length + 3) w w.cursor bytes = none := by
    rw [Option.eq_none_iff_forall_ne_some]
    intro entries divided
    obtain ⟨fit, flat⟩ := divideEntries_some divided
    exact undivided entries fit flat
  rw [cmdUpdateWrite_whole staging stage window sequenced, none]
  cases writeMode w control (h ++ l) s <;> rfl

end Staged

theorem exec_updateWrite {s t : State} (h : Accepting s) {p : List Byte} {r : Reply} (e : cmdUpdateWrite p (taken s) = (r, t)) :
    exec (.updateWrite p) s = .next (replied 0x15 r t) := by
  have row : exec (.updateWrite p) s = .next (manage 0x15 (cmdUpdateWrite p) s) := rfl
  rw [row, manage_write_eq_replied h, e]

/-- The mode of a START, by its control byte (R167, R168). -/
theorem writeMode_replace (w : Window) (select : Half) (s : State) : writeMode w 0 select s = some { merge := false, select := select } := rfl

theorem writeMode_merge (w : Window) (select : Half) (s : State) :
    writeMode w 1 select s =
      if select ≠ 0 ∧ select.toNat < 2 ^ windowFields w then some { merge := true, select := select } else none := by
  have range : startInRange w 1 select = true ↔ select ≠ 0 ∧ select.toNat < 2 ^ windowFields w := by
    show (select != 0 && decide (select.toNat < 2 ^ windowFields w)) = true ↔ _
    rw [Bool.and_eq_true, bne_iff_ne, decide_eq_true_eq]
  have one : isContinue 1 = false := rfl
  rw [writeMode, one]
  simp only [range]
  rfl

theorem writeMode_continue {w : Window} {control : Byte} (goesOn : control.getLsbD 1 = true) (select : Half) (s : State) :
    writeMode w control select s = s.update.openWrite := if_pos goesOn

theorem writeMode_large {w : Window} {control : Byte} (start : control.getLsbD 1 = false) (large : 1 < control.toNat) (select : Half)
    (s : State) : writeMode w control select s = none := by
  rw [writeMode, isContinue_eq, start, startInRange_of_large w start large]
  rfl

/-- Settles O47: the checks of UPDATE-WRITE in order, and the entries it writes at the cursor. -/
theorem updateWriteWritesAtTheCursor : Obligations.UpdateWriteWritesAtTheCursor := by
  intro s h v refused
  refine ⟨fun p locked => exec_updateWrite h (cmdUpdateWrite_locked (s := taken s) locked),
    fun p unlocked other => exec_updateWrite h (cmdUpdateWrite_state (s := taken s) unlocked other), fun g staging stage => ?_⟩
  have staging' : (taken s).update.state = .staging := staging
  have stage' : (taken s).update.stage = some g := stage
  refine ⟨fun p shut => exec_updateWrite h ((cmdUpdateWrite_staging staging' stage').trans ?_), fun w window => ?_⟩
  · have shut' : (taken s).update.window = none := shut
    rw [shut']
    rfl
  have window' : (taken s).update.window = some w := window
  intro fields most fit placed written
  refine ⟨fun control p goesOn shut => exec_updateWrite h (cmdUpdateWrite_noStart staging' stage' window' goesOn shut p),
    fun p short sequenced => exec_updateWrite h (cmdUpdateWrite_short staging' stage' window' short sequenced),
    fun control a b => ?_⟩
  intro open?
  refine ⟨fun entries divides => ?_, fun bytes undivided sequenced =>
    exec_updateWrite h (cmdUpdateWrite_undivided staging' stage' window' sequenced undivided)⟩
  intro p
  have wrote (o : OpenWrite) (sequenced : open?) (mode : writeMode w control (a ++ b) (taken s) = some o) :
      exec (.updateWrite p) s = written o entries :=
    exec_updateWrite h ((cmdUpdateWrite_written staging' stage' window' sequenced divides mode).trans (writeStage_eq g w o entries _))
  have modeless (sequenced : open?) (mode : writeMode w control (a ++ b) (taken s) = none) :
      exec (.updateWrite p) s = refused .range :=
    exec_updateWrite h (cmdUpdateWrite_modeless staging' stage' window' sequenced entries.flatten mode)
  refine ⟨fun o goesOn opened => ?_, fun replace => ?_, fun merge selects fits => ?_, fun merge outside => ?_,
    fun start large => ?_⟩
  · exact wrote o (fun _ => by rw [opened]; exact Option.some_ne_none o) ((writeMode_continue goesOn _ _).trans opened)
  · subst replace
    exact wrote _ (fun goesOn => absurd goesOn (by decide)) (writeMode_replace w _ _)
  · subst merge
    exact wrote _ (fun goesOn => absurd goesOn (by decide)) ((writeMode_merge w _ _).trans (if_pos ⟨selects, fits⟩))
  · subst merge
    refine modeless (fun goesOn => absurd goesOn (by decide)) ((writeMode_merge w _ _).trans (if_neg ?_))
    rintro ⟨selects, fits⟩
    exact outside.elim selects (Nat.not_le_of_lt fits)
  · exact modeless (fun goesOn => absurd (start.symm.trans goesOn) (by decide)) (writeMode_large start large _ _)

end Sys2Proof.Machine
end

section
/-! The end of VERIFYING (O48). -/

namespace Sys2Proof.Machine

/-! ### The structural tests (R171, R172) -/

theorem between_iff (lo hi n : Nat) : between lo hi n = true ↔ lo ≤ n ∧ n ≤ hi := by
  simp [between]

theorem between_zero_iff (hi n : Nat) : between 0 hi n = true ↔ n ≤ hi := by
  simp [between]

/-- A byte needs no test against 255. -/
theorem between_byte_iff (lo : Nat) (b : Byte) : between lo 255 b.toNat = true ↔ lo ≤ b.toNat := by
  have := b.isLt
  rw [between_iff]
  omega

theorem temperature_iff (x : Half) : temperature x = true ↔ -400 ≤ x.toInt ∧ x.toInt ≤ 1500 := by
  simp [temperature, signedBetween]

theorem signedBetween_iff (lo hi : Int) (x : Half) : signedBetween lo hi x = true ↔ lo ≤ x.toInt ∧ x.toInt ≤ hi := by
  simp [signedBetween]

theorem goodChainHeader_iff (h : ChainHeader) :
    goodChainHeader h = true ↔
      2 ≤ h.window.toNat ∧ h.window.toNat ≤ 200 ∧ 1 ≤ h.lostThreshold.toNat ∧ h.lostThreshold.toNat ≤ 7 := by
  rw [goodChainHeader, Bool.and_eq_true, between_iff, between_iff, and_assoc]

theorem goodPosition_iff (img : Image) (p : Nat) :
    goodPosition img p = true ↔
      (positionKind img p).toNat ≤ 2 ∧ (positionKind img p = 0 ∨ p = 1 ∨ positionKind img (p - 1) ≠ 0) ∧
        (positionKind img p = 2 → ∀ q, 1 ≤ q → q < p → positionKind img q ≠ 2) := by
  have earlier : (!(positionKind img p == 2 && (List.range' 1 (p - 1)).any fun q => positionKind img q == 2)) = true ↔
      (positionKind img p = 2 → ∀ q, 1 ≤ q → q < p → positionKind img q ≠ 2) := by
    rw [Bool.not_eq_true', Bool.and_eq_false_imp, beq_iff_eq]
    refine imp_congr_right fun _ => ?_
    simp only [List.any_eq_false, List.mem_range'_1, beq_iff_eq, and_imp]
    refine forall_congr' fun q => imp_congr_right fun first => ?_
    rw [show q < 1 + (p - 1) ↔ q < p by omega]
  simp only [goodPosition, Bool.and_eq_true, between_zero_iff, earlier, Bool.or_eq_true, beq_iff_eq, bne_iff_ne, and_assoc, or_assoc]

theorem goodCell_iff (img : Image) (i : Nat) :
    goodCell img i = true ↔
      if 16 ≤ i % 20 then
        (cellEntry img i).gain = 0 ∧ -100 ≤ (cellEntry img i).offset.toInt ∧ (cellEntry img i).offset.toInt ≤ 100
      else
        -8192 ≤ (cellEntry img i).gain.toInt ∧ (cellEntry img i).gain.toInt ≤ 8191 ∧ -512 ≤ (cellEntry img i).offset.toInt ∧
          (cellEntry img i).offset.toInt ≤ 511 := by
  have aux : isAux (channelOf i) = true ↔ 16 ≤ i % 20 := isAux_iff _
  unfold goodCell
  simp only [aux]
  split
  · rw [Bool.and_eq_true, beq_iff_eq, signedBetween_iff]
  · rw [Bool.and_eq_true, signedBetween_iff, signedBetween_iff, and_assoc]

theorem goodLimit_iff (r : LimitRecord) :
    goodLimit r = true ↔
      r.vHyst.toNat ≤ 2000 ∧ (1 ≤ r.vPersist.toNat ∧ r.vPersist.toNat ≤ 15) ∧
        ((-400 ≤ r.otTrip.toInt ∧ r.otTrip.toInt ≤ 1500) ∧ (-400 ≤ r.otWarn.toInt ∧ r.otWarn.toInt ≤ 1500) ∧
          (-400 ≤ r.utWarn.toInt ∧ r.utWarn.toInt ≤ 1500) ∧ (-400 ≤ r.utTrip.toInt ∧ r.utTrip.toInt ≤ 1500)) ∧
        r.tHyst.toNat ≤ 200 ∧ (1 ≤ r.tPersist.toNat ∧ r.tPersist.toNat ≤ 15) ∧
        (r.uvTrip.toNat < r.uvWarn.toNat ∧ r.uvWarn.toNat < r.ovWarn.toNat ∧ r.ovWarn.toNat < r.ovTrip.toNat) ∧
        (r.utTrip.toInt < r.utWarn.toInt ∧ r.utWarn.toInt < r.otWarn.toInt ∧ r.otWarn.toInt < r.otTrip.toInt) := by
  simp only [goodLimit, Bool.and_eq_true, between_iff, Nat.zero_le, true_and, temperature_iff, decide_eq_true_eq, and_assoc]

theorem goodFloor_iff (r : FloorRecord) :
    goodFloor r = true ↔
      (1 ≤ r.vPersist.toNat ∧ r.vPersist.toNat ≤ 15) ∧ (1 ≤ r.tPersist.toNat ∧ r.tPersist.toNat ≤ 15) ∧
        ((-400 ≤ r.otTrip.toInt ∧ r.otTrip.toInt ≤ 1500) ∧ (-400 ≤ r.utTrip.toInt ∧ r.utTrip.toInt ≤ 1500)) ∧
        r.uvTrip.toNat < r.ovTrip.toNat ∧ r.utTrip.toInt < r.otTrip.toInt := by
  simp only [goodFloor, Bool.and_eq_true, between_iff, temperature_iff, decide_eq_true_eq, and_assoc]

theorem goodBreakpoint_iff (img : Image) (i : Nat) :
    let point (i : Nat) : Breakpoint := look img.thermal { code := 0, temp := 0 } i
    goodBreakpoint img i = true ↔
      (1 ≤ (point i).code.toNat ∧ (point i).code.toNat ≤ 4094) ∧ (-400 ≤ (point i).temp.toInt ∧ (point i).temp.toInt ≤ 1500) ∧
        (i ≠ 0 → (point (i - 1)).code.toNat < (point i).code.toNat ∧ (point i).temp.toInt < (point (i - 1)).temp.toInt) := by
  intro point
  simp only [goodBreakpoint, Bool.and_eq_true, between_iff, temperature_iff, decide_eq_true_eq, and_assoc, Bool.or_eq_true, beq_iff_eq,
    Classical.or_iff_not_imp_left, ne_eq, point]

theorem goodSweepHeader_iff (h : SweepHeader) :
    goodSweepHeader h = true ↔
      (20 ≤ h.period.toNat ∧ h.period.toNat ≤ 10000) ∧ h.quietStart.toNat ≤ h.quietEnd.toNat ∧
        h.quietEnd.toNat + 2 ≤ h.period.toNat ∧ h.slotCount.toNat ≤ 16 := by
  simp only [goodSweepHeader, Bool.and_eq_true, between_iff, Nat.zero_le, true_and, decide_eq_true_eq]
  omega

/-- The tests of a slot that the header counts. -/
theorem goodSlot_iff (img : Image) (i : Nat) :
    goodSlot img i = true ↔
      (i ≤ img.sweepHeader.slotCount.toNat →
        (sweepSlot img (i - 1)).offset.toNat ≤ img.sweepHeader.period.toNat - 1 ∧
          (i = 1 ∨ (sweepSlot img (i - 2)).offset.toNat < (sweepSlot img (i - 1)).offset.toNat) ∧
          (sweepSlot img (i - 1)).kind.toNat ≤ 3 ∧
          (1 ≤ (sweepSlot img (i - 1)).divider.toNat ∧ (sweepSlot img (i - 1)).divider.toNat ≤ 16) ∧
          ((sweepSlot img (i - 1)).kind = 2 ∨ (sweepSlot img (i - 1)).kind = 3 →
            (sweepSlot img (i - 1)).fixedFirst.toNat ≤ 24 ∧
              ((sweepSlot img (i - 1)).fixedFirst ≠ 0 →
                (sweepSlot img (i - 1)).fixedFirst.toNat ≤ (sweepSlot img (i - 1)).fixedLast.toNat ∧
                  (sweepSlot img (i - 1)).fixedLast.toNat ≤ 24) ∧
              (sweepSlot img (i - 1)).rotCount.toNat ≤ 24 ∧
              ((sweepSlot img (i - 1)).rotCount ≠ 0 →
                1 ≤ (sweepSlot img (i - 1)).rotFirst.toNat ∧
                  (sweepSlot img (i - 1)).rotFirst.toNat ≤ (sweepSlot img (i - 1)).rotLast.toNat ∧
                  (sweepSlot img (i - 1)).rotLast.toNat ≤ 24))) := by
  have rotation (a b : Nat) : ((1 ≤ a ∧ a ≤ 24) ∧ a ≤ b ∧ b ≤ 24) ↔ 1 ≤ a ∧ a ≤ b ∧ b ≤ 24 := by omega
  have reads (k : Byte) (p : Prop) : ((!(k == 2 || k == 3)) = true ∨ p) ↔ (k = 2 ∨ k = 3 → p) := by
    rw [Bool.not_eq_true', ← Bool.not_eq_true, Bool.or_eq_true, beq_iff_eq, beq_iff_eq, Decidable.imp_iff_not_or]
  have exempt (b : Byte) (p : Bool) : (b == 0 || p) = true ↔ (b ≠ 0 → p = true) := by
    rw [Bool.or_eq_true, beq_iff_eq, Classical.or_iff_not_imp_left]
  unfold goodSlot
  dsimp only
  simp only [Bool.or_eq_true (decide (slotCount img < i)), decide_eq_true_eq, Classical.or_iff_not_imp_left (a := slotCount img < i), Nat.not_lt]
  refine imp_congr_right fun _ => ?_
  simp only [Bool.and_eq_true, Bool.or_eq_true (!_), reads]
  simp only [exempt, Bool.and_eq_true, between_iff, rotation, Nat.zero_le, true_and, decide_eq_true_eq, Bool.or_eq_true, beq_iff_eq,
    and_assoc]

theorem goodProgram_iff (f : ProgramField) : goodProgram f = true ↔ f.count.toNat ≤ 32 ∧ 1 ≤ f.interval.toNat := by
  rw [goodProgram, Bool.and_eq_true, between_zero_iff, between_byte_iff]

theorem goodContactor_iff (r : ContactorRecord) :
    goodContactor r = true ↔
      (10 ≤ r.preTimeout.toNat ∧ r.preTimeout.toNat ≤ 5000) ∧ 128 ≤ r.preRatio.toNat ∧
        (5 ≤ r.feedbackTime.toNat ∧ r.feedbackTime.toNat ≤ 200) ∧ r.openDwell.toNat ≤ 100 ∧ r.breakLimit.toNat ≤ 32767 ∧
        r.deferLimit.toNat ≤ 2000 ∧ (10 ≤ r.weldTime.toNat ∧ r.weldTime.toNat ≤ 2000) ∧ 2 ≤ r.silenceLimit.toNat ∧
        (r.precharge.count.toNat ≤ 32 ∧ 1 ≤ r.precharge.interval.toNat) ∧ (r.close.count.toNat ≤ 32 ∧ 1 ≤ r.close.interval.toNat) ∧
        (r.opening.count.toNat ≤ 32 ∧ 1 ≤ r.opening.interval.toNat) ∧ (r.trip.count.toNat ≤ 32 ∧ 1 ≤ r.trip.interval.toNat) := by
  simp only [goodContactor, Bool.and_eq_true, between_byte_iff, goodProgram_iff, and_assoc]
  simp only [between_iff, Nat.zero_le, true_and, and_assoc]

theorem goodWatch_iff (r : WatchRecord) :
    goodWatch r = true ↔
      (1 ≤ r.rangeFirst.toNat ∧ r.rangeFirst.toNat ≤ 24) ∧ (1 ≤ r.rangeLast.toNat ∧ r.rangeLast.toNat ≤ 24) ∧
        r.uv.toNat < r.ov.toNat ∧
        ((-400 ≤ r.ot.toInt ∧ r.ot.toInt ≤ 1500) ∧ (-400 ≤ r.ut.toInt ∧ r.ut.toInt ≤ 1500)) ∧ r.ut.toInt < r.ot.toInt ∧
        (1 ≤ r.persistence.toNat ∧ r.persistence.toNat ≤ 3) := by
  simp only [goodWatch, Bool.and_eq_true, between_iff, temperature_iff, decide_eq_true_eq, and_assoc]

/-! ### The first entry that fails (R172) -/

theorem firstBadEntry_eq_some {img : Image} {t : Table} {i : Nat} (inside : i < t.size) (bad : goodEntry img t i ≠ true)
    (before : ∀ j, j < i → goodEntry img t j = true) : firstBadEntry img t = some i := by
  unfold firstBadEntry
  rw [List.find?_range_eq_some]
  simp only [Bool.not_eq_true', List.mem_range]
  exact ⟨by simpa using bad, inside, fun j h => by simpa using before j h⟩

theorem firstBadEntry_eq_none {img : Image} {t : Table} (sound : ∀ i, i < t.size → goodEntry img t i = true) :
    firstBadEntry img t = none := by
  unfold firstBadEntry
  rw [List.find?_eq_none]
  intro i h
  simpa using sound i (List.mem_range.mp h)

theorem firstBad_eq_none {img : Image} {set : Byte} (sound : ∀ t i, holds set t = true → i < t.size → goodEntry img t i = true) :
    firstBad img set = none := by
  unfold firstBad
  rw [List.findSome?_eq_none_iff]
  intro t h
  have held : holds set t = true := (List.mem_filter.mp h).2
  rw [firstBadEntry_eq_none fun i inside => sound t i held inside]
  rfl

/-- The tables before one in the order of section 8.1 are those with a smaller code. -/
theorem allTables_split (t : Table) : ∃ before after, allTables = before ++ t :: after ∧ ∀ u ∈ before, u.code < t.code := by
  refine ⟨allTables.take t.code, allTables.drop (t.code + 1), ?_, ?_⟩
  · cases t <;> rfl
  · cases t <;> decide

theorem firstBad_eq_some {img : Image} {set : Byte} {t : Table} {i : Nat} (held : holds set t = true) (inside : i < t.size)
    (bad : goodEntry img t i ≠ true) (before : ∀ j, j < i → goodEntry img t j = true)
    (earlier : ∀ u j, holds set u = true → u.code < t.code → j < u.size → goodEntry img u j = true) :
    firstBad img set = some (t, i) := by
  obtain ⟨first, rest, order, smaller⟩ := allTables_split t
  unfold firstBad tablesOf
  rw [order, List.filter_append, List.filter_cons_of_pos held, List.findSome?_append, List.findSome?_cons,
    firstBadEntry_eq_some inside bad before]
  have clean : (first.filter (holds set)).findSome? (fun t => (firstBadEntry img t).map fun i => (t, i)) = none := by
    rw [List.findSome?_eq_none_iff]
    intro u h
    obtain ⟨isFirst, heldU⟩ := List.mem_filter.mp h
    rw [firstBadEntry_eq_none fun j insideU => earlier u j heldU (smaller u isFirst) insideU]
    rfl
  rw [clean]
  rfl

/-! ### VERIFY_END (R173, R174) -/

theorem exec_verifyEnd_idle {s : State} (h : s.update.state ≠ .verifying) : exec .verifyEnd s = .next s := by
  show execVerifyEnd s = _
  unfold execVerifyEnd
  split
  next verifying _ _ => exact absurd verifying h
  · rfl

theorem exec_verifyEnd {s : State} {g : Stage} {tag : Tag} (verifying : s.update.state = .verifying) (stage : s.update.stage = some g)
    (sealTag : s.update.tag = some tag) : exec .verifyEnd s = .next (verifyStage g tag s) := by
  show execVerifyEnd s = _
  unfold execVerifyEnd
  rw [verifying, stage, sealTag]

theorem verifyStage_of_bad {g : Stage} {tag : Tag} {s : State} {t : Table} {i : Nat} (bad : firstBad g.image g.set = some (t, i)) :
    verifyStage g tag s = rejectStructure t i s := by
  rw [verifyStage, bad]

theorem verifyStage_of_sound {g : Stage} {tag : Tag} {s : State} (sound : firstBad g.image g.set = none) :
    verifyStage g tag s =
      if Config.keyedTag (sealedContent g.image g.set) = tag then sealStage s else rejectTag s := by
  rw [verifyStage, sound]

theorem rejectTag_of_few {s : State} (few : s.update.mismatches < 2) :
    rejectTag s =
      { raise .updateResult s with
        update.state := .staging
        update.tag := none
        update.mismatches := s.update.mismatches + 1
        update.lastResult := .rejectedTag
        update.rejected := none } := by
  have count : min 3 (s.update.mismatches + 1) = s.update.mismatches + 1 := by omega
  unfold rejectTag
  rw [count]
  dsimp only
  rw [if_neg (by omega)]
  rfl

theorem rejectTag_of_two {s : State} (two : s.update.mismatches = 2) :
    rejectTag s =
      { raise .updateResult s with
        update :=
          { s.update with
            state := .locked, stage := none, window := none, openWrite := none, tag := none, target := none, commit := none
            commitTampered := false, mismatches := 3, lastResult := .rejectedTag, rejected := none } } := by
  have count : min 3 (s.update.mismatches + 1) = 3 := by omega
  unfold rejectTag
  rw [count]
  rfl

/-- Settles O48: the outcome of VERIFYING by its first failing entry, then by its tag. -/
theorem verifyingEnds : Obligations.VerifyingEnds := by
  intro s
  refine ⟨exec_verifyEnd_idle, fun g tag verifying stage sealTag => ?_⟩
  intro v img heat kind point program good sound sealedBytes
  have run : exec .verifyEnd s = .next (verifyStage g tag s) := exec_verifyEnd verifying stage sealTag
  have tests (t : Table) (i : Nat) : goodEntry img t i = true ↔ good t i := by
    cases t
    case chainMap =>
      show (if i = 0 then goodChainHeader img.chainHeader else goodPosition img i) = true ↔ if i = 0 then _ else _
      by_cases header : i = 0
      · rw [if_pos header, if_pos header]
        exact goodChainHeader_iff _
      · rw [if_neg header, if_neg header]
        exact goodPosition_iff _ _
    case cellMap => exact goodCell_iff img i
    case limits => exact goodLimit_iff _
    case floor => exact goodFloor_iff _
    case thermal => exact goodBreakpoint_iff img i
    case sweep =>
      show (if i = 0 then goodSweepHeader img.sweepHeader else goodSlot img i) = true ↔ if i = 0 then _ else _
      by_cases header : i = 0
      · rw [if_pos header, if_pos header]
        exact goodSweepHeader_iff _
      · rw [if_neg header, if_neg header]
        exact goodSlot_iff img i
    case contactor => exact goodContactor_iff _
    case watch => exact goodWatch_iff _
  have whole (h : sound) : exec .verifyEnd s = .next (if Config.keyedTag sealedBytes = tag then sealStage s else rejectTag s) := by
    rw [run, verifyStage_of_sound (firstBad_eq_none fun t i held inside => (tests t i).mpr (h t i held inside))]
    rfl
  refine ⟨fun t i held inside bad before earlier => ?_, fun h same => ?_, fun h other few => ?_, fun h other two => ?_⟩
  · rw [run, verifyStage_of_bad (firstBad_eq_some held inside (mt (tests t i).mp bad) (fun j less => (tests t j).mpr (before j less))
      fun u j heldU less insideU => (tests u j).mpr (earlier u j heldU less insideU))]
    rfl
  · rw [whole h, if_pos same]
    rfl
  · rw [whole h, if_neg other, rejectTag_of_few few]
  · rw [whole h, if_neg other, rejectTag_of_two two]

end Sys2Proof.Machine
end

section
/-! UPDATE-ACTIVATE and COMMIT_END (O49). -/

namespace Sys2Proof.Machine

/-! ### The image composed (R177) -/

theorem entryFields_foldl_withTable (src : Image) (ts : List Table) (img : Image) (t : Table) (i : Nat) :
    entryFields (ts.foldl (fun x u => withTable x src u) img) t i = if t ∈ ts then entryFields src t i else entryFields img t i := by
  induction ts generalizing img with
  | nil => rfl
  | cons u ts ih =>
    rw [List.foldl_cons, ih, entryFields_withTable]
    by_cases later : t ∈ ts
    · rw [if_pos later, if_pos (List.mem_cons_of_mem u later)]
    · simp only [List.mem_cons, later, or_false, if_false]

/-- The generation is no field of an entry. -/
theorem entryFields_setGeneration (img : Image) (g : Word) (t : Table) (i : Nat) :
    entryFields { img with generation := g } t i = entryFields img t i := by
  cases t <;> rfl

theorem entryFields_composeImage (img : Image) (g : Stage) (t : Table) (i : Nat) :
    entryFields (composeImage img g) t i = if holds g.set t then entryFields g.image t i else entryFields img t i := by
  rw [composeImage, entryFields_setGeneration, entryFields_foldl_withTable]
  simp only [mem_tablesOf]

/-! ### UPDATE-ACTIVATE (R176) -/

section Allowed

variable {s : State} (safe : s.protection.state ≠ .safeOpen) (active : s.power.power = .active)
include safe active

/-- UPDATE-ACTIVATE past PROTECTED and STATE. -/
theorem cmdUpdateActivate_allowed :
    cmdUpdateActivate s =
      if s.update.state = .locked then (.refused .locked [], s)
      else if s.update.state = .committing ∨ s.update.state = .armed then (.ok, s)
      else match s.update.state, s.update.stage with
        | .sealed, some g =>
          if touchesSafety g.set && !openOrFaulted s then (.refused .contactors [], s)
          else (.accepted, beginCommit g s)
        | _, _ => (.refused .state [], s) := by
  rw [cmdUpdateActivate, if_neg safe, if_neg (by simp [not_enteringSleep_of_active active])] <;> rfl

theorem cmdUpdateActivate_early (h : s.update.state = .idle ∨ s.update.state = .staging ∨ s.update.state = .verifying) :
    cmdUpdateActivate s = (.refused .state [], s) := by
  rw [cmdUpdateActivate_allowed safe active]
  rcases h with h | h | h <;> rw [h] <;> rfl

theorem cmdUpdateActivate_sealed {g : Stage} (sealed : s.update.state = .sealed) (stage : s.update.stage = some g) :
    cmdUpdateActivate s =
      if touchesSafety g.set = true ∧ openOrFaulted s = false then (.refused .contactors [], s)
      else (.accepted, beginCommit g s) := by
  have away : (touchesSafety g.set && !openOrFaulted s) = true ↔ touchesSafety g.set = true ∧ openOrFaulted s = false := by
    rw [Bool.and_eq_true, Bool.not_eq_true']
  rw [cmdUpdateActivate_allowed safe active, if_neg (by rw [sealed]; decide), if_neg (by rw [sealed]; decide), sealed, stage]
  simp only [away]

end Allowed

theorem beginCommit_slotA {g : Stage} {s : State} (h : s.tables.liveSlot ≠ some .a) :
    beginCommit g s =
      { s with
        update.state := .committing
        update.commit := some (composeImage (live s) g)
        update.commitTampered := false
        update.target := some .a
        tables.slotA := none } := by
  have target : commitTarget s.tables.liveSlot = .a := by
    cases e : s.tables.liveSlot with
    | none => rfl
    | some id =>
      cases id
      · exact absurd e h
      · rfl
  rw [beginCommit, target]
  rfl

theorem beginCommit_slotB {g : Stage} {s : State} (h : s.tables.liveSlot = some .a) :
    beginCommit g s =
      { s with
        update.state := .committing
        update.commit := some (composeImage (live s) g)
        update.commitTampered := false
        update.target := some .b
        tables.slotB := none } := by
  have target : commitTarget s.tables.liveSlot = .b := by rw [h]; rfl
  rw [beginCommit, target]
  rfl

/-! ### COMMIT_END (R177 to R179) -/

theorem exec_commitEnd_idle {s : State} (h : s.update.state ≠ .committing) (readBack : Bool) : exec (.commitEnd readBack) s = .next s := by
  show execCommitEnd readBack s = _
  unfold execCommitEnd
  split
  next committing _ _ => exact absurd committing h
  · rfl

theorem exec_commitEnd {s : State} {id : SlotId} {img : Image} (committing : s.update.state = .committing)
    (target : s.update.target = some id) (commit : s.update.commit = some img) (readBack : Bool) :
    exec (.commitEnd readBack) s = .next (endCommit readBack id img s) := by
  show execCommitEnd readBack s = _
  unfold execCommitEnd
  rw [committing, target, commit]

theorem endCommit_tampered {s : State} (h : s.update.commitTampered = true) (readBack : Bool) (id : SlotId) (img : Image) :
    endCommit readBack id img s = reportUpdate .abortedTamper (dropUpdate s) := if_pos h

theorem endCommit_failed {s : State} (h : s.update.commitTampered = false) (id : SlotId) (img : Image) :
    endCommit false id img s =
      reportUpdate .commitFailed { s with update.state := .sealed, update.target := none, update.commit := none } := by
  rw [endCommit, h]
  rfl

theorem endCommit_whole {s : State} (h : s.update.commitTampered = false) (id : SlotId) (img : Image) :
    endCommit true id img s =
      if s.sweep.engine = .stopped then swapImage (setSlot id (some img) { s with update.state := .armed })
      else setSlot id (some img) { s with update.state := .armed } := by
  have engine : (setSlot id (some img) { s with update.state := .armed }).sweep = s.sweep := by cases id <;> rfl
  rw [endCommit, h]
  simp only [Bool.false_eq_true, if_false, if_true, engine]

/-- Settles O49: UPDATE-ACTIVATE by the update state, and the ends of the commit. -/
theorem activateAndCommit : Obligations.ActivateAndCommit := by
  refine ⟨fun s h safe active => ⟨fun locked => ?_, fun begun => ?_, fun early => ?_, fun g sealed stage => ⟨fun touches away => ?_,
    fun allowed => ?_⟩⟩, fun s => ⟨fun readBack idle => exec_commitEnd_idle idle readBack, fun id img committing target commit => ?_⟩⟩
  · exact exec_replied h rfl (by decide) ((cmdUpdateActivate_allowed (s := closed s) safe active).trans (if_pos locked))
  · refine exec_replied h rfl (by decide) ((cmdUpdateActivate_allowed (s := closed s) safe active).trans ?_)
    refine (if_neg ?_).trans (if_pos begun)
    show s.update.state ≠ .locked
    rcases begun with e | e <;> (rw [e]; decide)
  · exact exec_replied h rfl (by decide) (cmdUpdateActivate_early (s := closed s) safe active early)
  · exact exec_replied h rfl (by decide)
      ((cmdUpdateActivate_sealed (s := closed s) safe active sealed stage).trans (if_pos ⟨touches, away⟩))
  · have accepted : cmdUpdateActivate (closed s) = (.accepted, beginCommit g (closed s)) := by
      refine (cmdUpdateActivate_sealed (s := closed s) safe active sealed stage).trans (if_neg ?_)
      rintro ⟨touches, away⟩
      rcases allowed with clear | still
      · exact absurd (touches.symm.trans clear) (by decide)
      · exact absurd (still.symm.trans away) (by decide)
    refine ⟨composeImage (live s) g, rfl, entryFields_composeImage (live s) g, ?_⟩
    intro v
    refine ⟨fun other => ?_, fun slotA => ?_⟩
    · exact exec_replied h rfl (by decide) (accepted.trans (congrArg (Reply.accepted, ·) (beginCommit_slotA (s := closed s) other)))
    · exact exec_replied h rfl (by decide) (accepted.trans (congrArg (Reply.accepted, ·) (beginCommit_slotB (s := closed s) slotA)))
  · intro v armed
    have slot : setSlot id (some img) { s with update.state := .armed } = armed := by cases id <;> rfl
    refine ⟨fun readBack tampered => ?_, fun clean => ?_, fun clean running => ?_, fun clean stopped => ?_⟩
    · rw [exec_commitEnd committing target commit, endCommit_tampered tampered]
      rfl
    · rw [exec_commitEnd committing target commit, endCommit_failed clean]
      rfl
    · rw [exec_commitEnd committing target commit, endCommit_whole clean, if_neg running, slot]
    · rw [exec_commitEnd committing target commit, endCommit_whole clean, if_pos stopped, slot]

end Sys2Proof.Machine
end

section
/-! TAMPER_IN, CLEAR-TAMPER and the cold resets (O52, O53). -/

namespace Sys2Proof.Machine

/-! ### Tamper (R181, R182) -/

theorem cmdClearTamper_eq (s : State) :
    cmdClearTamper s =
      if s.update.tamperLatch = false then (.ok, s)
      else if s.update.state = .locked then (.refused .locked [], s)
      else if s.update.tamperReading = true then (.refused .tamper [], s)
      else if s.update.state ≠ .idle then (.refused .busy [], s)
      else (.ok, { s with update.tamperLatch := false }) := by
  simp only [cmdClearTamper, Bool.not_eq_true']

theorem beginRefusal_ne_tamper {s : State} (h : s.update.tamperLatch = false) (set : Option Byte) (generation : Option Word) :
    beginRefusal set generation s ≠ some .tamper := by
  unfold beginRefusal
  simp only [h, Bool.false_eq_true, if_false]
  (repeat' split) <;> simp

theorem tamperUpdate_of_quiet {s : State} (h : s.update.state = .idle ∨ s.update.state = .locked ∨ s.update.state = .armed) :
    tamperUpdate s = s := by
  unfold tamperUpdate
  rcases h with h | h | h <;> rw [h]

theorem tamperUpdate_of_committing {s : State} (h : s.update.state = .committing) :
    tamperUpdate s = { s with update.commitTampered := true } := by
  unfold tamperUpdate
  rw [h]

theorem tamperUpdate_of_staged {s : State} (h : s.update.state = .staging ∨ s.update.state = .verifying ∨ s.update.state = .sealed) :
    tamperUpdate s = reportUpdate .abortedTamper (dropUpdate s) := by
  unfold tamperUpdate
  rcases h with h | h | h <;> rw [h]

/-- What TAMPER_IN does to the update leaves the latch and the reading. -/
theorem tamperUpdate_tamper (s : State) :
    (tamperUpdate s).update.tamperLatch = s.update.tamperLatch ∧ (tamperUpdate s).update.tamperReading = s.update.tamperReading := by
  unfold tamperUpdate
  split <;> exact ⟨rfl, rfl⟩

/-- The state in which an assertion of TAMPER_IN reaches the update (R181). -/
def tamperTaken (s : State) : State :=
  takeWake .tamper (raise .tamper { s with update.tamperReading := true, update.tamperLatch := true })

theorem tamperTaken_update (s : State) :
    (tamperTaken s).update = { s.update with tamperReading := true, tamperLatch := true } := by
  simp [tamperTaken]

theorem exec_tamperIn {s : State} (h : s.update.tamperReading = false) : exec .tamperIn s = .next (tamperUpdate (tamperTaken s)) :=
  congrArg Host.Outcome.next (if_neg (by simp [h]))

/-- Settles O52: CLEAR-TAMPER by its checks, TAMPER_IN by the update state. -/
theorem tamperLatchIsSetAndCleared : Obligations.TamperLatchIsSetAndCleared := by
  intro s
  refine ⟨fun h => ?_, fun set generation clear => beginRefusal_ne_tamper clear set generation,
    fun asserted => congrArg Host.Outcome.next (if_pos asserted), fun released => ?_, rfl⟩
  · have row : exec .clearTamper s = .next (manage 0x1A cmdClearTamper s) := rfl
    rw [row, manage_eq_replied h (by decide), cmdClearTamper_eq]
    show _ = Host.Outcome.next
      (if (closed s).update.tamperLatch = false then _
      else if (closed s).update.state = .locked then _
      else if (closed s).update.tamperReading = true then _
      else if (closed s).update.state ≠ .idle then _ else _)
    (repeat' split) <;> rfl
  · intro u
    have state : (tamperTaken s).update.state = s.update.state := by rw [tamperTaken_update]
    have run := exec_tamperIn released
    refine ⟨fun quiet => ?_, fun committing => ?_, fun staged => ?_, fun t ends => ?_⟩
    · rw [run, tamperUpdate_of_quiet (by rw [state]; exact quiet)]
      rfl
    · rw [run, tamperUpdate_of_committing (state.trans committing)]
      rfl
    · rw [run, tamperUpdate_of_staged (by rw [state]; exact staged)]
      rfl
    · cases run.symm.trans ends
      obtain ⟨latch, reading⟩ := tamperUpdate_tamper (tamperTaken s)
      rw [latch, reading, tamperTaken_update]
      exact ⟨rfl, rfl⟩

/-! ### The first grant after a cold reset (R157) -/

theorem chooseGrant_watchAlone {s : State} (chain : s.chain.state ≠ .numbering) (last : s.arbiter.lastGranted = none)
    (due : s.arbiter.lowTurnDue = false) (alone : ∀ q, q ≠ .enumerate → (grantable s q = true ↔ q = .watch)) :
    chooseGrant s = some .watch := by
  have held : heldGrant s = none := heldGrant_eq_none fun q granted => absurd (granted.symm.trans last) (Option.some_ne_none q)
  rw [chooseGrant, if_neg chain]
  have may : grantable s .watch = true := (alone .watch (by decide)).mpr rfl
  by_cases high : isHigh s .watch = true
  · have found : highGrant s = some .watch := search_eq_some (by decide) (by rw [high, may]; rfl) fun r hr hit => by
      exact Nat.le_of_eq (by rw [(alone r hr).mp (Bool.and_eq_true_iff.mp hit).2])
    simp [fourSteps, held, due, found]
  · have none' : highGrant s = none := search_eq_none fun r hr => by
      rw [Bool.and_eq_false_imp]
      intro top
      rw [← Bool.not_eq_true, alone r hr]
      rintro rfl
      exact high top
    have found : lowGrant s = some .watch := search_eq_some (by decide) (by simp [high, may]) fun r hr hit => by
      exact Nat.le_of_eq (by rw [(alone r hr).mp (Bool.and_eq_true_iff.mp hit).2])
    simp [fourSteps, held, due, none', found]

/-- A count of one reaches H when WATCH alone is HIGH. -/
theorem highClasses_watch {h : ChainHeader} (high : h.classes.getLsbD 6 = true) :
    min (highClasses h) 1 = 1 ∧
      decide (highClasses h ≤ 1) = (!h.classes.getLsbD 0 && !h.classes.getLsbD 2 && !h.classes.getLsbD 4) := by
  have bits (a b c : Bool) :
      min ([a, b, c, true].filter id).length 1 = 1 ∧ decide (([a, b, c, true].filter id).length ≤ 1) = (!a && !b && !c) := by
    revert a b c
    decide
  have count : highClasses h =
      ([h.classes.getLsbD 0, h.classes.getLsbD 2, h.classes.getLsbD 4, h.classes.getLsbD 6].filter id).length := by
    simp only [highClasses, competitors, List.filter, classHigh, id]
    generalize h.classes.getLsbD 0 = a
    generalize h.classes.getLsbD 2 = b
    generalize h.classes.getLsbD 4 = c
    generalize h.classes.getLsbD 6 = d
    revert a b c d
    decide
  rw [count, high]
  exact bits _ _ _

/-- The arbiter's record after its first grant, to WATCH, by the Chain Map header. -/
def firstGrant (h : ChainHeader) : Arbiter :=
  { maskForward := false, maskSweep := false, lastGranted := some .watch
    highPointer := if h.classes.getLsbD 6 then some .watch else none
    lowPointer := if h.classes.getLsbD 6 then none else some .watch
    highCount := if h.classes.getLsbD 6 then 1 else 0
    lowTurnDue := h.classes.getLsbD 6 && (!h.classes.getLsbD 0 && !h.classes.getLsbD 2 && !h.classes.getLsbD 4) }

theorem recordGrant_first {s : State} (fresh : s.arbiter = State.unstarted.arbiter) :
    recordGrant .watch s = { s with arbiter := firstGrant (live s).chainHeader } := by
  have class' : isHigh s .watch = (live s).chainHeader.classes.getLsbD 6 := rfl
  unfold recordGrant firstGrant
  rw [if_neg (by decide), class', fresh]
  cases high : (live s).chainHeader.classes.getLsbD 6
  · rfl
  · obtain ⟨one, only⟩ := highClasses_watch high
    have count : min (highClasses (live s).chainHeader) (State.unstarted.arbiter.highCount + 1) = 1 := one
    simp only [if_true, count, only]
    rfl

/-- The grant decision at the end of a cold reset: CHAIN_WAKE goes down the chain. -/
def wakeSent (s : State) : State :=
  { s with
    arbiter := firstGrant (live s).chainHeader
    power.frames := []
    chain.inFlight := some
      { requester := .watch, frame := { address := 31, kind := 0x0E, flags := 3, payload := [] }, target := none
        expect := none, window := (live s).chainHeader.window, discard := false, context := none } }

/-- A state whose transient blocks are as a cold reset leaves them. -/
structure ColdBlocks (s : State) : Prop where
  chain : s.chain = State.unstarted.chain
  arbiter : s.arbiter = State.unstarted.arbiter
  link : s.link = State.unstarted.link
  stack : s.capture.stack = []
  engine : s.sweep.engine = .stopped
  reads : s.sweep.reads = []
  triggers : s.sweep.triggers = []
  frames : s.power.frames = [.chainWake]
  settle : s.power.settleTimer = none

theorem ColdBlocks.watchAlone {s : State} (h : ColdBlocks s) (q : Requester) (competes : q ≠ .enumerate) :
    grantable s q = true ↔ q = .watch := by
  cases q
  case forward => simp [grantable, raised, h.link, State.unstarted]
  case sweep => simp [grantable, raised, sweepWork, sweeping, readyTrigger, h.engine, h.reads, h.triggers]
  case capture => simp [grantable, raised, captureRaised, h.stack]
  case watch => simp [grantable, raised, masked, h.frames, h.settle]
  case enumerate => exact absurd rfl competes

theorem ColdBlocks.arbitrate {s : State} (h : ColdBlocks s) : arbitrate s = wakeSent s := by
  have choice : chooseGrant s = some .watch :=
    chooseGrant_watchAlone (by rw [h.chain]; decide) (by rw [h.arbiter]; rfl) (by rw [h.arbiter]; rfl) h.watchAlone
  have sent : grant .watch s = wakeSent s := by
    simp only [grant, recordGrant_first h.arbiter, grantWatch, h.frames]
    rfl
  rw [Machine.arbitrate, arbitrateN_of_grant (by rw [h.chain]; rfl) (by rw [h.chain]; rfl) choice, sent]
  exact arbitrateN_of_rest (.inl (Option.some_ne_none _)) 15

theorem coldBlocks_coldState (s : State) : ColdBlocks (coldState s) := ⟨rfl, rfl, rfl, rfl, rfl, rfl, rfl, rfl, rfl⟩

theorem coldBlocks_hardState (s : State) : ColdBlocks (hardState s) := ⟨rfl, rfl, rfl, rfl, rfl, rfl, rfl, rfl, rfl⟩

/-! ### The resets (R162, R185) -/

theorem exec_powerOnReset (s : State) : exec .powerOnReset s = .next (tamperAtReset (wakeSent (coldState s))) := by
  show Host.Outcome.next (resetEnd (coldState s)) = _
  rw [resetEnd, (coldBlocks_coldState s).arbitrate]

theorem exec_hardReset (s : State) : exec .hardReset s = .next (tamperAtReset (wakeSent (hardState s))) := by
  show Host.Outcome.next (resetEnd (hardState s)) = _
  rw [resetEnd, (coldBlocks_hardState s).arbitrate]

/-- A TAMPER_IN that reads asserted at the end of a cold reset sets the latch and owes URGENT its NOTICE. -/
theorem tamperAtReset_of_asserted {u : State} (active : u.power.power = .active) (reading : u.update.tamperReading = true)
    (quiet : u.update.state = .idle ∨ u.update.state = .locked) (notice : u.notice = State.unstarted.notice) :
    tamperAtReset u =
      { u with update.tamperLatch := true, notice := { u.notice with pending := 0x0010, owedUrgent := true } } := by
  have urgent : decide ((0x0010 : Half) &&& State.unstarted.notice.enable &&& State.unstarted.notice.map ≠ 0) = true := by decide
  have routine : decide ((0x0010 : Half) &&& State.unstarted.notice.enable &&& ~~~State.unstarted.notice.map ≠ 0) = false := by decide
  rw [tamperAtReset, if_pos reading,
    tamperAsserted_of_active active reading (quiet.imp_right .inl) (by rw [notice]; rfl)]
  rw [notice, urgent, routine]
  rfl

/-- Settles O53: both resets set every field and grant CHAIN_WAKE, and an asserted TAMPER_IN is taken at their end. -/
theorem coldResets : Obligations.ColdResets := by
  intro s chosen header length watchHigh onlyWatch fresh cold hard
  have coldSent : wakeSent (coldState s) = cold := rfl
  have hardSent : wakeSent (hardState s) = hard := rfl
  refine ⟨fun released => ⟨?_, ?_⟩, fun asserted => ?_⟩
  · rw [exec_powerOnReset, coldSent]
    exact congrArg Host.Outcome.next (if_neg (by simpa using released))
  · rw [exec_hardReset, hardSent]
    exact congrArg Host.Outcome.next (if_neg (by simpa using released))
  · intro seen
    refine ⟨?_, ?_⟩
    · rw [exec_powerOnReset, coldSent]
      exact congrArg Host.Outcome.next (tamperAtReset_of_asserted (u := cold) rfl asserted (.inl rfl) rfl)
    · rw [exec_hardReset, hardSent]
      refine congrArg Host.Outcome.next (tamperAtReset_of_asserted (u := hard) rfl asserted ?_ rfl)
      show (if s.update.mismatches = 3 then UpdateState.locked else .idle) = .idle ∨
        (if s.update.mismatches = 3 then UpdateState.locked else .idle) = .locked
      split
      · exact .inr rfl
      · exact .inl rfl

end Sys2Proof.Machine
end

section
/-! Table entries written and read back (O60). -/

namespace Sys2Proof.Machine

/-! ### Fields as they are stored (10.5, log 25) -/

theorem look_put_self {α : Type} {n : Nat} (v : Vector α n) (d x : α) {i : Nat} (h : i < n) : look (put v i x) d i = x := by
  simp [look, put, h]

theorem look_put_other {α : Type} {n : Nat} (v : Vector α n) (d x : α) {i j : Nat} (h : j ≠ i) : look (put v i x) d j = look v d j := by
  simp [look, put, Vector.getElem?_setIfInBounds_ne h.symm]

/-- The bits that the layout assigns in a one-byte field (10.5). -/
def fieldMask (t : Table) (i k : Nat) : Byte :=
  match t with
  | .cellMap => if k = 0 then 0x8F else 0xFF
  | .sweep => if i = 0 ∧ k = 1 then 0x0F else 0xFF
  | .contactor => if k = 9 then 0x03 else 0xFF
  | _ => 0xFF

/-- A field value as an entry stores it. -/
def storedField (width : Nat) (mask : Byte) (value : Nat) : Nat :=
  if width = 1 then (byteOf value &&& mask).toNat else (halfOf value).toNat

theorem storedField_two (mask : Byte) (value : Nat) : storedField 2 mask value = (halfOf value).toNat := rfl

theorem storedField_one (mask : Byte) (value : Nat) : storedField 1 mask value = (byteOf value &&& mask).toNat := rfl

theorem and_full (b : Byte) : b &&& 255#8 = b := BitVec.and_allOnes

theorem and_0xFF (b : Byte) : b &&& 0xFF = b := and_full b

theorem programField_value_ofValue (n : Nat) : (ProgramField.ofValue n).value = (halfOf n).toNat := by
  simp only [ProgramField.value, ProgramField.ofValue, byteOf, halfOf, BitVec.toNat_ofNat]
  omega

/-- An entry's fields after it was written. -/
theorem entryFields_setEntry_self (img : Image) {t : Table} {i : Nat} (h : i < t.size) (v : List Nat) :
    entryFields (setEntry img t i v) t i =
      (fieldWidths t i).mapIdx fun k w => storedField w (fieldMask t i k) (v.getD k 0) := by
  cases t
  case chainMap =>
    by_cases header : i = 0
    · simp [header, entryFields, setEntry, fieldWidths, storedField_one, fieldMask, and_full, -BitVec.toNat_and]
    · have inside : i - 1 < 24 := by have : i < 25 := h; omega
      simp [header, entryFields, setEntry, fieldWidths, storedField_one, fieldMask, and_full, -BitVec.toNat_and, positionKind, look_put_self _ _ _ inside]
  case cellMap =>
    have inside : i < 480 := h
    simp [entryFields, setEntry, fieldWidths, storedField_one, storedField_two, fieldMask, cellEntry, look_put_self _ _ _ inside]
  case limits =>
    have inside : i < 64 := h
    simp [entryFields, setEntry, fieldWidths, storedField_one, storedField_two, fieldMask, and_full, -BitVec.toNat_and, look_put_self _ _ _ inside]
  case floor =>
    have inside : i < 16 := h
    simp [entryFields, setEntry, fieldWidths, storedField_one, storedField_two, fieldMask, and_full, -BitVec.toNat_and, floorRecord, look_put_self _ _ _ inside]
  case thermal =>
    have inside : i < 9 := h
    simp [entryFields, setEntry, fieldWidths, storedField_two, look_put_self _ _ _ inside]
  case sweep =>
    by_cases header : i = 0
    · simp [header, entryFields, setEntry, fieldWidths, storedField_one, storedField_two, fieldMask, and_full, -BitVec.toNat_and]
    · have inside : i - 1 < 16 := by have : i < 17 := h; omega
      simp [header, entryFields, setEntry, fieldWidths, storedField_one, storedField_two, fieldMask, and_full, -BitVec.toNat_and, sweepSlot,
        look_put_self _ _ _ inside]
  case contactor =>
    simp [entryFields, setEntry, fieldWidths, storedField_one, storedField_two, fieldMask, and_full, -BitVec.toNat_and, programField_value_ofValue]
  case watch =>
    simp [entryFields, setEntry, fieldWidths, storedField_one, storedField_two, fieldMask, and_full, -BitVec.toNat_and]

/-- An entry written is one of its table. -/
theorem setEntry_eq_withTable (img : Image) (t : Table) (i : Nat) (v : List Nat) :
    setEntry img t i v = withTable img (setEntry img t i v) t := by
  cases t
  case chainMap =>
    simp only [setEntry]
    split <;> rfl
  case sweep =>
    simp only [setEntry]
    split <;> rfl
  all_goals rfl

theorem entryFields_setEntry_table (img : Image) {t u : Table} (h : u ≠ t) (i j : Nat) (v : List Nat) :
    entryFields (setEntry img t i v) u j = entryFields img u j := by
  rw [setEntry_eq_withTable, entryFields_withTable, if_neg h]

theorem entryFields_setEntry_index (img : Image) {t : Table} {i j : Nat} (hi : i < t.size) (hj : j < t.size) (h : j ≠ i) (v : List Nat) :
    entryFields (setEntry img t i v) t j = entryFields img t j := by
  have before (m n : Nat) (hm : m ≠ 0) (hn : n ≠ 0) (other : n ≠ m) : n - 1 ≠ m - 1 := by omega
  cases t
  case chainMap =>
    by_cases header : i = 0
    · simp [entryFields, setEntry, header, header ▸ h, positionKind]
    · by_cases other : j = 0
      · simp [entryFields, setEntry, header, other]
      · simp [entryFields, setEntry, header, other, positionKind, look_put_other _ _ _ (before i j header other h)]
  case cellMap => simp [entryFields, setEntry, cellEntry, look_put_other _ _ _ h]
  case limits => simp [entryFields, setEntry, look_put_other _ _ _ h]
  case floor => simp [entryFields, setEntry, floorRecord, look_put_other _ _ _ h]
  case thermal => simp [entryFields, setEntry, look_put_other _ _ _ h]
  case sweep =>
    by_cases header : i = 0
    · simp [entryFields, setEntry, header, header ▸ h, sweepSlot]
    · by_cases other : j = 0
      · simp [entryFields, setEntry, header, other]
      · simp [entryFields, setEntry, header, other, sweepSlot, look_put_other _ _ _ (before i j header other h)]
  case contactor => exact absurd ((Nat.lt_one_iff.mp hj).trans (Nat.lt_one_iff.mp hi).symm) h
  case watch => exact absurd ((Nat.lt_one_iff.mp hj).trans (Nat.lt_one_iff.mp hi).symm) h

/-! ### Fields and bytes (10.5) -/

/-- The masks of the bytes of fields. -/
def byteMasks (widths : List Nat) (mask : Nat → Byte) : List Byte :=
  (widths.mapIdx fun k w => if w = 1 then [mask k] else [0xFF, 0xFF]).flatten

theorem byteMasks_cons (w : Nat) (ws : List Nat) (mask : Nat → Byte) :
    byteMasks (w :: ws) mask = (if w = 1 then [mask 0] else [0xFF, 0xFF]) ++ byteMasks ws fun k => mask (k + 1) := by
  rw [byteMasks, List.mapIdx_cons, List.flatten_cons]
  rfl

theorem beNat_one (a : Byte) : beNat [a] = a.toNat := by
  show 0 * 256 + a.toNat = a.toNat
  omega

theorem beNat_two (a b : Byte) : beNat [a, b] = a.toNat * 256 + b.toNat := by
  show (0 * 256 + a.toNat) * 256 + b.toNat = _
  omega

theorem byteOf_toNat_self (x : Byte) : byteOf x.toNat = x := BitVec.ofNat_toNat 8 x |>.trans (BitVec.setWidth_eq _)

theorem halfOf_toNat (x : Half) : halfOf x.toNat = x := BitVec.ofNat_toNat 16 x |>.trans (BitVec.setWidth_eq _)

/-- The fields of an entry's bytes, stored and packed again, are its bytes under the layout's masks. -/
theorem packFields_stored {widths : List Nat} (narrow : ∀ w ∈ widths, w = 1 ∨ w = 2) (mask : Nat → Byte) {bytes : List Byte}
    (length : bytes.length = widths.sum) :
    packFields widths (widths.mapIdx fun k w => storedField w (mask k) ((unpackFields widths bytes).getD k 0)) =
      bytes.zipWith (· &&& ·) (byteMasks widths mask) := by
  induction widths generalizing mask bytes with
  | nil =>
    rw [List.length_eq_zero_iff.mp length]
    rfl
  | cons w ws ih =>
    have rest := fun b => ih (fun x hx => narrow x (List.mem_cons_of_mem w hx)) (fun k => mask (k + 1)) (bytes := b)
    rw [List.sum_cons] at length
    rw [byteMasks_cons, List.mapIdx_cons, packFields, List.zipWith_cons_cons, List.flatten_cons, unpackFields]
    rcases narrow w List.mem_cons_self with one | two
    · subst one
      match bytes, length with
      | [], length => rw [List.length_nil] at length; omega
      | a :: more, length =>
        have tail := rest more (by rw [List.length_cons] at length; omega)
        rw [packFields] at tail
        simp only [List.take_succ_cons, List.take_zero, List.drop_succ_cons, List.drop_zero, List.getD_cons_zero, List.getD_cons_succ,
          beNat_one, storedField_one, fieldBytes, if_true, byteOf_toNat_self, List.singleton_append, List.zipWith_cons_cons, tail]
    · subst two
      match bytes, length with
      | [], length => rw [List.length_nil] at length; omega
      | [_], length => rw [List.length_singleton] at length; omega
      | a :: b :: more, length =>
        have tail := rest more (by simp only [List.length_cons] at length; omega)
        rw [packFields] at tail
        have pair := halfBytes_pair a b
        have wide : ¬ (2 : Nat) = 1 := by decide
        simp only [List.take_succ_cons, List.take_zero, List.drop_succ_cons, List.drop_zero, List.getD_cons_zero, List.getD_cons_succ,
          beNat_two, storedField_two, fieldBytes, halfOf_toNat, pair, if_neg wide, List.cons_append, List.nil_append,
          List.zipWith_cons_cons, and_0xFF, tail]

theorem fieldWidths_narrow (t : Table) (i : Nat) : ∀ w ∈ fieldWidths t i, w = 1 ∨ w = 2 := by
  cases t <;> simp only [fieldWidths] <;> (try split) <;> decide

/-- The bits of an entry's byte that the layout assigns (10.5, log 25). -/
def byteMask (t : Table) (i k : Nat) : Byte :=
  if t = .cellMap ∧ k = 0 then 0x8F
  else if t = .sweep ∧ i = 0 ∧ k = 2 then 0x0F
  else if t = .contactor ∧ k = 13 then 0x03
  else 0xFF

theorem byteMasks_fieldMask (t : Table) (i : Nat) :
    byteMasks (fieldWidths t i) (fieldMask t i) = (List.range (fieldWidths t i).sum).map (byteMask t i) := by
  by_cases header : i = 0
  · subst header
    cases t <;> decide
  · cases t <;> simp [byteMasks, fieldWidths, fieldMask, byteMask, header, List.range_succ]

theorem zipWith_masks (mask : Nat → Byte) (bytes : List Byte) :
    bytes.zipWith (· &&& ·) ((List.range bytes.length).map mask) = bytes.mapIdx fun k b => b &&& mask k := by
  apply List.ext_getElem
  · simp
  · intro k h _
    simp

theorem entryBytes_setEntry_self (img : Image) {t : Table} {i : Nat} (h : i < t.size) {bytes : List Byte}
    (length : bytes.length = entryWidth t i) :
    entryBytes (setEntry img t i (unpackFields (fieldWidths t i) bytes)) t i = bytes.mapIdx fun k b => b &&& byteMask t i k := by
  rw [entryWidth_eq_sum] at length
  rw [entryBytes, entryFields_setEntry_self img h, packFields_stored (fieldWidths_narrow t i) (fieldMask t i) length,
    byteMasks_fieldMask, ← length, zipWith_masks]

/-- Settles O60: the fields of the entry written, and of every other entry. -/
theorem entryRoundTrip : Obligations.EntryRoundTrip := by
  intro img t i bytes h length mask kept new
  refine ⟨?_, fun u j inside other => ?_⟩
  · have masked : (fun k b => b &&& byteMask t i k) = kept := by
      funext k b
      simp only [kept, byteMask]
      split
      next cell => rw [show mask = 0x8F by simp only [mask, cell.1]]
      split
      · rfl
      split
      · rfl
      · exact and_full b
    rw [← masked]
    exact entryBytes_setEntry_self img h length
  · show packFields _ (entryFields new u j) = packFields _ (entryFields img u j)
    by_cases same : u = t
    · subst same
      rw [entryFields_setEntry_index img h inside (other.resolve_left fun ne => ne rfl)]
    · rw [entryFields_setEntry_table img same]

end Sys2Proof.Machine
end
